-- ==== Sys2Proof/Word.lean ====
section
/-! DEFINITION. The fixed-width words of the WJ-4: a byte of a frame, and the wrapping counters and
sequence numbers that the manual gives as 8, 16 or 32 bit fields. Everything the manual only counts or
compares is a `Nat` or an `Int`. -/

namespace Sys2Proof

/-- One byte of a link frame, a lane frame or a table record (4.4: bit 0 is the least significant). -/
abbrev Byte := BitVec 8

/-- A 16-bit field: a tag, the batch number, a sample code. -/
abbrev Half := BitVec 16

/-- A 32-bit field: the panel sequence, the microsecond and seconds counters, a deadline. -/
abbrev Word := BitVec 32

end Sys2Proof
end

