-- ==== Sys2Proof/Config.lean ====
section
/-! DEFINITION. The fixed capacities and value limits of the part, each straight from the manual. The
manual leaves no result of a command undefined, so there is no free value here. -/

namespace Sys2Proof.Config

/-- Entries of the Outstanding Table (R22, check 6). -/
def outstandingCapacity : Nat := 16
/-- Outstanding entries of one lane (R22, check 7). -/
def laneCapacity : Nat := 4
/-- Entries of the Report Queue (R153). -/
def reportCapacity : Nat := 32
/-- Requests of the Merge Queue (R101). -/
def mergeCapacity : Nat := 16
/-- Entries of the Deferred List (R123). -/
def deferredCapacity : Nat := 64
/-- Records of the Event Queue (R176). -/
def eventCapacity : Nat := 64
/-- Frames of the reply list (R165). -/
def replyCapacity : Nat := 64
/-- Copies of the raw-copy buffer (R65). -/
def rawCapacity : Nat := 2
/-- Longest payload of a link frame (R164). -/
def linkPayloadMax : Nat := 1024
/-- Longest payload of a lane frame (R179). -/
def lanePayloadMax : Nat := 16391
/-- Largest pair count a lane port accepts (R56). -/
def pairCountMax : Nat := 4096
/-- Sample pairs of one RAW frame (R162). -/
def rawPairsMax : Nat := 252
/-- Members listed in one GROUP reply (R111). -/
def groupMembersMax : Nat := 64
/-- The value of an open resistance reading, OVER (R68, R70). -/
def overValue : Nat := 4294967295
/-- The largest value that is a result of a computation (R68). -/
def valueMax : Nat := 4294967294
/-- The largest magnitude of a stored offset, in codes (R15, R77). -/
def offsetMax : Nat := 4096
/-- The link error count saturates here (R164). -/
def linkErrorMax : Nat := 65535
/-- The lock timer abandons the switch here, in microseconds (R149). -/
def lockTimeout : Nat := 5000
/-- The longest marker interval a lane measures, in ticks (R48). -/
def intervalMax : Nat := 65535
/-- The silence timer's largest value, in ticks (R45). -/
def silenceMax : Nat := 16384
/-- Consecutive intervals that lock a rate (R49). -/
def lockRun : Nat := 6
/-- Ticks of the 100 MHz timebase in a microsecond (R147). -/
def ticksPerMicrosecond : Nat := 100
/-- Values of the microsecond counter, which wraps from 4,294,967,295 to 0 (R147). -/
def microsecondSpan : Nat := 4294967296
/-- Microseconds in a second (R147). -/
def microsecondsPerSecond : Nat := 1000000

end Sys2Proof.Config
end

