-- ==== Sys2Proof/Syntax.lean ====
section
/-! DEFINITION. The commands of the WJ-4: one constructor of `Instr` per row of
spec/opcode_table.json, with the row's operands. Every command carries `dt`, the timebase ticks that
pass from the taking of the command before it to its own taking (notes/assumptions/1.md). -/

namespace Sys2Proof

/-- Lanes are numbered 0 to 3 (4.2). -/
abbrev LaneId := Fin 4

/-- The excitation generators XG0 and XG1 (4.2). -/
abbrev GenId := Fin 2

/-- One sample pair (v, i) of a burst, two signed 16-bit codes (R56). -/
structure Sample where
  v : Half
  i : Half
  deriving DecidableEq, Repr

/-- A BURST frame as a lane port sees it (R56, R179): the outcome of the CRC-32 check, the payload length
field, and the fields of the payload. -/
structure BurstFrame where
  crcGood : Bool
  payloadLength : Nat
  tag : Half
  attempt : Byte
  contact : Byte
  pairCount : Half
  pairs : List Sample
  deriving DecidableEq, Repr

/-- A FAULT frame as a lane port sees it (R56, R179). -/
structure FaultFrame where
  crcGood : Bool
  payloadLength : Nat
  tag : Half
  attempt : Byte
  deriving DecidableEq, Repr

/-- The commands. In a downstream frame `seq` is the frame's sequence byte, which its REPLY carries
(R164). A frame command is a frame that has passed the checks of R164 and is of the row's kind; DISPATCH,
TABLE and BAD_REQUEST carry their payload as it arrived, the other requests their arguments (R167). -/
inductive Instr where
  /-- POWER_ON (R175). -/
  | powerOn (dt : Nat)
  /-- RESET_PIN_ASSERT (R175). -/
  | resetPinAssert (dt : Nat)
  /-- RESET_PIN_RELEASE (R175). -/
  | resetPinRelease (dt : Nat)
  /-- LINK_FRAME_ERROR (R164): the bytes received after a start delimiter, up to the end of the frame or to
  the idle symbol or delimiter that cut it short. -/
  | linkFrameError (dt : Nat) (received : List Byte)
  /-- REPLY_LIST_OVERFLOW (R165): a good frame of any kind; its content has no effect. -/
  | replyListOverflow (dt : Nat)
  /-- UNKNOWN_FRAME_KIND (R165): a good frame whose kind byte is none of 1, 2 and 3. -/
  | unknownFrameKind (dt : Nat) (seq kind : Byte)
  /-- DISPATCH (R22), with the payload as it arrived. -/
  | dispatch (dt : Nat) (seq : Byte) (payload : List Byte)
  /-- TABLE (R2), with the payload as it arrived: header, then records. -/
  | table (dt : Nat) (seq : Byte) (payload : List Byte)
  /-- BAD_REQUEST (R167): a REQUEST payload that spells no request of the table of R167. -/
  | badRequest (dt : Nat) (seq : Byte) (payload : List Byte)
  /-- GET (R168). -/
  | get (dt : Nat) (seq id : Byte)
  /-- SET_LANE_ENABLE (R46). -/
  | setLaneEnable (dt : Nat) (seq : Byte) (value : Word)
  /-- SET_EVENT_DELAY (R177). -/
  | setEventDelay (dt : Nat) (seq : Byte) (value : Word)
  /-- SET_RAW_COPY (R65). -/
  | setRawCopy (dt : Nat) (seq : Byte) (value : Word)
  /-- SET_LEARN_COUNT (R118). -/
  | setLearnCount (dt : Nat) (seq : Byte) (value : Word)
  /-- SET_DEFER_AGE (R125). -/
  | setDeferAge (dt : Nat) (seq : Byte) (value : Word)
  /-- SET_TB_SOURCE (R148). -/
  | setTbSource (dt : Nat) (seq : Byte) (value : Word)
  /-- SET_TB_FAIL (R152). -/
  | setTbFail (dt : Nat) (seq : Byte) (value : Word)
  /-- STATUS (R169). -/
  | status (dt : Nat) (seq : Byte)
  /-- FETCH_EVENT (R178). -/
  | fetchEvent (dt : Nat) (seq : Byte)
  /-- GROUP (R110). -/
  | group (dt : Nat) (seq slot : Byte) (net : Half)
  /-- PANEL_START (R170). -/
  | panelStart (dt : Nat) (seq populated xout : Byte)
  /-- XOUT (R171). -/
  | xout (dt : Nat) (seq slot : Byte)
  /-- BATCH_CLEAR (R172). -/
  | batchClear (dt : Nat) (seq : Byte)
  /-- LANE_RESET (R173). -/
  | laneReset (dt : Nat) (seq lane : Byte)
  /-- LINK_RESET (R174), the taking of the request. -/
  | linkReset (dt : Nat) (seq : Byte)
  /-- LINK_RESET_EFFECT (R174): the last byte of the LINK_RESET's REPLY is sent. -/
  | linkResetEffect (dt : Nat)
  /-- MARKER (R48) on a lane. -/
  | marker (dt : Nat) (lane : LaneId)
  /-- SILENCE_TIMEOUT (R52) of a lane. -/
  | silenceTimeout (dt : Nat) (lane : LaneId)
  /-- BURST (R57) on a lane. -/
  | burst (dt : Nat) (lane : LaneId) (frame : BurstFrame)
  /-- FAULT (R57) on a lane. -/
  | fault (dt : Nat) (lane : LaneId) (frame : FaultFrame)
  /-- REDUCTION_COMPLETE (R63) in a lane's reduction slot. -/
  | reductionComplete (dt : Nat) (lane : LaneId)
  /-- ATTEMPT_EXPIRY (R28) of a lane's open attempt. -/
  | attemptExpiry (dt : Nat) (lane : LaneId)
  /-- ORDER_SENT (R55) on a lane. -/
  | orderSent (dt : Nat) (lane : LaneId)
  /-- RELABEL (R105). -/
  | relabel (dt : Nat)
  /-- WALK_END (R107). -/
  | walkEnd (dt : Nat)
  /-- SCAN_STEP (R127). -/
  | scanStep (dt : Nat)
  /-- DEFERRAL_DEADLINE (R130): every deferred entry whose deadline is reached. -/
  | deferralDeadline (dt : Nat)
  /-- RETUNE_SETTLE_START (R143) of a generator. -/
  | retuneSettleStart (dt : Nat) (gen : GenId)
  /-- RETUNE_COMPLETE (R144) of a generator. -/
  | retuneComplete (dt : Nat) (gen : GenId)
  /-- LOOP_LOCK (R149). -/
  | loopLock (dt : Nat)
  /-- LOCK_TIMEOUT (R149). -/
  | lockTimeout (dt : Nat)
  /-- SWITCH_REFIN_LOSS (R149). -/
  | switchRefinLoss (dt : Nat)
  /-- FAILOVER (R151). -/
  | failover (dt : Nat)
  /-- MICROSECOND_WRAP (R147). -/
  | microsecondWrap (dt : Nat)
  /-- ATTN_SENT (R163). -/
  | attnSent (dt : Nat)
  /-- REPLY_SENT (R165). -/
  | replySent (dt : Nat)
  /-- REPORT_SENT (R156). -/
  | reportSent (dt : Nat)
  /-- RAW_FRAME_SENT (R162). -/
  | rawFrameSent (dt : Nat)
  /-- LANE_FRAME_DISCARD (R179): the bytes received after the start delimiter of the lane frame. -/
  | laneFrameDiscard (dt : Nat) (lane : LaneId) (received : List Byte)
  deriving DecidableEq, Repr

end Sys2Proof
end

