-- ==== Sys2Proof/Machine/Frames.lean ====
section
/-! DEFINITION. Byte order, the CRC-32, and the two receivers: what a run of received bytes is on the
Controller Link (R164) and on a lane (R179). -/

namespace Sys2Proof.Machine

/-- A number as one byte, its low 8 bits. -/
def byte (x : Nat) : Byte := BitVec.ofNat 8 x

/-- A number as two bytes, most significant first (4.4, R179). -/
def be16 (x : Nat) : List Byte := [byte (x / 256), byte x]

/-- A number as four bytes, most significant first (4.4, R179). -/
def be32 (x : Nat) : List Byte :=
  [byte (x / 16777216), byte (x / 65536), byte (x / 256), byte x]

/-- A signed code as two bytes, two's complement, most significant first (R179). -/
def beInt16 (x : Int) : List Byte := be16 (BitVec.ofInt 16 x).toNat

/-- The number that a run of bytes spells, most significant first. -/
def beNat (bs : List Byte) : Nat := bs.foldl (fun a b => a * 256 + b.toNat) 0

/-- `n` bytes from byte `at` of a run, as a number; bytes beyond the end read as nothing. -/
def fieldAt (bs : List Byte) (start n : Nat) : Nat := beNat ((bs.drop start).take n)

/-- A flag as a bit of weight `w`. -/
def bitIf (b : Bool) (w : Nat) : Nat := if b then w else 0

/-- One bit of the CRC-32 register, bits taken least significant first: the reflected form of the
generator polynomial of R164. -/
def crcBit (r : Word) : Word :=
  if r.getLsbD 0 then (r >>> 1) ^^^ 0xEDB88320#32 else r >>> 1

/-- One byte into the CRC-32 register (R164). -/
def crcByte (r : Word) (b : Byte) : Word :=
  Nat.repeat crcBit 8 (r ^^^ b.zeroExtend 32)

/-- The CRC-32 of R164: register at all ones at the start, complemented at the end. -/
def crc32 (bs : List Byte) : Word := ~~~(bs.foldl crcByte 0xFFFFFFFF#32)

/-- A good frame of the Controller Link: kind, sequence and payload (R164). -/
structure LinkFrame where
  kind : Byte
  seq : Byte
  payload : List Byte
  deriving DecidableEq, Repr

/-- The CLP receiver on the bytes that followed a start delimiter (R164): `none` when the frame is
discarded (length field over 1,024, cut short, wrong CRC), bytes after the frame ignored. -/
def receiveLink (bs : List Byte) : Option LinkFrame :=
  let len := fieldAt bs 2 2
  if bs.length < 4 then none
  else if Config.linkPayloadMax < len then none
  else if bs.length < len + 8 then none
  else if fieldAt bs (len + 4) 4 = (crc32 (bs.take (len + 4))).toNat then
    some { kind := byte (fieldAt bs 0 1), seq := byte (fieldAt bs 1 1),
           payload := (bs.drop 4).take len }
  else none

/-- The bytes that follow the delimiter of a link frame (R164): header, payload, CRC-32. -/
def linkFrameBytes (f : LinkFrame) : List Byte :=
  let body := f.kind :: f.seq :: (be16 f.payload.length ++ f.payload)
  body ++ be32 (crc32 body).toNat

/-- The sample pairs that a run of bytes spells, v then i, 2 bytes each; a tail of fewer than 4 bytes is no
pair (R179). -/
def samplesOf : List Byte → List Sample
  | a :: b :: c :: d :: rest =>
    { v := BitVec.ofNat 16 (beNat [a, b]), i := BitVec.ofNat 16 (beNat [c, d]) } :: samplesOf rest
  | _ => []

/-- The bytes of sample pairs, v then i, 2 bytes each (R179). -/
def sampleBytes : List Sample → List Byte
  | [] => []
  | p :: rest => be16 p.v.toNat ++ be16 p.i.toNat ++ sampleBytes rest

/-- A lane frame's envelope (R179): the payload when length and delimiter rules of R164 hold with 16,391
and length + 6 in place, and whether its CRC-32 is right; `none` when it is cut short or too long. -/
def receiveLane (bs : List Byte) : Option (List Byte × Bool) :=
  let len := fieldAt bs 0 2
  if bs.length < 2 then none
  else if Config.lanePayloadMax < len then none
  else if bs.length < len + 6 then none
  else some ((bs.drop 2).take len,
    fieldAt bs (len + 2) 4 == (crc32 (bs.take (len + 2))).toNat)

/-- The bytes that follow the delimiter of a lane frame (R179). -/
def laneFrameBytes (payload : List Byte) : List Byte :=
  let body := be16 payload.length ++ payload
  body ++ be32 (crc32 body).toNat

/-- A BURST frame passes the checks of R56. -/
def burstGood (f : BurstFrame) : Bool :=
  f.crcGood && decide (f.pairCount.toNat ≤ Config.pairCountMax)
    && (f.payloadLength == 7 + 4 * f.pairCount.toNat) && (f.pairs.length == f.pairCount.toNat)

/-- A FAULT frame passes the checks of R56: its payload is kind, tag and attempt alone, 4 bytes (R179). -/
def faultGood (f : FaultFrame) : Bool := f.crcGood && (f.payloadLength == 4)

/-- A REQUEST payload spells no request of the table of R167: no or an unknown kind byte, a length other than
1 plus the argument length, or a SET of no setting (R168). Argument ranges are checked by the requests. -/
def requestMalformed (payload : List Byte) : Bool :=
  match payload with
  | [] => true
  | k :: args =>
    match k.toNat with
    | 1 => args.length != 1
    | 2 => args.length != 5 || fieldAt args 0 1 == 0 || decide (7 < fieldAt args 0 1)
    | 3 => args.length != 0
    | 4 => args.length != 0
    | 5 => args.length != 3
    | 6 => args.length != 2
    | 7 => args.length != 1
    | 8 => args.length != 0
    | 9 => args.length != 1
    | 10 => args.length != 0
    | _ => true

/-- The kind byte is one of the downstream kinds DISPATCH, TABLE and REQUEST (R165, R179). -/
def knownKind (kind : Byte) : Bool := kind == 1#8 || kind == 2#8 || kind == 3#8

end Sys2Proof.Machine
end

