-- ==== Sys2Proof/WellFormed.lean ====
section
/-! DEFINITION. What a command's operands must be for it to be an event of its row. -/

namespace Sys2Proof

/-- A payload a link frame can carry (R164). -/
def linkPayloadOk (payload : List Byte) : Bool := decide (payload.length ≤ Config.linkPayloadMax)

/-- A command spells an event of its row: payloads fit a frame (R164, R179), an erroneous frame is
erroneous, an unknown kind is unknown (R165), a bad request is malformed (R167), a lane frame's pairs lie
within its payload, a discarded lane frame is one that R179 discards before the matching. -/
def Instr.WellFormed : Instr → Bool
  | .linkFrameError _ received => (Machine.receiveLink received).isNone
  | .unknownFrameKind _ _ kind => !Machine.knownKind kind
  | .dispatch _ _ payload => linkPayloadOk payload
  | .table _ _ payload => linkPayloadOk payload
  | .badRequest _ _ payload => linkPayloadOk payload && Machine.requestMalformed payload
  | .burst _ _ f =>
    decide (f.payloadLength ≤ Config.lanePayloadMax)
      && decide (4 * f.pairs.length + 7 ≤ max 7 f.payloadLength)
  | .fault _ _ f => decide (f.payloadLength ≤ Config.lanePayloadMax)
  | .laneFrameDiscard _ _ received =>
    match Machine.receiveLane received with
    | none => true
    | some (payload, _) => payload.head? != some 2#8 && payload.head? != some 3#8
  | _ => true

end Sys2Proof
end

