-- ==== Sys2Proof/Decode.lean ====
section
/-! DEFINITION. The opcode table gives its rows no bits, so `decodeTableWord` reads nothing. What arrives on
the wires does spell commands: `commandOfLink` reads the bytes of a downstream frame (R164, R165, R167,
R179), `commandOfLane` those of a lane frame (R56, R179). -/

namespace Sys2Proof

/-- The rows of spec/opcode_table.json carry no bits: no word spells a command. -/
def decodeTableWord (_nbits _w : Nat) : Option Instr := none

/-- The command that a REQUEST payload spells (R167, R179); whatever spells none is a BAD_REQUEST. -/
def commandOfRequest (dt : Nat) (seq : Byte) (payload : List Byte) : Instr :=
  if Machine.requestMalformed payload then .badRequest dt seq payload
  else
    let value : Word := BitVec.ofNat 32 (Machine.fieldAt payload 2 4)
    let arg (i : Nat) : Byte := Machine.byte (Machine.fieldAt payload i 1)
    match Machine.fieldAt payload 0 1 with
    | 1 => .get dt seq (arg 1)
    | 2 =>
      match Machine.fieldAt payload 1 1 with
      | 1 => .setLaneEnable dt seq value
      | 2 => .setEventDelay dt seq value
      | 3 => .setRawCopy dt seq value
      | 4 => .setLearnCount dt seq value
      | 5 => .setDeferAge dt seq value
      | 6 => .setTbSource dt seq value
      | _ => .setTbFail dt seq value
    | 3 => .status dt seq
    | 4 => .fetchEvent dt seq
    | 5 => .group dt seq (arg 1) (BitVec.ofNat 16 (Machine.fieldAt payload 2 2))
    | 6 => .panelStart dt seq (arg 1) (arg 2)
    | 7 => .xout dt seq (arg 1)
    | 8 => .batchClear dt seq
    | 9 => .laneReset dt seq (arg 1)
    | _ => .linkReset dt seq

/-- The command that the bytes after a start delimiter on the Controller Link spell (R164, R165). -/
def commandOfLink (dt : Nat) (received : List Byte) : Instr :=
  match Machine.receiveLink received with
  | none => .linkFrameError dt received
  | some f =>
    match f.kind.toNat with
    | 1 => .dispatch dt f.seq f.payload
    | 2 => .table dt f.seq f.payload
    | 3 => commandOfRequest dt f.seq f.payload
    | _ => .unknownFrameKind dt f.seq f.kind

/-- The command that the bytes after a start delimiter on a lane spell (R56, R179). -/
def commandOfLane (dt : Nat) (lane : LaneId) (received : List Byte) : Instr :=
  match Machine.receiveLane received with
  | none => .laneFrameDiscard dt lane received
  | some (payload, crcGood) =>
    match payload.head?.map BitVec.toNat with
    | some 2 =>
      .burst dt lane
        { crcGood := crcGood, payloadLength := payload.length,
          tag := BitVec.ofNat 16 (Machine.fieldAt payload 1 2),
          attempt := Machine.byte (Machine.fieldAt payload 3 1),
          contact := Machine.byte (Machine.fieldAt payload 4 1),
          pairCount := BitVec.ofNat 16 (Machine.fieldAt payload 5 2),
          pairs := Machine.samplesOf (payload.drop 7) }
    | some 3 =>
      .fault dt lane
        { crcGood := crcGood, payloadLength := payload.length,
          tag := BitVec.ofNat 16 (Machine.fieldAt payload 1 2),
          attempt := Machine.byte (Machine.fieldAt payload 3 1) }
    | _ => .laneFrameDiscard dt lane received

end Sys2Proof
end

