-- ==== Sys2Proof/Machine/Indexed.lean ====
section
/-! DEFINITION. Indexed data as plain data: one value per lane, one per generator, and sparse tables in
one canonical form (indices strictly rising, no entry equal to what an unlisted index reads as). -/

namespace Sys2Proof.Machine

/-- One value for each of lanes 0 to 3. -/
structure PerLane (α : Type) where
  l0 : α
  l1 : α
  l2 : α
  l3 : α
  deriving DecidableEq, Repr

/-- The value of a lane. -/
def PerLane.get {α : Type} (p : PerLane α) (n : LaneId) : α :=
  match n with
  | 0 => p.l0
  | 1 => p.l1
  | 2 => p.l2
  | 3 => p.l3

/-- The values with one lane's replaced. -/
def PerLane.set {α : Type} (p : PerLane α) (n : LaneId) (x : α) : PerLane α :=
  match n with
  | 0 => { p with l0 := x }
  | 1 => { p with l1 := x }
  | 2 => { p with l2 := x }
  | 3 => { p with l3 := x }

/-- Every lane's value changed by a function. -/
def PerLane.map {α β : Type} (f : α → β) (p : PerLane α) : PerLane β :=
  { l0 := f p.l0, l1 := f p.l1, l2 := f p.l2, l3 := f p.l3 }

/-- The same value for every lane. -/
def PerLane.fill {α : Type} (x : α) : PerLane α := { l0 := x, l1 := x, l2 := x, l3 := x }

/-- The four lanes in order. -/
def allLanes : List LaneId := [0, 1, 2, 3]

/-- One value for each of XG0 and XG1. -/
structure PerGen (α : Type) where
  g0 : α
  g1 : α
  deriving DecidableEq, Repr

/-- The value of a generator. -/
def PerGen.get {α : Type} (p : PerGen α) (g : GenId) : α :=
  match g with
  | 0 => p.g0
  | 1 => p.g1

/-- The values with one generator's replaced. -/
def PerGen.set {α : Type} (p : PerGen α) (g : GenId) (x : α) : PerGen α :=
  match g with
  | 0 => { p with g0 := x }
  | 1 => { p with g1 := x }

/-- Both generators' values changed by a function. -/
def PerGen.map {α β : Type} (f : α → β) (p : PerGen α) : PerGen β :=
  { g0 := f p.g0, g1 := f p.g1 }

/-- A table held sparsely: the listed indices with their records. -/
abbrev Sparse (α : Type) := List (Nat × α)

/-- The record at an index: the listed one, else what an unlisted index holds. -/
def Sparse.get {α : Type} (dflt : Nat → α) : Sparse α → Nat → α
  | [], k => dflt k
  | (a, x) :: rest, k => if a = k then x else Sparse.get dflt rest k

/-- The table with one record replaced, kept in the canonical form. -/
def Sparse.put {α : Type} [DecidableEq α] (dflt : Nat → α) : Sparse α → Nat → α → Sparse α
  | [], k, x => if x = dflt k then [] else [(k, x)]
  | (a, y) :: rest, k, x =>
    if k < a then
      (if x = dflt k then (a, y) :: rest else (k, x) :: (a, y) :: rest)
    else if k = a then
      (if x = dflt k then rest else (k, x) :: rest)
    else (a, y) :: Sparse.put dflt rest k x

/-- Every listed index is at least `lo`, they rise strictly, and no record is the unlisted one. -/
def Sparse.wfFrom {α : Type} [DecidableEq α] (dflt : Nat → α) : Nat → Sparse α → Bool
  | _, [] => true
  | lo, (a, x) :: rest => decide (lo ≤ a) && !decide (x = dflt a) && Sparse.wfFrom dflt (a + 1) rest

/-- The canonical form of a sparse table. -/
def Sparse.wf {α : Type} [DecidableEq α] (dflt : Nat → α) (t : Sparse α) : Bool :=
  Sparse.wfFrom dflt 0 t

end Sys2Proof.Machine
end

