-- ==== Sys2Proof/Machine/State.lean ====
section
/-! DEFINITION. The state of the WJ-4, block by block, as plain data, and its value right after
power-on. Fields marked MODEL are not the manual's; notes/assumptions says why each is there. -/

namespace Sys2Proof.Machine

/-! ### Test tables and panels (chapter 1) -/

/-- Measurement methods (R5). -/
inductive Method where
  | res | cap | vf | zero
  deriving DecidableEq, Repr

/-- Step classes (R5). -/
inductive StepClass where
  | iso | cont | comp | sig
  deriving DecidableEq, Repr

/-- A LOADED Step Table record (R5). -/
structure StepRecord where
  method : Method
  cls : Option StepClass
  netA : Option Nat
  netB : Option Nat
  range : Nat
  freq : Option Nat
  samples : Nat
  stimulus : Nat
  low : Option Nat
  high : Option Nat
  tolerance : Option Nat
  exponent : Nat
  retryLimit : Nat
  budget : Nat
  deriving DecidableEq, Repr

/-- A Net Table record (R8). -/
structure NetRecord where
  excluded : Bool
  preset : Option Nat
  deriving DecidableEq, Repr

/-- A LOADED Range Table record (R11). -/
structure RangeRecord where
  kv : Nat
  ki : Nat
  floor : Nat
  clip : Nat
  next : Option Nat
  deriving DecidableEq, Repr

/-- A Frequency Table record (R13). -/
structure FreqRecord where
  divider : Nat
  g : Nat
  settle : Nat
  deriving DecidableEq, Repr

/-- An Offset Table entry (zv, zi) in codes (R15). -/
structure Offset where
  zv : Int
  zi : Int
  deriving DecidableEq, Repr

/-- The Table Store. A record absent from a sparse list holds its power-on content. The offset of lane
n and range r stands at index 32 × n + r. -/
structure TableStore where
  steps : Sparse (Option StepRecord)
  nets : Sparse NetRecord
  ranges : Sparse (Option RangeRecord)
  freqs : Sparse FreqRecord
  offsets : Sparse Offset
  deriving DecidableEq, Repr

/-- Board slot states (R16). -/
inductive SlotState where
  | empty | active | xout
  deriving DecidableEq, Repr

/-- The Board Map (R16); a slot absent from the sparse list is EMPTY. -/
structure BoardMap where
  slots : Sparse SlotState
  panelOpen : Bool
  panelSequence : Word
  batch : Half
  deriving DecidableEq, Repr

/-! ### Dispatches (chapter 2) and quantities (chapter 4) -/

/-- States of an Outstanding entry (R24). -/
inductive EntryState where
  | queued | waitExc | forwarded | judging
  deriving DecidableEq, Repr

/-- Triggers found by the DU (R32). -/
inductive Trigger where
  | timeout | contact | burstBad | tbFault
  deriving DecidableEq, Repr

/-- Kinds of a quantity result with what each carries (R69). -/
inductive QuantityKind where
  | value (v : Nat) (saturated : Bool)
  | openReading
  | polarity
  | noExcitation
  | offsets (v : Nat) (z : Offset) (within : Bool)
  deriving DecidableEq, Repr

/-- A quantity result (R69). -/
structure Quantity where
  method : Method
  kind : QuantityKind
  clip : Nat
  deriving DecidableEq, Repr

/-- Outcomes fixed by events that do not wait for the Report Queue (R36). -/
inductive FixedOutcome where
  | skip | laneLost | laneReset
  deriving DecidableEq, Repr

/-- An Outstanding entry (R24), with its trigger or quantity result (R31, R63). Its acceptance order is
its position in the table. -/
structure Entry where
  tag : Half
  panel : Word
  slot : Nat
  step : Nat
  lane : LaneId
  state : EntryState
  attempt : Nat
  range : Nat
  gen : Option GenId
  tbFault : Bool
  xoutMark : Bool
  retried : Bool
  rangeStepped : Bool
  tbInternal : Bool
  raw : Bool
  deadline : Option Word
  outcome : Option FixedOutcome
  trigger : Option Trigger
  result : Option Quantity
  deriving DecidableEq, Repr

/-! ### Lane ports (chapter 3) -/

/-- Lane states (R45). -/
inductive LaneState where
  | disabled | training | up | failed
  deriving DecidableEq, Repr

/-- Lane rates in Mbit/s (R47). -/
inductive Rate where
  | r25 | r50 | r100 | r200
  deriving DecidableEq, Repr

/-- The (tag, attempt) of an open or last closed attempt (R27, R29). -/
structure AttemptId where
  tag : Half
  attempt : Nat
  deriving DecidableEq, Repr

/-- An ORDER (R55). -/
structure Order where
  tag : Half
  attempt : Nat
  range : Nat
  samples : Nat
  stimulus : Nat
  gen : Option GenId
  deriving DecidableEq, Repr

/-- A lane port (R45). Tick counts are those of `Timebase.ticks`. -/
structure Lane where
  state : LaneState
  rate : Rate
  lastMarker : Option Nat
  runCandidate : Option Rate
  runFirst : Option Nat
  runCount : Nat
  silence : Nat
  openAttempt : Option AttemptId
  lastClosed : Option AttemptId
  selection : Option GenId
  order : Option Order
  deriving DecidableEq, Repr

/-- A REDUCING reduction slot (R60); an IDLE slot is absent. `burst` (MODEL) holds the sample pairs not yet
taken into the sums. -/
structure Reduction where
  tag : Half
  attempt : Nat
  method : Method
  samples : Nat
  offset : Offset
  sumV : Int
  sumI : Int
  corrV : Int
  corrI : Int
  sqV : Nat
  sqI : Nat
  clip : Nat
  taken : Nat
  burst : List Sample
  deriving DecidableEq, Repr

/-- A raw copy and its progress upstream (R65, R162). -/
structure RawCopy where
  lane : LaneId
  tag : Half
  attempt : Nat
  range : Nat
  offset : Offset
  samples : Nat
  pairs : List Sample
  nextPair : Nat
  deriving DecidableEq, Repr

/-! ### Net State and short groups (chapters 5 and 6) -/

/-- States of a net, in rising rank (R97). -/
inductive NetRank where
  | untested | pass | fail | short
  deriving DecidableEq, Repr

/-- A Net State record (R97, R100). An absent `next` is END. The record of (slot, net) stands at index
4,096 × slot + net. -/
structure NetState where
  state : NetRank
  leader : Nat
  next : Option Nat
  tail : Nat
  count : Nat
  deriving DecidableEq, Repr

/-- A merge request (R101); `report` is the `id` of its HELD report's Report Queue entry. -/
structure MergeRequest where
  slot : Nat
  netA : Nat
  netB : Nat
  report : Nat
  deriving DecidableEq, Repr

/-- A WALKING merge walk (R104); an absent position is END. -/
structure Walk where
  request : MergeRequest
  low : Nat
  high : Nat
  position : Option Nat
  deriving DecidableEq, Repr

/-- The Short Group Unit (R101), less the waiting GROUP requests, which stand in the reply list. -/
structure ShortGroups where
  queue : List MergeRequest
  walk : Option Walk
  incomplete : Byte
  deriving DecidableEq, Repr

/-! ### Signatures (chapter 7) -/

/-- Timebase sources (R146). -/
inductive Source where
  | internal | reference
  deriving DecidableEq, Repr

/-- A learning entry (R117). -/
structure LearnEntry where
  value : Nat
  panel : Word
  slot : Nat
  source : Source
  deriving DecidableEq, Repr

/-- Signature state of a net (R117). -/
structure NetSignature where
  list : List LearnEntry
  source : Option Source
  reference : Option Nat
  deriving DecidableEq, Repr

/-- Flags that a report carries (R94). -/
structure ReportFlags where
  retried : Bool
  rangeStepped : Bool
  saturated : Bool
  tbInternal : Bool
  notLearned : Bool
  deriving DecidableEq, Repr

/-- A Deferred List entry (R124). -/
structure DeferredEntry where
  tag : Half
  panel : Word
  slot : Nat
  step : Nat
  net : Nat
  value : Nat
  tolerance : Nat
  attempts : Nat
  finalRange : Nat
  flags : ReportFlags
  deadline : Word
  expired : Bool
  deriving DecidableEq, Repr

/-- The resolution scan (R126); an absent position is the end of the list, a present one an index of the
Deferred List. `paused` is R128's pause. -/
structure Scan where
  scanning : Bool
  position : Option Nat
  rescan : Bool
  paused : Bool
  deriving DecidableEq, Repr

/-- The Signature Unit (R117, R118, R124, R125, R126). -/
structure Signatures where
  nets : Sparse NetSignature
  inForceK : Nat
  nextK : Nat
  deferAge : Nat
  deferred : List DeferredEntry
  deferredTags : List Half
  scan : Scan
  deriving DecidableEq, Repr

/-! ### Excitation and timebase (chapter 8) -/

/-- Generator states (R136). -/
inductive GenState where
  | idle | running | retuning
  deriving DecidableEq, Repr

/-- A generator (R136). An absent frequency is STALE, an absent output AT_REST. The last five fields are
MODEL: the record read at the start of a retune, the phase of the retune, and the pending restart of the
settling (R143, R145). -/
structure Generator where
  state : GenState
  frequency : Option Nat
  target : Option Nat
  users : Nat
  output : Option Nat
  origin : Option Nat
  settleRemaining : Nat
  latchDivider : Nat
  latchSettle : Nat
  oldCycleEnd : Option Nat
  settling : Bool
  restart : Bool
  deriving DecidableEq, Repr

/-- The frequency-locking loop (R146). -/
inductive Loop where
  | off | locking | locked
  deriving DecidableEq, Repr

/-- The timebase (R146). `ticks` and `lockFraction` are MODEL: the tick count that marker times and cycle
origins are taken from, and the ticks toward the lock timer's next microsecond. -/
structure Timebase where
  source : Source
  pendingSwitch : Option Source
  loop : Loop
  lockTimer : Nat
  tbFail : Bool
  microseconds : Word
  microFraction : Nat
  seconds : Word
  secondFraction : Nat
  ticks : Nat
  lockFraction : Nat
  deriving DecidableEq, Repr

/-! ### Report Queue (chapter 9) -/

/-- Report kinds (R94). -/
inductive ReportKind where
  | verdict | pending | resolved
  deriving DecidableEq, Repr

/-- Verdicts (R94). -/
inductive Verdict where
  | pass | failLow | failHigh | openNet | short | range | void | skip | unref
  deriving DecidableEq, Repr

/-- Void causes (R94). -/
inductive VoidCause where
  | timeout | contact | burstBad | timebase | laneLost | laneReset
  deriving DecidableEq, Repr

/-- The group leader field of a report (R94). -/
inductive GroupLeader where
  | absent | unresolved | net (n : Nat)
  deriving DecidableEq, Repr

/-- A report (R94). -/
structure Report where
  kind : ReportKind
  tag : Half
  panel : Word
  slot : Nat
  step : Nat
  verdict : Option Verdict
  cause : Option VoidCause
  value : Option Nat
  exponent : Nat
  attempts : Nat
  finalRange : Nat
  flags : ReportFlags
  leader : GroupLeader
  timestamp : Word
  deriving DecidableEq, Repr

/-- A Report Queue entry (R153). `id` is MODEL: the name by which a merge request refers to it. -/
structure ReportEntry where
  id : Nat
  report : Report
  held : Bool
  inTransmission : Bool
  deriving DecidableEq, Repr

/-- The two sides that wait for a place (R153). -/
inductive Side where
  | dispatch | signature
  deriving DecidableEq, Repr

/-- The Report Unit (R153). `nextId` (MODEL) is the id of the next entry placed. -/
structure ReportUnit where
  queue : List ReportEntry
  turn : Side
  sequence : Byte
  nextId : Nat
  deriving DecidableEq, Repr

/-! ### Controller Link and events (chapter 10) -/

/-- Reply codes (R166). -/
inductive ReplyCode where
  | accepted | ok | busy | badRequest | badSegment | badRecord | inUse | badDispatch
  | noPanel | badStep | badSlot | laneDown | dupTag | tableFull | laneFull
  deriving DecidableEq, Repr

/-- A frame's answer: none yet for a waiting GROUP request (R110), else a code with its data (R166). -/
inductive Answer where
  | waitingGroup (slot net : Nat)
  | given (code : ReplyCode) (data : List Byte)
  deriving DecidableEq, Repr

/-- A frame of the reply list (R165): the kind and sequence it arrived with, its answer, and whether it is
the LINK_RESET whose sent REPLY is the reset (R174). -/
structure ReplyEntry where
  kind : Byte
  seq : Byte
  answer : Answer
  linkReset : Bool
  deriving DecidableEq, Repr

/-- Upstream frame kinds (R163, R179). -/
inductive UpKind where
  | reply | attn | report | raw
  deriving DecidableEq, Repr

/-- The upstream frame in transmission (R163). -/
structure UpFrame where
  kind : UpKind
  seq : Byte
  payload : List Byte
  deriving DecidableEq, Repr

/-- The Controller Link Port (R163 to R165, R174) with the settings LANE_ENABLE and RAW_COPY (R168). -/
structure LinkPort where
  laneEnable : BitVec 4
  rawCopy : Bool
  replies : List ReplyEntry
  receiving : Bool
  linkErrors : Nat
  transmitting : Option UpFrame
  deriving DecidableEq, Repr

/-- Event codes (R178). -/
inductive EventCode where
  | powerUp | laneFailed | clockFail | mergeDropped | laneUp | tbSwitched | referenceFrozen
  | deferredExpired | deferFull | lateBurst | strayBurst | rawDropped | timeWrap
  deriving DecidableEq, Repr

/-- An event record (R176). -/
structure EventRecord where
  code : EventCode
  urgent : Bool
  parameter : Half
  timestamp : Word
  deriving DecidableEq, Repr

/-- The Event Unit (R176, R177) with the setting EVENT_DELAY. -/
structure EventUnit where
  queue : List EventRecord
  overflow : Bool
  latch : Bool
  notice : Bool
  delay : Bool
  deriving DecidableEq, Repr

/-! ### The machine -/

/-- The state of the part. `pending` (MODEL) is the queue of commands that wait, first in, first out;
`resetLow` is the RESET pin held low (R175). -/
structure State where
  pending : List Instr
  resetLow : Bool
  tables : TableStore
  board : BoardMap
  entries : List Entry
  lanes : PerLane Lane
  reductions : PerLane (Option Reduction)
  raw : List RawCopy
  netStates : Sparse NetState
  groups : ShortGroups
  sigs : Signatures
  gens : PerGen Generator
  tb : Timebase
  reports : ReportUnit
  link : LinkPort
  events : EventUnit
  deriving DecidableEq, Repr

/-- No command of this block faults: the manual describes no stop of the part. Safe: nothing raises it. -/
inductive Fault where
  deriving DecidableEq, Repr

/-- Why a command has no meaning. -/
inductive Refusal where
  /-- The command's row has no meaning in this model yet; raised by `exec`'s arm alone. Safe: the run
  stops. No arm raises it. -/
  | notModelled (mnemonic : String)
  deriving DecidableEq, Repr

/-! ### Power-on values -/

/-- A lane port in TRAINING with the reset values of R45. -/
def Lane.reset : Lane :=
  { state := .training, rate := .r25, lastMarker := none, runCandidate := none, runFirst := none,
    runCount := 0, silence := 0, openAttempt := none, lastClosed := none, selection := none,
    order := none }

/-- A generator with the reset values of R136. -/
def Generator.reset : Generator :=
  { state := .idle, frequency := none, target := none, users := 0, output := none, origin := none,
    settleRemaining := 0, latchDivider := 0, latchSettle := 0, oldCycleEnd := none,
    settling := false, restart := false }

/-- Every block at its power-on values (the last columns of R16, R45, R101, R117, R118, R126, R136, R146,
R153, R168 and the rules they name), the RESET pin high, no event posted yet. -/
def State.blank : State :=
  { pending := []
    resetLow := false
    tables := { steps := [], nets := [], ranges := [], freqs := [], offsets := [] }
    board := { slots := [], panelOpen := false, panelSequence := 0, batch := 0 }
    entries := []
    lanes := PerLane.fill Lane.reset
    reductions := PerLane.fill none
    raw := []
    netStates := []
    groups := { queue := [], walk := none, incomplete := 0 }
    sigs :=
      { nets := [], inForceK := 3, nextK := 3, deferAge := 1800, deferred := [], deferredTags := [],
        scan := { scanning := false, position := none, rescan := false, paused := false } }
    gens := { g0 := Generator.reset, g1 := Generator.reset }
    tb :=
      { source := .internal, pendingSwitch := none, loop := .off, lockTimer := 0, tbFail := false,
        microseconds := 0, microFraction := 0, seconds := 0, secondFraction := 0, ticks := 0,
        lockFraction := 0 }
    reports := { queue := [], turn := .dispatch, sequence := 0, nextId := 0 }
    link :=
      { laneEnable := 15, rawCopy := false, replies := [], receiving := true, linkErrors := 0,
        transmitting := none }
    events := { queue := [], overflow := false, latch := false, notice := false, delay := false } }

/-- The part right after power-on (R175): the power-on values, POWER_UP with cause 0 in the Event Queue, and
the ATTN it raises (R177), the first upstream frame, in transmission. -/
def State.reset : State :=
  { State.blank with
    link := { State.blank.link with
      transmitting := some { kind := .attn, seq := 0, payload := [1, 0] } }
    events := { State.blank.events with
      queue := [{ code := .powerUp, urgent := true, parameter := 0, timestamp := 0 }]
      latch := true } }

end Sys2Proof.Machine
end

