-- ==== Sys2Proof/Machine/Ops.lean ====
section
/-! DEFINITION. Named reads and writes of the state: table records at an index, Outstanding entries by tag,
lanes, generators, Net State and signature records, fill levels, and the posting of events. -/

namespace Sys2Proof.Machine

/-! ### Table records and what an unwritten index holds -/

/-- A step record to read where none is LOADED; a dispatch never names one (R22, R4). -/
def StepRecord.blank : StepRecord :=
  { method := .res, cls := none, netA := none, netB := none, range := 0, freq := none, samples := 0,
    stimulus := 0, low := none, high := none, tolerance := none, exponent := 0, retryLimit := 0,
    budget := 0 }

/-- A range record to read where none is LOADED; a current range is always LOADED (R11). -/
def RangeRecord.blank : RangeRecord := { kv := 0, ki := 0, floor := 0, clip := 0, next := none }

/-- Power-on content of the Step Table: EMPTY (R5). -/
def stepInitial (_ : Nat) : Option StepRecord := none

/-- Power-on content of the Net Table: not excluded, preset absent (R8). -/
def netInitial (_ : Nat) : NetRecord := { excluded := false, preset := none }

/-- Power-on content of the Range Table: EMPTY (R11). -/
def rangeInitial (_ : Nat) : Option RangeRecord := none

/-- Power-on content of the Frequency Table: divider 50,000, G 1, settle cycles 1 (R13). -/
def freqInitial (_ : Nat) : FreqRecord := { divider := 50000, g := 1, settle := 1 }

/-- Power-on content of the Offset Table: (0, 0) (R15). -/
def offsetInitial (_ : Nat) : Offset := { zv := 0, zi := 0 }

/-- Power-on slot state: EMPTY (R16). -/
def slotInitial (_ : Nat) : SlotState := .empty

/-- Initial Net State of the record at index 4,096 × slot + net: UNTESTED, a group of one (R97, R100). -/
def netStateInitial (k : Nat) : NetState :=
  { state := .untested, leader := k % 4096, next := none, tail := k % 4096, count := 1 }

/-- Initial signature state of a net (R117). -/
def signatureInitial (_ : Nat) : NetSignature := { list := [], source := none, reference := none }

/-- The Step Table record at an index, absent when EMPTY. -/
def State.stepAt (s : State) (i : Nat) : Option StepRecord := s.tables.steps.get stepInitial i

/-- The step record of an Outstanding entry (R4, R7). -/
def State.stepOf (s : State) (e : Entry) : StepRecord := (s.stepAt e.step).getD StepRecord.blank

/-- The Net Table record of a net. -/
def State.netAt (s : State) (n : Nat) : NetRecord := s.tables.nets.get netInitial n

/-- The Range Table record at an index, absent when EMPTY. -/
def State.rangeAt (s : State) (i : Nat) : Option RangeRecord := s.tables.ranges.get rangeInitial i

/-- The range record in force for an entry: that of its current range (R12). -/
def State.rangeOf (s : State) (e : Entry) : RangeRecord := (s.rangeAt e.range).getD RangeRecord.blank

/-- The Frequency Table record at an index. -/
def State.freqAt (s : State) (i : Nat) : FreqRecord := s.tables.freqs.get freqInitial i

/-- The index of the Offset Table entry of a lane and range. -/
def offsetIndex (lane : LaneId) (range : Nat) : Nat := lane.val * 32 + range

/-- The Offset Table entry of a lane and range (R15). -/
def State.offsetAt (s : State) (lane : LaneId) (range : Nat) : Offset :=
  s.tables.offsets.get offsetInitial (offsetIndex lane range)

/-- Write the Offset Table entry of a lane and range (R15). -/
def State.setOffset (s : State) (lane : LaneId) (range : Nat) (z : Offset) : State :=
  { s with tables := { s.tables with
      offsets := s.tables.offsets.put offsetInitial (offsetIndex lane range) z } }

/-- The state of a board slot (R16). -/
def State.slotAt (s : State) (slot : Nat) : SlotState := s.board.slots.get slotInitial slot

/-- A net is flagged excluded in the Net Table; an absent net is not (R8). -/
def State.excluded (s : State) (net : Option Nat) : Bool :=
  match net with
  | none => false
  | some n => (s.netAt n).excluded

/-! ### Entries, lanes, generators -/

/-- The Outstanding entry with a tag. -/
def State.entry? (s : State) (tag : Half) : Option Entry := s.entries.find? (fun e => e.tag == tag)

/-- Change the Outstanding entry with a tag. -/
def State.modifyEntry (s : State) (tag : Half) (f : Entry → Entry) : State :=
  { s with entries := s.entries.map (fun e => if e.tag = tag then f e else e) }

/-- Remove the Outstanding entry with a tag. -/
def State.removeEntry (s : State) (tag : Half) : State :=
  { s with entries := s.entries.filter (fun e => e.tag != tag) }

/-- The lane port of a lane. -/
def State.lane (s : State) (n : LaneId) : Lane := s.lanes.get n

/-- Change a lane port. -/
def State.modifyLane (s : State) (n : LaneId) (f : Lane → Lane) : State :=
  { s with lanes := s.lanes.set n (f (s.lanes.get n)) }

/-- Set a lane's reduction slot; absent is IDLE. -/
def State.setReduction (s : State) (n : LaneId) (r : Option Reduction) : State :=
  { s with reductions := s.reductions.set n r }

/-- A generator. -/
def State.gen (s : State) (g : GenId) : Generator := s.gens.get g

/-- Change a generator. -/
def State.modifyGen (s : State) (g : GenId) (f : Generator → Generator) : State :=
  { s with gens := s.gens.set g (f (s.gens.get g)) }

/-! ### Net State and signature records -/

/-- The index of the Net State record of a (slot, net). -/
def netIndex (slot net : Nat) : Nat := slot * 4096 + net

/-- The Net State record of a (slot, net) (R97). -/
def State.netState (s : State) (slot net : Nat) : NetState :=
  s.netStates.get netStateInitial (netIndex slot net)

/-- Change the Net State record of a (slot, net). -/
def State.modifyNet (s : State) (slot net : Nat) (f : NetState → NetState) : State :=
  { s with netStates :=
      s.netStates.put netStateInitial (netIndex slot net) (f (s.netState slot net)) }

/-- The signature state of a net (R117). -/
def State.signature (s : State) (net : Nat) : NetSignature := s.sigs.nets.get signatureInitial net

/-- Set the signature state of a net. -/
def State.setSignature (s : State) (net : Nat) (x : NetSignature) : State :=
  { s with sigs := { s.sigs with nets := s.sigs.nets.put signatureInitial net x } }

/-! ### Clocks and fill levels -/

/-- now: the microsecond counter (4.1). -/
def State.now (s : State) : Word := s.tb.microseconds

/-- The Report Queue has a free place (R153). -/
def State.reportFree (s : State) : Bool := decide (s.reports.queue.length < Config.reportCapacity)

/-- A counter has reached a moment: it stands at it or less than half the counter's span beyond it, so that a
wrap of the counter does not change the moment (R28, R125). -/
def reached (counter moment : Word) : Bool := decide ((counter - moment).toNat < 2147483648)

/-! ### Events (R176, R178) -/

/-- The urgent events (R178). -/
def EventCode.urgent : EventCode → Bool
  | .powerUp | .laneFailed | .clockFail | .mergeDropped => true
  | .laneUp | .tbSwitched | .referenceFrozen | .deferredExpired | .deferFull | .lateBurst
  | .strayBurst | .rawDropped | .timeWrap => false

/-- The event codes (R178). -/
def EventCode.number : EventCode → Nat
  | .powerUp => 1
  | .laneFailed => 2
  | .clockFail => 3
  | .mergeDropped => 4
  | .laneUp => 5
  | .tbSwitched => 6
  | .referenceFrozen => 7
  | .deferredExpired => 8
  | .deferFull => 9
  | .lateBurst => 10
  | .strayBurst => 11
  | .rawDropped => 12
  | .timeWrap => 13

/-- Post an event: its record joins the tail of the Event Queue, or, when the queue holds 64 records, is
dropped and the overflow flag is set (R176). -/
def postEvent (code : EventCode) (parameter : Nat) (s : State) : State :=
  if s.events.queue.length < Config.eventCapacity then
    { s with events := { s.events with
        queue := s.events.queue ++
          [{ code := code, urgent := code.urgent, parameter := BitVec.ofNat 16 parameter,
             timestamp := s.now }] } }
  else { s with events := { s.events with overflow := true } }

/-- The Event Queue holds a notifiable event (R177). -/
def EventUnit.notifiable (e : EventUnit) : Bool := e.queue.any (fun r => r.urgent || !e.delay)

/-- The ATTN notice becomes ready after an event that leaves a notifiable event in the queue, the latch
clear and the notice not ready (R177). -/
def raiseNotice (s : State) : State :=
  if s.events.notifiable && !s.events.latch && !s.events.notice then
    { s with events := { s.events with notice := true } }
  else s

end Sys2Proof.Machine
end

