-- ==== Sys2Proof/Machine/Upstream.lean ====
section
/-! DEFINITION. Upstream: the layouts of R179 that the part sends, which report is eligible (R155), the
reply list (R165), and the choice of the next upstream frame (R156, R162, R163, R177). -/

namespace Sys2Proof.Machine

/-! ### Codings -/

/-- Report kinds as coded in REPORT byte 0 (R179). -/
def ReportKind.number : ReportKind → Nat
  | .verdict => 1
  | .pending => 2
  | .resolved => 3

/-- Verdicts as coded in REPORT byte 1; 0 for none (R179). -/
def verdictNumber : Option Verdict → Nat
  | none => 0
  | some .pass => 1
  | some .failLow => 2
  | some .failHigh => 3
  | some .openNet => 4
  | some .short => 5
  | some .range => 6
  | some .void => 7
  | some .skip => 8
  | some .unref => 9

/-- Void causes as coded in REPORT byte 2; 0 for none (R179). -/
def causeNumber : Option VoidCause → Nat
  | none => 0
  | some .timeout => 1
  | some .contact => 2
  | some .burstBad => 3
  | some .timebase => 4
  | some .laneLost => 5
  | some .laneReset => 6

/-- The group leader as coded in REPORT bytes 20 to 21 (R179). -/
def GroupLeader.number : GroupLeader → Nat
  | .absent => 65535
  | .unresolved => 65534
  | .net n => n

/-- Reply codes (R166). -/
def ReplyCode.number : ReplyCode → Nat
  | .accepted => 0
  | .ok => 1
  | .busy => 2
  | .badRequest => 3
  | .badSegment => 4
  | .badRecord => 5
  | .inUse => 6
  | .badDispatch => 7
  | .noPanel => 8
  | .badStep => 9
  | .badSlot => 10
  | .laneDown => 11
  | .dupTag => 12
  | .tableFull => 13
  | .laneFull => 14

/-- Upstream frame kinds as coded in the link frame header (R179). -/
def UpKind.number : UpKind → Nat
  | .reply => 129
  | .report => 130
  | .attn => 131
  | .raw => 132

/-- Net states as coded in a GROUP reply (R179). -/
def NetRank.number : NetRank → Nat
  | .untested => 0
  | .pass => 1
  | .fail => 2
  | .short => 3

/-- A generator as coded in an ORDER: NONE, XG0 or XG1 (R179). -/
def genNumber : Option GenId → Nat
  | none => 0
  | some 0 => 1
  | some 1 => 2

/-- A rate in Mbit/s (R47). -/
def Rate.mbit : Rate → Nat
  | .r25 => 25
  | .r50 => 50
  | .r100 => 100
  | .r200 => 200

/-! ### Payloads -/

/-- The REPORT payload, 28 bytes (R179). -/
def reportPayload (r : Report) : List Byte :=
  [byte r.kind.number, byte (verdictNumber r.verdict), byte (causeNumber r.cause),
   byte (bitIf r.flags.retried 1 + bitIf r.flags.rangeStepped 2 + bitIf r.flags.saturated 4
     + bitIf r.flags.tbInternal 8 + bitIf r.flags.notLearned 16 + bitIf r.value.isSome 32)]
  ++ be16 r.tag.toNat ++ be16 r.step
  ++ [byte r.slot, byte r.exponent, byte r.attempts, byte r.finalRange]
  ++ be32 r.panel.toNat ++ be32 (r.value.getD 0) ++ be16 r.leader.number ++ be16 0
  ++ be32 r.timestamp.toNat

/-- An event record, 8 bytes (R179). -/
def eventBytes (e : EventRecord) : List Byte :=
  [byte e.code.number, byte (bitIf e.urgent 1)] ++ be16 e.parameter.toNat ++ be32 e.timestamp.toNat

/-- The ATTN payload: Event Queue fill and overflow flag (R177, R179). -/
def attnPayload (e : EventUnit) : List Byte := [byte e.queue.length, byte (bitIf e.overflow 1)]

/-- Sample pairs in the next RAW fragment of a copy (R162). -/
def rawFragment (c : RawCopy) : Nat := min Config.rawPairsMax (c.samples - c.nextPair)

/-- The RAW payload of a copy's next fragment: the 16-byte header, then the pairs (R162, R179). -/
def rawPayload (c : RawCopy) : List Byte :=
  [byte c.lane.val] ++ be16 c.tag.toNat ++ [byte c.attempt, byte c.range, byte 0]
  ++ beInt16 c.offset.zv ++ beInt16 c.offset.zi ++ be16 c.samples ++ be16 c.nextPair
  ++ be16 (rawFragment c)
  ++ sampleBytes ((c.pairs.drop c.nextPair).take (rawFragment c))

/-- The lane ORDER payload, 9 bytes (R179). -/
def orderPayload (o : Order) : List Byte :=
  [byte 1] ++ be16 o.tag.toNat ++ [byte o.attempt, byte o.range] ++ be16 o.samples
  ++ [byte o.stimulus, byte (genNumber o.gen)]

/-- What a lane port sends after the delimiter of the ORDER in transmission on its lane; nothing when there is none
(R55, R179). -/
def State.orderBytes (s : State) (n : LaneId) : List Byte :=
  match (s.lane n).order with
  | some o => laneFrameBytes (orderPayload o)
  | none => []

/-- The REPLY payload: the kind answered, the code, the data (R166). -/
def replyPayload (kind : Byte) (code : ReplyCode) (data : List Byte) : List Byte :=
  kind :: byte code.number :: data

/-! ### Which report leaves next (R155, R156) -/

/-- An entry of the Report Queue is eligible behind the entries older than it (R155). -/
def eligible (older : List ReportEntry) (e : ReportEntry) : Bool :=
  !e.held && !e.inTransmission &&
    older.all (fun o => o.held &&
      (decide (o.report.slot ≠ e.report.slot) || decide (e.report.kind = .resolved)))

/-- The eligible entry nearest the head of a queue, behind given older entries (R156). -/
def firstEligible (older : List ReportEntry) : List ReportEntry → Option ReportEntry
  | [] => none
  | e :: rest => if eligible older e then some e else firstEligible (older ++ [e]) rest

/-! ### The transmitter (R163) -/

/-- The oldest frame of the reply list has its answer: its REPLY payload with its sequence (R163, R165). -/
def readyReply (s : State) : Option UpFrame :=
  match s.link.replies with
  | { kind := kind, seq := seq, answer := .given code data, linkReset := _ } :: _ =>
    some { kind := .reply, seq := seq, payload := replyPayload kind code data }
  | _ => none

/-- The bytes that follow the delimiter of an upstream frame, in the format of R164: kind, sequence, payload length,
payload, CRC-32. -/
def UpFrame.bytes (f : UpFrame) : List Byte :=
  linkFrameBytes { kind := byte f.kind.number, seq := f.seq, payload := f.payload }

/-- What the transmitter sends after the delimiter of the frame in transmission; idle symbols, no bytes, when there is
none (R163, R164). -/
def State.sendingBytes (s : State) : List Byte :=
  match s.link.transmitting with
  | some f => f.bytes
  | none => []

/-- Start sending a frame. -/
def transmit (f : UpFrame) (s : State) : State :=
  { s with link := { s.link with transmitting := some f } }

/-- Start an ATTN frame: the attention latch is set and the notice stops being ready (R177). -/
def startAttn (s : State) : State :=
  transmit { kind := .attn, seq := 0, payload := attnPayload s.events }
    { s with events := { s.events with latch := true, notice := false } }

/-- Start the REPORT frame of an entry: the entry becomes in transmission and the report sequence advances
(R156). -/
def startReport (e : ReportEntry) (s : State) : State :=
  transmit { kind := .report, seq := s.reports.sequence, payload := reportPayload e.report }
    { s with reports := { s.reports with
        queue := s.reports.queue.map
          (fun x => if x.id = e.id then { x with inTransmission := true } else x)
        sequence := s.reports.sequence + 1 } }

/-- The idle transmitter chooses the highest-priority ready frame: REPLY, ATTN, REPORT, RAW (R163). -/
def chooseFrame (s : State) : State :=
  match readyReply s with
  | some f => transmit f s
  | none =>
    if s.events.notice then startAttn s
    else
      match firstEligible [] s.reports.queue with
      | some e => startReport e s
      | none =>
        match s.raw with
        | c :: _ => transmit { kind := .raw, seq := 0, payload := rawPayload c } s
        | [] => s

/-- The upstream arbiter at the end of an event: while a frame is in transmission nothing is chosen, and
while the RESET pin is low only idle symbols are sent (R163, R175). -/
def upstreamChoice (s : State) : State :=
  if s.resetLow then s
  else
    match s.link.transmitting with
    | some _ => s
    | none => chooseFrame s

/-- The end of every event: the ATTN notice may become ready (R177), and an idle transmitter chooses a frame
(R163). -/
def conclude (s : State) : State := upstreamChoice (raiseNotice s)

/-! ### The reply list (R165) -/

/-- Enter a frame at the tail of the reply list with its answer (R165). -/
def enterReply (kind seq : Byte) (answer : Answer) (s : State) : State :=
  { s with link := { s.link with
      replies := s.link.replies ++
        [{ kind := kind, seq := seq, answer := answer, linkReset := false }] } }

/-- Increase the link error count, which saturates at 65,535 (R164). -/
def countLinkError (s : State) : State :=
  { s with link := { s.link with linkErrors := min Config.linkErrorMax (s.link.linkErrors + 1) } }

/-- A good downstream frame arrives: it is taken when the receiver is taking frames and the reply list
holds fewer than 64; at 64 it is discarded and counted (R165); after a LINK_RESET is taken it is discarded
uncounted (R174). -/
def takeFrame (take : State → State) (s : State) : State :=
  if !s.link.receiving then s
  else if Config.replyCapacity ≤ s.link.replies.length then countLinkError s
  else take s

/-- Kind bytes of downstream frames (R179). -/
def kindDispatch : Byte := 1#8
/-- TABLE frames (R179). -/
def kindTable : Byte := 2#8
/-- REQUEST frames (R179). -/
def kindRequest : Byte := 3#8

/-- Answer a REQUEST with OK and data (R166, R167). -/
def replyOk (seq : Byte) (data : List Byte) (s : State) : State :=
  enterReply kindRequest seq (.given .ok data) s

/-- Refuse a REQUEST with a code that carries no data (R166). -/
def replyRefusal (seq : Byte) (code : ReplyCode) (s : State) : State :=
  enterReply kindRequest seq (.given code []) s

end Sys2Proof.Machine
end

