-- ==== Sys2Proof/Machine/LanePorts.lean ====
section
/-! DEFINITION. Lane ports (chapter 3): the rate table, training, marker history, attempts and the matching of
returning frames. -/

namespace Sys2Proof.Machine

/-- The nominal marker interval of a rate in ticks (R47). -/
def Rate.interval : Rate → Nat
  | .r25 => 4096
  | .r50 => 2048
  | .r100 => 1024
  | .r200 => 512

/-- Four nominal intervals, the failure threshold of a rate in ticks (R47, R52). -/
def Rate.threshold (r : Rate) : Nat := 4 * r.interval

/-- The distance of two counts. -/
def absDiff (a b : Nat) : Nat := if a ≤ b then b - a else a - b

/-- An interval lies in a rate's window: 50 × |m − nominal| does not exceed the nominal interval (R47). -/
def Rate.admits (r : Rate) (m : Nat) : Bool := decide (50 * absDiff m r.interval ≤ r.interval)

/-- The rate that an interval matches, if any (R47). -/
def matchRate (m : Nat) : Option Rate :=
  [Rate.r25, Rate.r50, Rate.r100, Rate.r200].find? (fun r => r.admits m)

/-- Throw the training run away (R49, case 1). -/
def Lane.clearRun (l : Lane) : Lane :=
  { l with runCandidate := none, runFirst := none, runCount := 0 }

/-- Clear the marker history to its reset values (R45). -/
def Lane.clearHistory (l : Lane) : Lane := { l.clearRun with lastMarker := none, silence := 0 }

/-- Start a new run toward a rate at an interval (R49, cases 2 and 3). -/
def Lane.startRun (l : Lane) (r : Rate) (m : Nat) : Lane :=
  { l with runCandidate := some r, runFirst := some m, runCount := 1 }

/-- Count a measured interval toward the training run (R49). -/
def Lane.countInterval (l : Lane) (m : Nat) : Lane :=
  match matchRate m with
  | none => l.clearRun
  | some r =>
    if l.runCount = 0 ∨ l.runCandidate ≠ some r then l.startRun r m
    else
      let first := l.runFirst.getD m
      if first < 100 * absDiff m first then l.startRun r m
      else { l with runCount := l.runCount + 1 }

/-- The open and last closed attempts, the excitation selection and an ORDER in transmission are dropped
(R46, R52, R54). -/
def Lane.dropAttempts (l : Lane) : Lane :=
  { l with openAttempt := none, lastClosed := none, selection := none, order := none }

/-- A lane whose LANE_ENABLE bit is cleared (R46). -/
def Lane.disable (l : Lane) : Lane :=
  { l.clearHistory.dropAttempts with state := .disabled, rate := .r25 }

/-- A lane whose LANE_ENABLE bit is set enters TRAINING with an empty marker history (R46). -/
def Lane.enable (l : Lane) : Lane := { l.clearHistory with state := .training }

/-- A lane loss: FAILED, the detected rate kept (R52). -/
def Lane.fail (l : Lane) : Lane := { l.clearHistory.dropAttempts with state := .failed }

/-- A LANE_RESET of the port, to TRAINING or, when the enable bit is clear, to DISABLED (R54). -/
def Lane.resetTo (l : Lane) (enabled : Bool) : Lane :=
  { l.clearHistory.dropAttempts with
    rate := .r25, state := if enabled then .training else .disabled }

/-- On a change of source a lane in TRAINING discards its run and its last marker time (R51). -/
def Lane.sourceChanged (l : Lane) : Lane :=
  if l.state = .training then { l.clearRun with lastMarker := none } else l

/-- Every lane's part of a change of the timebase source (R51). -/
def discardTraining (s : State) : State := { s with lanes := s.lanes.map Lane.sourceChanged }

/-- The lane locks the rate of its run and enters UP, its silence timer at 0 (R50). -/
def Lane.lock (l : Lane) : Lane :=
  { l.clearRun with state := .up, rate := l.runCandidate.getD .r25, silence := 0 }

/-- A marker in TRAINING, taken at a tick count: its interval, up to 65,535 ticks, is measured and counted;
the first marker has none (R48, R49). -/
def Lane.trainingMarker (l : Lane) (now : Nat) : Lane :=
  match l.lastMarker with
  | none => { l with lastMarker := some now }
  | some t => { l with lastMarker := some now }.countInterval (min Config.intervalMax (now - t))

/-- A marker in FAILED: TRAINING with rate 25 and this marker as the first, with no interval (R53). -/
def Lane.recoverMarker (l : Lane) (now : Nat) : Lane :=
  { l.clearRun with state := .training, rate := .r25, lastMarker := some now }

/-- The parameter of LANE_UP: the lane in the high byte, the rate in the low byte (R50). -/
def laneUpParameter (n : LaneId) (r : Rate) : Nat := n.val * 256 + r.mbit

/-- A lane takes a marker (R48 to R50, R52, R53). -/
def takeMarker (n : LaneId) (s : State) : State :=
  let l := s.lane n
  match l.state with
  | .disabled => s
  | .training =>
    let l' := l.trainingMarker s.tb.ticks
    if Config.lockRun ≤ l'.runCount then
      postEvent .laneUp (laneUpParameter n l'.lock.rate) (s.modifyLane n (fun _ => l'.lock))
    else s.modifyLane n (fun _ => l')
  | .up => s.modifyLane n (fun l => { l with silence := 0, lastMarker := some s.tb.ticks })
  | .failed => s.modifyLane n (fun l => l.recoverMarker s.tb.ticks)

/-- What a good frame of a lane is (R57). -/
inductive FrameClass where
  | delivered | late | stray
  deriving DecidableEq, Repr

/-- The first case of R57 that applies to a frame's (tag, attempt) on a lane. -/
def Lane.classify (l : Lane) (a : AttemptId) : FrameClass :=
  if l.openAttempt = some a then .delivered
  else if l.openAttempt.map AttemptId.tag = some a.tag
      ∨ l.lastClosed.map AttemptId.tag = some a.tag then .late
  else .stray

/-- Close a lane's open attempt: it becomes the last closed one, and the excitation selection returns to NONE
(R29, R55). -/
def closeAttempt (n : LaneId) (s : State) : State :=
  s.modifyLane n (fun l =>
    { l with
      lastClosed := match l.openAttempt with
        | some a => some a
        | none => l.lastClosed
      openAttempt := none
      selection := none })

end Sys2Proof.Machine
end

