-- ==== Sys2Proof/Machine/Quantity.lean ====
section
/-! DEFINITION. Reduction and quantity arithmetic (chapter 4): the sums of a burst, the values computed from
them, and the signature deviation. -/

namespace Sys2Proof.Machine

/-! ### Reduction (R60 to R62) -/

/-- A sample at an end of the 16-bit scale (R62). -/
def clipped (x : Int) : Bool := decide (x = -32768) || decide (x = 32767)

/-- A reduction at its start: the offset copy taken, every sum 0 (R61). -/
def Reduction.start (tag : Half) (attempt : Nat) (method : Method) (samples : Nat) (z : Offset)
    (burst : List Sample) : Reduction :=
  { tag := tag, attempt := attempt, method := method, samples := samples, offset := z, sumV := 0,
    sumI := 0, corrV := 0, corrI := 0, sqV := 0, sqI := 0, clip := 0, taken := 0, burst := burst }

/-- One sample pair into the sums (R62). -/
def Reduction.addPair (r : Reduction) (p : Sample) : Reduction :=
  let v := p.v.toInt
  let i := p.i.toInt
  { r with
    sumV := r.sumV + v
    sumI := r.sumI + i
    corrV := r.corrV + (v - r.offset.zv)
    corrI := r.corrI + (i - r.offset.zi)
    sqV := r.sqV + ((v - r.offset.zv) * (v - r.offset.zv)).toNat
    sqI := r.sqI + ((i - r.offset.zi) * (i - r.offset.zi)).toNat
    clip := r.clip + (if clipped v || clipped i then 1 else 0)
    taken := r.taken + 1 }

/-- Up to `k` of the pairs not yet taken go into the sums (R62). -/
def Reduction.takePairs : Nat → Reduction → Reduction
  | 0, r => r
  | k + 1, r =>
    match r.burst with
    | [] => r
    | p :: rest => Reduction.takePairs k { r.addPair p with burst := rest }

/-- Every pair not yet taken goes into the sums (R63). -/
def Reduction.takeAll (r : Reduction) : Reduction := r.takePairs r.burst.length

/-! ### Common arithmetic (R66 to R68) -/

/-- The integer square root, bit by bit: the bits below `k` of the root are still open (R66). -/
def isqrtFrom : Nat → Nat → Nat → Nat
  | 0, _, r => r
  | k + 1, x, r =>
    let c := r + 2 ^ k
    isqrtFrom k x (if c * c ≤ x then c else r)

/-- isqrt(x), the largest integer whose square does not exceed x (R66). -/
def isqrt (x : Nat) : Nat := isqrtFrom (x.log2 / 2 + 1) x 0

/-- P / (D × 10^e) rounded to the nearest integer, halves up (R67). -/
def roundQuotient (p d e : Nat) : Nat := (2 * p + d * 10 ^ e) / (2 * d * 10 ^ e)

/-- A rounded value checked against the 32-bit range (R68). -/
def saturate (v : Nat) : QuantityKind :=
  if Config.valueMax < v then .value Config.valueMax true else .value v false

/-- A quotient of integers rounded to nearest, halves away from zero (R76). -/
def roundAway (x : Int) (n : Nat) : Int :=
  let q : Int := (((2 * x.natAbs + n) / (2 * n) : Nat) : Int)
  if x < 0 then -q else q

/-! ### Values by method (R70 to R77) -/

/-- A RES reading (R70 to R72). -/
def resKind (r : Reduction) (rg : RangeRecord) (e : Nat) : QuantityKind :=
  if r.corrI = 0 ∨ r.corrI.natAbs < r.samples * rg.floor then .openReading
  else if (0 < r.corrV ∧ r.corrI < 0) ∨ (r.corrV < 0 ∧ 0 < r.corrI) then .polarity
  else saturate (roundQuotient (r.corrV.natAbs * rg.kv * 1000000) (r.corrI.natAbs * rg.ki) e)

/-- A CAP reading (R73, R74). -/
def capKind (r : Reduction) (rg : RangeRecord) (g e : Nat) : QuantityKind :=
  if isqrt r.sqV = 0 then .noExcitation
  else saturate (roundQuotient (isqrt r.sqI * rg.ki * g) (isqrt r.sqV * rg.kv) e)

/-- A VF reading (R75). -/
def vfKind (r : Reduction) (rg : RangeRecord) (e : Nat) : QuantityKind :=
  if 0 < r.corrV then saturate (roundQuotient (r.corrV.natAbs * rg.kv) (r.samples * 1000) e)
  else .value 0 false

/-- A ZERO reading (R76, R77). -/
def zeroKind (r : Reduction) : QuantityKind :=
  let z : Offset := { zv := roundAway r.sumV r.samples, zi := roundAway r.sumI r.samples }
  .offsets (max z.zv.natAbs z.zi.natAbs) z
    (decide (z.zv.natAbs ≤ Config.offsetMax) && decide (z.zi.natAbs ≤ Config.offsetMax))

/-- The quantity result of a reduced burst: a function of the sums, the step's exponent, the range record in
force and, for CAP, G (R63, R69, R80). -/
def quantityOf (r : Reduction) (rg : RangeRecord) (g e : Nat) : Quantity :=
  { method := r.method
    kind := match r.method with
      | .res => resKind r rg e
      | .cap => capKind r rg g e
      | .vf => vfKind r rg e
      | .zero => zeroKind r
    clip := r.clip }

/-- The value that a quantity result carries (R69, R70). -/
def QuantityKind.value? : QuantityKind → Option Nat
  | .value v _ => some v
  | .openReading => some Config.overValue
  | .polarity => none
  | .noExcitation => none
  | .offsets v _ _ => some v

/-- A quantity result carries SATURATED (R69). -/
def QuantityKind.saturated : QuantityKind → Bool
  | .value _ sat => sat
  | .openReading | .polarity | .noExcitation | .offsets _ _ _ => false

/-! ### Signature deviation (R78, R79) -/

/-- The deviation of C from a reference above 0, in per mille, rounded up (R79). -/
def deviation (c ref : Nat) : Nat :=
  let d := if c ≤ ref then ref - c else c - ref
  (d * 1000 + (ref - 1)) / ref

/-- The verdict of a signature value against a reference (R78, R79). -/
def judgeSignature (c ref tolerance : Nat) : Verdict :=
  if ref = 0 then (if c = 0 then .pass else .failHigh)
  else if deviation c ref ≤ tolerance then .pass
  else if c < ref then .failLow
  else .failHigh

end Sys2Proof.Machine
end

