-- ==== Sys2Proof/Machine/Clock.lean ====
section
/-! DEFINITION. The passing of time (R147): what every clocked item of the state holds after a number of ticks
of the timebase in force. A wrap of the microsecond counter is an event of its own, taken in the tick of the wrap
wherever that tick falls (`elapse`); the other events that fall due are commands. -/

namespace Sys2Proof.Machine

/-- The counters after `n` ticks (R146, R147, R149). The lock timer runs while the loop is LOCKING; the source is then
INTERNAL, so that a tick is one of the internal oscillator's. -/
def Timebase.elapse (n : Nat) (t : Timebase) : Timebase :=
  let micros := (t.microFraction + n) / Config.ticksPerMicrosecond
  let secs := (t.secondFraction + micros) / Config.microsecondsPerSecond
  { t with
    ticks := t.ticks + n
    microFraction := (t.microFraction + n) % Config.ticksPerMicrosecond
    microseconds := t.microseconds + BitVec.ofNat 32 micros
    secondFraction := (t.secondFraction + micros) % Config.microsecondsPerSecond
    seconds := t.seconds + BitVec.ofNat 32 secs
    lockTimer :=
      if t.loop = .locking then
        min Config.lockTimeout
          (t.lockTimer + (t.lockFraction + n) / Config.ticksPerMicrosecond)
      else t.lockTimer
    lockFraction :=
      if t.loop = .locking then (t.lockFraction + n) % Config.ticksPerMicrosecond
      else t.lockFraction }

/-- Cycles of the present output that end in the `n` ticks after tick `now` (R137, R143). -/
def Generator.cyclesEnding (g : Generator) (now n : Nat) : Nat :=
  match g.origin with
  | none => 0
  | some o => (now + n - o) / (2 * g.latchDivider) - (now - o) / (2 * g.latchDivider)

/-- A settling generator after `n` ticks: each completed target cycle decreases settle remaining by 1, and the
first one after a change of source sets it back to the record's settle cycles (R143, R145). DESIGN CHOICE, unsafe: a
change at the very tick at which a target cycle ends counts that cycle, and the restart comes with the end of the cycle
that then begins (notes/assumptions/22.md). -/
def Generator.elapse (now n : Nat) (g : Generator) : Generator :=
  if g.state = .retuning ∧ g.settling = true then
    let c := g.cyclesEnding now n
    if g.restart = true ∧ 0 < c then
      { g with settleRemaining := g.latchSettle - (c - 1), restart := false }
    else { g with settleRemaining := g.settleRemaining - c }
  else g

/-- An UP lane's silence timer after `n` ticks (R52). -/
def Lane.elapse (n : Nat) (l : Lane) : Lane :=
  if l.state = .up then { l with silence := min Config.silenceMax (l.silence + n) } else l

/-- The clocks of the part after `n` ticks with no event taken. A REDUCING slot takes one sample pair a tick (R63
bounds the reduction by that rate). -/
def runClocks (n : Nat) (s : State) : State :=
  { s with
    tb := s.tb.elapse n
    gens := s.gens.map (Generator.elapse s.tb.ticks n)
    lanes := s.lanes.map (Lane.elapse n)
    reductions := s.reductions.map (fun slot => slot.map (Reduction.takePairs n)) }

/-! ### The wrap of the microsecond counter (R147) -/

/-- Wraps of the microsecond counter in the next `n` ticks. -/
def Timebase.wrapsIn (t : Timebase) (n : Nat) : Nat :=
  (t.microseconds.toNat + (t.microFraction + n) / Config.ticksPerMicrosecond) / Config.microsecondSpan

/-- Ticks to the next wrap of the microsecond counter. -/
def Timebase.ticksToWrap (t : Timebase) : Nat :=
  (Config.microsecondSpan - t.microseconds.toNat) * Config.ticksPerMicrosecond - t.microFraction

/-- The microsecond counter wraps at the end of `n` ticks: the event of the wrap posts TIME_WRAP (R147). -/
def wrapAfter (n : Nat) (s : State) : State := conclude (postEvent .timeWrap 0 (runClocks n s))

/-- The part after `n` ticks, of at most `k` wraps: each wrap is taken whole in its own tick. -/
def elapseFrom : Nat → Nat → State → State
  | 0, n, s => runClocks n s
  | k + 1, n, s =>
    if s.tb.wrapsIn n = 0 then runClocks n s
    else elapseFrom k (n - s.tb.ticksToWrap) (wrapAfter s.tb.ticksToWrap s)

/-- The part after `n` ticks with no command taken: the clocks run, and every wrap of the microsecond counter posts its
TIME_WRAP in the event of the wrap itself, ahead of whatever is taken or reported after it (R147). -/
def elapse (n : Nat) (s : State) : State := elapseFrom (s.tb.wrapsIn n) n s

end Sys2Proof.Machine
end

