-- ==== Sys2Proof/Machine/Excitation.lean ====
section
/-! DEFINITION. Forwarding of an attempt (R27), the generators and their arbiter (R136 to R145), and changes of
the timebase source (R148 to R151). -/

namespace Sys2Proof.Machine

/-! ### Forwarding (R27, R55) -/

/-- The ORDER of an entry's current attempt (R27, R55): the generator attached for a CAP step, else NONE. -/
def orderOf (st : StepRecord) (e : Entry) : Order :=
  { tag := e.tag, attempt := e.attempt, range := e.range, samples := st.samples,
    stimulus := st.stimulus, gen := if st.method = .cap then e.gen else none }

/-- The entry as an attempt of it is forwarded at `now` under a source (R27, steps 3 to 5); the trigger or
result of the attempt before is gone. -/
def Entry.forwarded (e : Entry) (st : StepRecord) (now : Word) (source : Source) : Entry :=
  { e with
    state := .forwarded
    deadline := some (now + BitVec.ofNat 32 (100 * st.budget))
    tbFault := false
    xoutMark := false
    tbInternal := if st.method = .cap then decide (source = .internal) else e.tbInternal
    trigger := none
    result := none }

/-- The lane port as an ORDER is handed to it (R27, R55). -/
def Lane.send (l : Lane) (o : Order) : Lane :=
  { l with
    order := some o
    openAttempt := some { tag := o.tag, attempt := o.attempt }
    selection := o.gen }

/-- Forward the current attempt of an entry (R27). -/
def forward (tag : Half) (s : State) : State :=
  match s.entry? tag with
  | none => s
  | some e =>
    (s.modifyLane e.lane (fun l => l.send (orderOf (s.stepOf e) e))).modifyEntry tag
      (fun x => x.forwarded (s.stepOf e) s.now s.tb.source)

/-! ### Order lists and heads (R25, R26) -/

/-- A lane's order list: its entries whose outcome is not fixed, in acceptance order (R25). -/
def State.orderList (s : State) (n : LaneId) : List Entry :=
  s.entries.filter (fun e => decide (e.lane = n) && e.outcome.isNone)

/-- Let the head of a lane advance when it is still QUEUED: a CAP head enters WAIT_EXC, any other is forwarded
(R26). -/
def advanceHead (n : LaneId) (s : State) : State :=
  match s.orderList n with
  | [] => s
  | e :: _ =>
    if e.state = .queued then
      (if (s.stepOf e).method = .cap then
        s.modifyEntry e.tag (fun x => { x with state := .waitExc })
      else forward e.tag s)
    else s

/-- Let the heads of all four lanes advance. -/
def advanceHeads (s : State) : State := allLanes.foldl (fun s n => advanceHead n s) s

/-! ### Retunes (R143, R145) -/

/-- The output takes the target divider and settling begins at a tick (R143). -/
def Generator.settleFrom (g : Generator) (tick : Nat) : Generator :=
  { g with output := some g.latchDivider, origin := some tick, settleRemaining := g.latchSettle,
           settling := true, oldCycleEnd := none }

/-- The tick at which the output cycle running at `now` ends (R137, R143). -/
def Generator.cycleEnd (g : Generator) (now : Nat) : Nat :=
  match g.origin, g.output with
  | some o, some d => o + ((now - o) / (2 * d) + 1) * (2 * d)
  | _, _ => now

/-- A retune to an index starts at tick `now`, with its Frequency Table record read (R143). -/
def Generator.retuneTo (g : Generator) (i : Nat) (rec : FreqRecord) (now : Nat) : Generator :=
  let base : Generator :=
    { g with state := .retuning, target := some i, frequency := some i,
             latchDivider := rec.divider, latchSettle := rec.settle,
             settling := false, restart := false, settleRemaining := 0 }
  match g.output with
  | none => base.settleFrom now
  | some _ => { base with oldCycleEnd := some (g.cycleEnd now) }

/-- Start a retune of a generator (R143). -/
def startRetune (g : GenId) (i : Nat) (s : State) : State :=
  s.modifyGen g (fun x => x.retuneTo i (s.freqAt i) s.tb.ticks)

/-- A settling generator restarts its settling on a change of source (R145). -/
def Generator.sourceChanged (g : Generator) : Generator :=
  if g.state = .retuning ∧ g.settling = true then { g with restart := true } else g

/-- Both generators' part of a change of source (R145). -/
def restartSettling (s : State) : State := { s with gens := s.gens.map Generator.sourceChanged }

/-! ### The attachment arbiter (R139 to R141) -/

/-- The WAIT_EXC entries in acceptance order (R139). -/
def State.waiting (s : State) : List Entry := s.entries.filter (fun e => decide (e.state = .waitExc))

/-- The frequency index an entry's step names (R140). -/
def State.needs (s : State) (e : Entry) : Option Nat := (s.stepOf e).freq

/-- A generator is at an index: IDLE or RUNNING with that frequency (R140, case 1). -/
def Generator.standsAt (g : Generator) (i : Nat) : Bool :=
  (decide (g.state = .idle) || decide (g.state = .running)) && decide (g.frequency = some i)

/-- A generator is RETUNING to an index (R140, case 2). -/
def Generator.retuningTo (g : Generator) (i : Nat) : Bool :=
  decide (g.state = .retuning) && decide (g.target = some i)

/-- An idle generator is spoken for: its frequency is an index that an entry later in the pass needs (R141). -/
def State.spokenFor (s : State) (later : List Entry) (g : GenId) : Bool :=
  match (s.gen g).frequency with
  | none => false
  | some j => later.any (fun e => decide (s.needs e = some j))

/-- The IDLE generator that a retune takes (R140 case 3, R141). -/
def State.idleChoice (s : State) (later : List Entry) : Option GenId :=
  match decide ((s.gen 0).state = .idle), decide ((s.gen 1).state = .idle) with
  | true, true =>
    if s.spokenFor later 0 && !s.spokenFor later 1 then some 1 else some 0
  | true, false => some 0
  | false, true => some 1
  | false, false => none

/-- A waiting entry attaches to a generator and is forwarded (R140). -/
def attach (tag : Half) (g : GenId) (s : State) : State :=
  forward tag
    ((s.modifyEntry tag (fun e => { e with gen := some g })).modifyGen g
      (fun x => { x with state := .running, users := x.users + 1 }))

/-- Serve one waiting entry, with the entries later in the pass: the first case of R140 that applies. -/
def serveEntry (e : Entry) (later : List Entry) (s : State) : State :=
  match s.needs e with
  | none => s
  | some i =>
    if (s.gen 0).standsAt i then attach e.tag 0 s
    else if (s.gen 1).standsAt i then attach e.tag 1 s
    else if (s.gen 0).retuningTo i || (s.gen 1).retuningTo i then s
    else
      match s.idleChoice later with
      | some g => startRetune g i s
      | none => s

/-- Serve waiting entries in turn (R139). -/
def serveAll : List Entry → State → State
  | [], s => s
  | e :: later, s => serveAll later (serveEntry e later s)

/-- One pass of the arbiter; none while a timebase switch is pending (R139). -/
def arbiterPass (s : State) : State :=
  match s.tb.pendingSwitch with
  | some _ => s
  | none => serveAll s.waiting s

/-- An entry with this tag stands in WAIT_EXC. -/
def State.isWaiting (s : State) (tag : Half) : Bool := s.waiting.any (fun e => e.tag == tag)

/-- The event that leads from one state to another is one of the table of R139: an entry entered or left
WAIT_EXC, a user count fell to 0, a retune completed, or a pending switch ended. -/
def passTriggered (before after : State) : Bool :=
  after.waiting.any (fun e => !before.isWaiting e.tag)
  || before.waiting.any (fun e => !after.isWaiting e.tag)
  || [(0 : GenId), 1].any (fun g =>
      (decide (0 < (before.gen g).users) && decide ((after.gen g).users = 0))
      || (decide ((before.gen g).state = .retuning) && !decide ((after.gen g).state = .retuning)))
  || (before.tb.pendingSwitch.isSome && after.tb.pendingSwitch.isNone)

/-- The arbiter's pass at the end of an event, when the event is one of those of R139. -/
def arbiterAfter (before after : State) : State :=
  if passTriggered before after then arbiterPass after else after

/-! ### Changes of source (R148 to R151) -/

/-- The source becomes the target of a pending switch (R150, steps 1 to 5). -/
def changeSource (target : Source) (s : State) : State :=
  restartSettling (discardTraining (postEvent .tbSwitched
    (if target = .internal then 0 else 1)
    { s with tb := { s.tb with
        source := target
        pendingSwitch := none
        loop := if target = .internal then .off else s.tb.loop } }))

/-- Both generators have user count 0 (R150). -/
def State.noUsers (s : State) : Bool := decide ((s.gen 0).users = 0) && decide ((s.gen 1).users = 0)

/-- A pending switch changes the source when its target is INTERNAL or its loop LOCKED, and both user counts
are 0 (R150). -/
def checkSwitch (s : State) : State :=
  match s.tb.pendingSwitch with
  | none => s
  | some target =>
    if (target = .internal ∨ s.tb.loop = .locked) ∧ s.noUsers = true then changeSource target s
    else s

/-- A switch to REFERENCE is abandoned, with the parameter of its CLOCK_FAIL (R149). -/
def abandonSwitch (parameter : Nat) (s : State) : State :=
  postEvent .clockFail parameter
    { s with tb := { s.tb with pendingSwitch := none, loop := .off, tbFail := true } }

/-- A generator with one user fewer; a count that falls to 0 makes it IDLE (R138). -/
def Generator.release (g : Generator) : Generator :=
  { g with users := g.users - 1, state := if g.users - 1 = 0 then .idle else g.state }

/-- An attached entry releases its generator; a count of 0 lets a pending switch change the source
(R35 step 2, R138). -/
def releaseGen (tag : Half) (s : State) : State :=
  match s.entry? tag with
  | none => s
  | some e =>
    match e.gen with
    | none => s
    | some g =>
      let s' := (s.modifyEntry tag (fun x => { x with gen := none })).modifyGen g Generator.release
      if (s'.gen g).users = 0 then checkSwitch s' else s'

end Sys2Proof.Machine
end

