-- ==== Sys2Proof/Machine/ShortGroups.lean ====
section
/-! DEFINITION. Placing and releasing of reports (R154, R108), Net State raises (R98), and short groups
(chapter 6): merge requests, the relabel walk, group sizes and GROUP answers. -/

namespace Sys2Proof.Machine

/-! ### Placing and releasing (R154, R108) -/

/-- A report joins the tail of the Report Queue (R154). -/
def placeReport (r : Report) (held : Bool) (s : State) : State :=
  { s with reports := { s.reports with
      queue := s.reports.queue ++
        [{ id := s.reports.nextId, report := r, held := held, inTransmission := false }]
      nextId := s.reports.nextId + 1 } }

/-- Release a HELD report: its mark is cleared and its group leader set (R108, R115). -/
def releaseReport (id : Nat) (leader : GroupLeader) (s : State) : State :=
  { s with reports := { s.reports with
      queue := s.reports.queue.map (fun e =>
        if e.id = id then { e with held := false, report := { e.report with leader := leader } }
        else e) } }

/-! ### Net State raises (R98) -/

/-- The rank of a verdict; absent for no change (R98). -/
def Verdict.rank : Verdict → Option NetRank
  | .pass => some .pass
  | .failLow | .failHigh | .openNet => some .fail
  | .short => some .short
  | .range | .void | .skip | .unref => none

/-- The higher of two ranks (R98). -/
def NetRank.higher (a b : NetRank) : NetRank := if a.number < b.number then b else a

/-- Raise a net of a slot to the rank of a verdict (R98). -/
def raiseNet (slot : Nat) (net : Option Nat) (v : Verdict) (s : State) : State :=
  match net, v.rank with
  | some n, some r => s.modifyNet slot n (fun x => { x with state := x.state.higher r })
  | _, _ => s

/-! ### Groups (R100, R109) -/

/-- The nets that follow a position in a group's list, at most `k` (R100). -/
def State.groupList (s : State) (slot : Nat) : Nat → Option Nat → List Nat
  | 0, _ => []
  | _ + 1, none => []
  | k + 1, some n => n :: s.groupList slot k (s.netState slot n).next

/-- The walk in progress on a slot (R106). -/
def State.walkOn (s : State) (slot : Nat) : Option Walk :=
  match s.groups.walk with
  | none => none
  | some w => if w.request.slot = slot then some w else none

/-- The leader of a net for a reader that sees the groups as they stood at the taking of the request being
walked: a net of H's group has leader H, relabelled or not (R112). On a settled slot it is the recorded
leader. -/
def State.viewLeader (s : State) (slot net : Nat) : Nat :=
  match s.walkOn slot with
  | none => (s.netState slot net).leader
  | some w =>
    if (s.groupList slot 4096 (some w.high)).contains net then w.high
    else (s.netState slot net).leader

/-- The SGU's answer to the SU: the group size of a (slot, net) (R109). -/
def State.groupSize (s : State) (slot net : Nat) : Nat :=
  let leader := (s.netState slot net).leader
  match s.walkOn slot with
  | none => (s.netState slot leader).count
  | some w =>
    if leader = w.low ∨ leader = w.high then
      (s.netState slot w.low).count + (s.netState slot w.high).count
    else (s.netState slot leader).count

/-- The slot's GROUPS_INCOMPLETE flag (R113). -/
def State.incompleteFlag (s : State) (slot : Nat) : Bool := s.groups.incomplete.getLsbD slot

/-- Set a slot's GROUPS_INCOMPLETE flag (R113). -/
def setIncomplete (slot : Nat) (s : State) : State :=
  { s with groups := { s.groups with incomplete := s.groups.incomplete ||| (1#8 <<< slot) } }

/-! ### GROUP answers (R110 to R112) -/

/-- A slot is settled: the Merge Queue holds no request for it and no walk for it is in progress (R110). -/
def State.settled (s : State) (slot : Nat) : Bool :=
  s.groups.queue.all (fun r => decide (r.slot ≠ slot)) && (s.walkOn slot).isNone

/-- One member of a GROUP reply: the net, then its state (R179). -/
def memberBytes (s : State) (slot n : Nat) : List Byte :=
  be16 n ++ [byte (s.netState slot n).state.number]

/-- The reply data of a GROUP request, with the INCOMPLETE flag to report (R111, R112, R179). -/
def groupData (s : State) (slot net : Nat) (incomplete : Bool) : List Byte :=
  let leader := s.viewLeader slot net
  let count := (s.netState slot leader).count
  let members := s.groupList slot Config.groupMembersMax (some leader)
  [byte slot] ++ be16 net ++ be32 s.board.panelSequence.toNat
  ++ [byte (s.netState slot net).state.number] ++ be16 leader ++ be16 count
  ++ [byte (bitIf incomplete 1 + bitIf (decide (Config.groupMembersMax < count)) 2),
      byte members.length]
  ++ members.flatMap (memberBytes s slot)

/-- Answer the waiting GROUP requests in receipt order up to the first whose slot is not settled (R110). -/
def answerSettled (s : State) : List ReplyEntry → List ReplyEntry
  | [] => []
  | r :: rest =>
    match r.answer with
    | .given _ _ => r :: answerSettled s rest
    | .waitingGroup slot net =>
      if s.settled slot then
        { r with answer := .given .ok (groupData s slot net (s.incompleteFlag slot)) }
          :: answerSettled s rest
      else r :: rest

/-- The waiting GROUP requests that the state now lets go are answered (R110). -/
def answerGroups (s : State) : State :=
  { s with link := { s.link with replies := answerSettled s s.link.replies } }

/-- Answer every waiting GROUP request, with a slot's INCOMPLETE given by `flag` (R112). -/
def answerAllGroups (flag : Nat → Bool) (s : State) : State :=
  { s with link := { s.link with
      replies := s.link.replies.map (fun r =>
        match r.answer with
        | .given _ _ => r
        | .waitingGroup slot net =>
          { r with answer := .given .ok (groupData s slot net (flag slot)) }) } }

/-! ### The Merge Queue and the walk (R102 to R108) -/

/-- Take requests, oldest first, until one starts a walk or none is left: a request whose nets share a leader
completes at once (R104, R108). -/
def takeMergesFrom : List MergeRequest → State → State
  | [], s => { s with groups := { s.groups with queue := [] } }
  | r :: rest, s =>
    let la := (s.netState r.slot r.netA).leader
    let lb := (s.netState r.slot r.netB).leader
    if la = lb then takeMergesFrom rest (releaseReport r.report (.net la) s)
    else
      { s with groups := { s.groups with
          queue := rest
          walk := some { request := r, low := min la lb, high := max la lb,
                         position := (s.netState r.slot (max la lb)).next } } }

/-- The SGU takes the oldest request when the walk is IDLE and the queue not empty (R104). -/
def takeMerges (s : State) : State :=
  match s.groups.walk with
  | some _ => s
  | none => takeMergesFrom s.groups.queue s

/-- The Merge Queue holds fewer than 16 requests (R102). -/
def State.mergeRoom (s : State) : Bool := decide (s.groups.queue.length < Config.mergeCapacity)

/-- A request joins the Merge Queue, and is taken at once when the walk is IDLE (R102, R104); a request that
completes at once may let GROUP requests go (R110). -/
def queueMerge (r : MergeRequest) (s : State) : State :=
  answerGroups (takeMerges
    { s with groups := { s.groups with queue := s.groups.queue ++ [r] } })

/-- A request on a full Merge Queue is dropped: the flag is set and MERGE_DROPPED posted (R103). -/
def dropMerge (slot : Nat) (s : State) : State := postEvent .mergeDropped slot (setIncomplete slot s)

/-- The walk relabels the member at its position (R105, step 1). -/
def relabelMember (w : Walk) (n : Nat) (s : State) : State :=
  let next := (s.netState w.request.slot n).next
  let s := s.modifyNet w.request.slot n (fun x => { x with leader := w.low })
  { s with groups := { s.groups with walk := some { w with position := next } } }

/-- H takes leader L, and H's list is appended to L's (R105, steps 2 and 3). -/
def joinGroups (w : Walk) (s : State) : State :=
  let slot := w.request.slot
  let h := s.netState slot w.high
  let lowTail := (s.netState slot w.low).tail
  let s := s.modifyNet slot w.high (fun x => { x with leader := w.low })
  let s := s.modifyNet slot lowTail (fun x => { x with next := some w.high })
  s.modifyNet slot w.low (fun x => { x with tail := h.tail, count := x.count + h.count })

/-- A walk ends: the groups are joined, the report released with the leader of net A, waiting GROUP requests
answered and the next request taken (R107, R108). GROUP requests are answered from the groups as they stand,
which the taking of a request does not change. -/
def endWalk (w : Walk) (s : State) : State :=
  let s := joinGroups w s
  let s := { s with groups := { s.groups with walk := none } }
  let s := releaseReport w.request.report
    (.net (s.netState w.request.slot w.request.netA).leader) s
  answerGroups (takeMerges s)

/-- The requests that a BATCH_CLEAR removes, the walk's first (R115). -/
def State.openMerges (s : State) : List MergeRequest :=
  (match s.groups.walk with
    | none => []
    | some w => [w.request]) ++ s.groups.queue

/-- The SGU's part of a BATCH_CLEAR: the walk is abandoned, the queue emptied, each slot concerned marked
incomplete, every group field and state set to its initial value, and the HELD reports released as UNRESOLVED,
the walk's first (R97, R115). -/
def clearGroups (s : State) : State :=
  let removed := s.openMerges
  let s := removed.foldl (fun s r => setIncomplete r.slot s) s
  let s := { s with netStates := [], groups := { s.groups with queue := [], walk := none } }
  removed.foldl (fun s r => releaseReport r.report .unresolved s) s

end Sys2Proof.Machine
end

