-- ==== Sys2Proof/Machine/Signatures.lean ====
section
/-! DEFINITION. Signature learning, the Deferred List, the resolution scan and expiry (chapter 7). -/

namespace Sys2Proof.Machine

/-! ### The scan's position (R126 to R128) -/

/-- Set the scan. -/
def State.setScan (s : State) (x : Scan) : State := { s with sigs := { s.sigs with scan := x } }

/-- The oldest entry of the Deferred List, or the end when it is empty (R126). -/
def State.oldestDeferred (s : State) : Option Nat :=
  match s.sigs.deferred with
  | [] => none
  | _ :: _ => some 0

/-- The scan starts at the oldest entry (R126). -/
def startScan (s : State) : State :=
  s.setScan { scanning := true, position := s.oldestDeferred, rescan := false, paused := false }

/-- A scan is requested: it starts when IDLE, and the rescan mark is set when SCANNING (R126). -/
def requestScan (s : State) : State :=
  if s.sigs.scan.scanning then s.setScan { s.sigs.scan with rescan := true } else startScan s

/-- The scan's position reaches the end: a rescan starts, or the scan becomes IDLE (R127). -/
def endScan (s : State) : State :=
  if s.sigs.scan.rescan then startScan s
  else s.setScan { scanning := false, position := none, rescan := false, paused := false }

/-- The scan's position moves to an index, or reaches the end beyond the last (R127). -/
def moveScan (i : Nat) (s : State) : State :=
  if i < s.sigs.deferred.length then s.setScan { s.sigs.scan with position := some i } else endScan s

/-- An entry leaves the Deferred List; a position at it moves to the next entry, one behind it follows its entry
(R127, R128). -/
def removeDeferred (i : Nat) (s : State) : State :=
  let s' := { s with sigs := { s.sigs with deferred := s.sigs.deferred.eraseIdx i } }
  match s.sigs.scan.scanning, s.sigs.scan.position with
  | true, some p =>
    if i < p then s'.setScan { s.sigs.scan with position := some (p - 1) }
    else if i = p then moveScan p s'
    else s'
  | _, _ => s'

/-! ### RESOLVED reports (R132) -/

/-- The RESOLVED report of a deferred entry (R96, R132). -/
def resolvedReport (d : DeferredEntry) (v : Verdict) (now : Word) : Report :=
  { kind := .resolved, tag := d.tag, panel := d.panel, slot := d.slot, step := d.step,
    verdict := some v, cause := none, value := some d.value, exponent := 0, attempts := d.attempts,
    finalRange := d.finalRange, flags := d.flags, leader := .absent, timestamp := now }

/-- The scan judges the entry at an index: RESOLVED report, Net State raise for an entry of the current panel,
removal (R99, R127). -/
def judgeDeferred (i : Nat) (d : DeferredEntry) (ref : Nat) (s : State) : State :=
  let v := judgeSignature d.value ref d.tolerance
  let s := placeReport (resolvedReport d v s.now) false s
  let s := if d.panel = s.board.panelSequence then raiseNet d.slot (some d.net) v s else s
  removeDeferred i s

/-- The scan examines the entry at its position: it judges it, pauses at it on a full Report Queue, or passes over
it; at the end of the list it ends (R127, R128). -/
def examineEntry (s : State) : State :=
  match s.sigs.scan.position with
  | none => endScan s
  | some i =>
    match s.sigs.deferred[i]? with
    | none => endScan s
    | some d =>
      match d.expired, (s.signature d.net).reference with
      | false, some ref =>
        if s.reportFree then judgeDeferred i d ref s
        else s.setScan { s.sigs.scan with paused := true }
      | _, _ => moveScan (i + 1) s

/-- A running scan examines one entry; an IDLE or paused one examines none (R127, R128). -/
def scanOne (s : State) : State :=
  if s.sigs.scan.scanning && !s.sigs.scan.paused then examineEntry s else s

/-- A running scan examines `k` entries, fewer when it pauses (R127, R128). -/
def runScan : Nat → State → State
  | 0, s => s
  | k + 1, s => if s.sigs.scan.paused then s else runScan k (examineEntry s)

/-- The entries from the scan's position to the end of the list; the end itself counts one. -/
def State.scanRemaining (s : State) : Nat :=
  match s.sigs.scan.position with
  | none => 1
  | some i => max 1 (s.sigs.deferred.length - i)

/-- A paused scan that is offered a free place resumes at its position (R128, R158, R159): it judges the first
entry it can and goes on until it pauses at the next, or, where there is none, until it ends or starts a rescan. -/
def resumeScan (s : State) : State :=
  runScan s.scanRemaining (s.setScan { s.sigs.scan with paused := false })

/-! ### Expiry (R130) -/

/-- A deferred entry is WAITING with its deadline reached (R125, R130). -/
def DeferredEntry.due (seconds : Word) (d : DeferredEntry) : Bool :=
  !d.expired && reached seconds d.deadline

/-- The entries whose deadline is reached become EXPIRED, each with its DEFERRED_EXPIRED in list order (R130). -/
def expireDue (s : State) : State :=
  let due := s.sigs.deferred.filter (DeferredEntry.due s.tb.seconds)
  let s' := { s with sigs := { s.sigs with
      deferred := s.sigs.deferred.map (fun d =>
        if d.due s.tb.seconds then { d with expired := true } else d) } }
  due.foldl (fun s d => postEvent .deferredExpired d.net s) s'

/-- The oldest EXPIRED entry of the Deferred List, with its index (R130). -/
def State.oldestExpired (s : State) : Option Nat := s.sigs.deferred.findIdx? (fun d => d.expired)

/-- The oldest EXPIRED entry is placed as UNREF and removed, when a place is free (R130). -/
def placeExpired (s : State) : State :=
  match s.oldestExpired with
  | none => s
  | some i =>
    match s.sigs.deferred[i]? with
    | none => s
    | some d =>
      if s.reportFree then
        removeDeferred i (placeReport (resolvedReport d .unref s.now) false s)
      else s

/-- EXPIRED entries take the free places, oldest first (R130). -/
def placeAllExpired (s : State) : State := Nat.repeat placeExpired s.sigs.deferred.length s

/-! ### Taking a value (R119 to R123) -/

/-- What the JU hands the SU for a CAP SIG value (R92). -/
structure SignatureValue where
  slot : Nat
  net : Nat
  value : Nat
  source : Source
  tolerance : Nat
  tag : Half
  panel : Word
  step : Nat
  attempts : Nat
  finalRange : Nat
  retried : Bool
  rangeStepped : Bool
  saturated : Bool
  tbInternal : Bool
  deriving DecidableEq, Repr

/-- The SU's answer (R92): judged, deferred, or not deferred. -/
inductive SignatureResult where
  | judged (v : Verdict)
  | deferred
  | notDeferred
  deriving DecidableEq, Repr

/-- Insert a learning entry after every entry of a value not above its own (R121). -/
def insertLearn (x : LearnEntry) : List LearnEntry → List LearnEntry
  | [] => [x]
  | a :: rest => if a.value ≤ x.value then a :: insertLearn x rest else x :: a :: rest

/-- A learning list after a learnable value: an entry of the same board is replaced (R121). -/
def learnInto (x : LearnEntry) (l : List LearnEntry) : List LearnEntry :=
  insertLearn x (l.filter (fun a => !(decide (a.panel = x.panel) && decide (a.slot = x.slot))))

/-- The median of a full list of K values: the ⌈K/2⌉-th in list order (R122). -/
def medianOf (k : Nat) (l : List LearnEntry) : Nat :=
  ((l[(k + 1) / 2 - 1]?).map LearnEntry.value).getD 0

/-- A value for a net without a reference is learnable (R120). -/
def State.learnable (s : State) (x : SignatureValue) : Bool :=
  let sig := s.signature x.net
  (sig.list.isEmpty || decide (sig.source = some x.source)) && decide (s.groupSize x.slot x.net = 1)

/-- The flags of a signature value's reports (R96). -/
def SignatureValue.flags (x : SignatureValue) (notLearned : Bool) : ReportFlags :=
  { retried := x.retried, rangeStepped := x.rangeStepped, saturated := x.saturated,
    tbInternal := x.tbInternal, notLearned := notLearned }

/-- The deferred entry of a value (R124, R125). -/
def SignatureValue.defer (x : SignatureValue) (notLearned : Bool) (seconds : Word) (age : Nat) :
    DeferredEntry :=
  { tag := x.tag, panel := x.panel, slot := x.slot, step := x.step, net := x.net, value := x.value,
    tolerance := x.tolerance, attempts := x.attempts, finalRange := x.finalRange,
    flags := x.flags notLearned, deadline := seconds + BitVec.ofNat 32 age, expired := false }

/-- A value not judged at once: the first case of R123. -/
def deferValue (x : SignatureValue) (notLearned : Bool) (s : State) : State × SignatureResult :=
  if s.sigs.deferredTags.contains x.tag then (s, .notDeferred)
  else if Config.deferredCapacity ≤ s.sigs.deferred.length then
    (postEvent .deferFull x.net s, .notDeferred)
  else
    ({ s with sigs := { s.sigs with
        deferred := s.sigs.deferred ++ [x.defer notLearned s.tb.seconds s.sigs.deferAge]
        deferredTags := s.sigs.deferredTags ++ [x.tag] } }, .deferred)

/-- A net's reference freezes at a value: list emptied, REFERENCE_FROZEN posted, a scan requested (R122). -/
def freezeReference (net ref : Nat) (s : State) : State :=
  requestScan (postEvent .referenceFrozen net
    (s.setSignature net { list := [], source := none, reference := some ref }))

/-- The SU takes a value: judged, learned and frozen, or deferred, with NOT_LEARNED when it was not learnable
(R119 to R123). -/
def takeSignature (x : SignatureValue) (s : State) : State × SignatureResult × Bool :=
  let sig := s.signature x.net
  match sig.reference with
  | some ref => (s, .judged (judgeSignature x.value ref x.tolerance), false)
  | none =>
    if s.learnable x then
      let entry : LearnEntry :=
        { value := x.value, panel := x.panel, slot := x.slot, source := x.source }
      let list := learnInto entry sig.list
      if list.length = s.sigs.inForceK then
        let ref := medianOf s.sigs.inForceK list
        (freezeReference x.net ref s, .judged (judgeSignature x.value ref x.tolerance), false)
      else
        let s := s.setSignature x.net { sig with list := list, source := some x.source }
        let (s, r) := deferValue x false s
        (s, r, false)
    else
      let (s, r) := deferValue x true s
      (s, r, true)

/-! ### Net Table writes and batches (R9, R10, R133, R134) -/

/-- The SU's part of one written net record: list emptied, reference frozen at the preset or removed (R9). -/
def writeNetSignature (net : Nat) (preset : Option Nat) (s : State) : State :=
  s.setSignature net { list := [], source := none, reference := preset }

/-- The signature state that BATCH_CLEAR leaves: the presets of nets 0 to 4,094 alone (R10, R134). -/
def presetSignatures (nets : Sparse NetRecord) : Sparse NetSignature :=
  nets.filterMap (fun (n, r) =>
    match r.preset with
    | some p =>
      if n < 4095 then some (n, { list := [], source := none, reference := some p }) else none
    | none => none)

/-- The SU's part of a BATCH_CLEAR (R134). -/
def clearSignatures (s : State) : State :=
  { s with sigs := { s.sigs with
      nets := presetSignatures s.tables.nets
      inForceK := s.sigs.nextK
      deferred := []
      deferredTags := []
      scan := { scanning := false, position := none, rescan := false, paused := false } } }

end Sys2Proof.Machine
end

