-- ==== Sys2Proof/Machine/Judging.lean ====
section
/-! DEFINITION. The decision of the Judge Unit (chapter 5), the fixing of outcomes and retirement (R35, R36), the
ends of an attempt (R28 to R31), reductions (R61, R63, R65), and the granting of Report Queue places (R158). -/

namespace Sys2Proof.Machine

/-! ### The decision (R83 to R91) -/

/-- A terminal outcome of the decision: verdict, void cause, value and SATURATED of the report (R86, R94), and the
offsets that a passing ZERO step writes (R91). -/
structure Terminal where
  verdict : Verdict
  cause : Option VoidCause
  value : Option Nat
  saturated : Bool
  offset : Option Offset
  deriving DecidableEq, Repr

/-- A decision of the JU (R82): a retry, with the next range when it escalates, SKIP in place of a retry (R84), a
terminal outcome, or a value handed to the SU (R92). -/
inductive Decision where
  | retry (escalate : Option Nat)
  | skip
  | terminal (t : Terminal)
  | signature (value : Nat) (saturated : Bool)
  deriving DecidableEq, Repr

/-- A terminal outcome with a verdict on a value. -/
def Terminal.judged (v : Verdict) (value : Nat) (saturated : Bool) : Terminal :=
  { verdict := v, cause := none, value := some value, saturated := saturated, offset := none }

/-- RANGE with the value of a clipped burst, or with none (R86). -/
def Terminal.outOfRange (value : Option Nat) (saturated : Bool) : Terminal :=
  { verdict := .range, cause := none, value := value, saturated := saturated, offset := none }

/-- VOID with a cause (R86). -/
def Terminal.voided (c : VoidCause) : Terminal :=
  { verdict := .void, cause := some c, value := none, saturated := false, offset := none }

/-- The void cause of a DU trigger when the budget is spent (R32, R86). -/
def Trigger.cause : Trigger → VoidCause
  | .timeout => .timeout
  | .contact => .contact
  | .burstBad => .burstBad
  | .tbFault => .timebase

/-- The budget remains: the attempt number is below retry limit + 1 (R32, R85). -/
def budgetRemains (st : StepRecord) (e : Entry) : Bool := decide (e.attempt < st.retryLimit + 1)

/-- A retry condition's decision: a retry while the budget remains, SKIP in its place when the slot is XOUT, else
the terminal outcome (R32, R84, R85). -/
def retryOr (st : StepRecord) (e : Entry) (slotXout : Bool) (escalate : Option Nat) (t : Terminal) :
    Decision :=
  if budgetRemains st e then (if slotXout then .skip else .retry escalate) else .terminal t

/-- The verdict of a value against the limits of a COMP step (R83 row 7, R89, R90). -/
def compVerdict (st : StepRecord) (v : Nat) : Verdict :=
  if v < st.low.getD 0 then .failLow
  else if st.high.getD Config.overValue < v then .failHigh
  else .pass

/-- The decision on a value with no retry condition present: rows 3 to 10 of R83. -/
def judgeValue (st : StepRecord) (k : QuantityKind) : Decision :=
  let isOpen := decide (k = .openReading)
  let v := k.value?.getD 0
  match st.method, st.cls with
  | .zero, _ =>
    match k with
    | .offsets m z within =>
      .terminal { verdict := if within then .pass else .failHigh, cause := none, value := some m,
                  saturated := false, offset := if within then some z else none }
    | _ => .terminal (.judged .failHigh v false)
  | .res, some .iso =>
    .terminal (.judged (if !isOpen && decide (v < st.low.getD 0) then .short else .pass) v k.saturated)
  | .res, some .cont =>
    .terminal (.judged (if isOpen || decide (st.high.getD Config.overValue < v) then .openNet else .pass)
      v k.saturated)
  | .cap, some .sig => .signature v k.saturated
  | _, _ => .terminal (.judged (if isOpen then .openNet else compVerdict st v) v k.saturated)

/-- The decision on a quantity result: the retry conditions in the order of R85, then the value (R81, R83, R87). -/
def judgeResult (st : StepRecord) (rg : RangeRecord) (slotXout : Bool) (e : Entry) (q : Quantity) :
    Decision :=
  if rg.clip < q.clip then
    let t := Terminal.outOfRange q.kind.value? q.kind.saturated
    match rg.next with
    | none => .terminal t
    | some next => retryOr st e slotXout (some next) t
  else
    match q.kind with
    | .polarity => retryOr st e slotXout none (.outOfRange none false)
    | .noExcitation => retryOr st e slotXout none (.outOfRange none false)
    | k => judgeValue st k

/-- The decision for a JUDGING entry that carries a trigger or a quantity result; absent when it carries neither
(R82). -/
def decision (st : StepRecord) (rg : RangeRecord) (slotXout : Bool) (e : Entry) : Option Decision :=
  match e.trigger, e.result with
  | some t, _ => some (retryOr st e slotXout none (.voided t.cause))
  | none, some q => some (judgeResult st rg slotXout e q)
  | none, none => none

/-! ### Reports of dispatches (R35, R44, R94) -/

/-- The report of a dispatch, with the fields it takes from its entry and step (R35, R94). -/
def Entry.report (e : Entry) (st : StepRecord) (now : Word) (kind : ReportKind) (v : Option Verdict)
    (cause : Option VoidCause) (value : Option Nat) (saturated notLearned : Bool)
    (leader : GroupLeader) : Report :=
  { kind := kind, tag := e.tag, panel := e.panel, slot := e.slot, step := e.step, verdict := v,
    cause := cause, value := value, exponent := st.exponent, attempts := e.attempt,
    finalRange := e.range,
    flags := { retried := e.retried, rangeStepped := e.rangeStepped, saturated := saturated,
               tbInternal := e.tbInternal, notLearned := notLearned },
    leader := leader, timestamp := now }

/-- Verdict of a fixed outcome (R44). -/
def FixedOutcome.verdict : FixedOutcome → Verdict
  | .skip => .skip
  | .laneLost | .laneReset => .void

/-- Void cause of a fixed outcome (R44). -/
def FixedOutcome.cause : FixedOutcome → Option VoidCause
  | .skip => none
  | .laneLost => some .laneLost
  | .laneReset => some .laneReset

/-! ### Fixing outcomes (R36) -/

/-- An entry as its outcome is fixed: JUDGING, its deadline dropped, its burst discarded (R36, R41). -/
def Entry.fix (e : Entry) (o : FixedOutcome) : Entry :=
  { e with state := .judging, outcome := some o, deadline := none, trigger := none, result := none }

/-- An entry with a fixed outcome retires when the Report Queue has a free place (R36, R44). -/
def retireFixed (tag : Half) (s : State) : State :=
  match s.entry? tag with
  | none => s
  | some e =>
    match e.outcome with
    | none => s
    | some o =>
      if s.reportFree then
        (placeReport (e.report (s.stepOf e) s.now .verdict (some o.verdict) o.cause none false false
          .absent) false s).removeEntry tag
      else s

/-- The outcome of every entry that meets `p` and has none is fixed: the entries leave their order lists and the
heads behind them advance, they release their generators, and they retire in acceptance order while places are
free (R36). -/
def fixEntries (p : Entry → Bool) (o : FixedOutcome) (s : State) : State :=
  let tags := (s.entries.filter (fun e => e.outcome.isNone && p e)).map Entry.tag
  let s := { s with entries := s.entries.map (fun e => if e.outcome.isNone && p e then e.fix o else e) }
  let s := advanceHeads s
  let s := tags.foldl (fun s t => releaseGen t s) s
  tags.foldl (fun s t => retireFixed t s) s

/-- The outcome of one entry is fixed as SKIP (R39, R40). -/
def skipEntry (tag : Half) (s : State) : State := fixEntries (fun e => e.tag == tag) .skip s

/-! ### Retirement by a decision (R35, R82, R92, R93) -/

/-- The end of a retirement: the generator is released, the entry removed, the next head of the lane advances
(R35, steps 2 to 4). -/
def closeEntry (e : Entry) (s : State) : State :=
  advanceHead e.lane ((releaseGen e.tag s).removeEntry e.tag)

/-- A SHORT report, its raises, and its merge request or the dropping of it (R93, R98, R102, R103). -/
def reportShort (e : Entry) (t : Terminal) (s : State) : State :=
  let st := s.stepOf e
  let room := s.mergeRoom
  let id := s.reports.nextId
  let leader : GroupLeader := if room then .absent else .unresolved
  let s := placeReport
    (e.report st s.now .verdict (some .short) none t.value t.saturated false leader) room s
  let s := raiseNet e.slot st.netB .short (raiseNet e.slot st.netA .short s)
  if room then
    queueMerge { slot := e.slot, netA := st.netA.getD 0, netB := st.netB.getD 0, report := id } s
  else dropMerge e.slot s

/-- The report of a terminal verdict, its raises and its offset write (R35 step 1, R91, R98). -/
def reportVerdict (e : Entry) (t : Terminal) (s : State) : State :=
  let st := s.stepOf e
  let s := placeReport
    (e.report st s.now .verdict (some t.verdict) t.cause t.value t.saturated false .absent) false s
  let s := raiseNet e.slot st.netB t.verdict (raiseNet e.slot st.netA t.verdict s)
  match t.offset with
  | none => s
  | some z => s.setOffset e.lane e.range z

/-- A dispatch retires with a terminal outcome (R35). -/
def retire (e : Entry) (t : Terminal) (s : State) : State :=
  closeEntry e (if t.verdict = .short then reportShort e t s else reportVerdict e t s)

/-- What the JU hands the SU for a CAP SIG value (R92). -/
def signatureValueOf (e : Entry) (st : StepRecord) (value : Nat) (saturated : Bool) : SignatureValue :=
  { slot := e.slot, net := st.netA.getD 0, value := value,
    source := if e.tbInternal then .internal else .reference,
    tolerance := st.tolerance.getD 0, tag := e.tag, panel := e.panel, step := e.step,
    attempts := e.attempt, finalRange := e.range, retried := e.retried,
    rangeStepped := e.rangeStepped, saturated := saturated, tbInternal := e.tbInternal }

/-- A CAP SIG dispatch retires with the SU's answer (R92). -/
def retireSignature (e : Entry) (value : Nat) (saturated : Bool) (s : State) : State :=
  let st := s.stepOf e
  let (s, result, notLearned) := takeSignature (signatureValueOf e st value saturated) s
  let place (kind : ReportKind) (v : Option Verdict) (s : State) : State :=
    placeReport (e.report st s.now kind v none (some value) saturated notLearned .absent) false s
  closeEntry e
    (match result with
    | .judged v => raiseNet e.slot st.netA v (place .verdict (some v) s)
    | .deferred => place .pending none s
    | .notDeferred => place .verdict (some .unref) s)

/-- A retry of an entry: the attempt number increases, and an escalation replaces the current range (R33). -/
def Entry.retry (e : Entry) (escalate : Option Nat) : Entry :=
  { e with
    attempt := e.attempt + 1
    retried := true
    range := escalate.getD e.range
    rangeStepped := e.rangeStepped || escalate.isSome }

/-- An entry whose decision could be taken: JUDGING, its outcome absent, a trigger or a quantity result with it
(R34, R157). -/
def Entry.ready (e : Entry) : Bool :=
  decide (e.state = .judging) && e.outcome.isNone && (e.trigger.isSome || e.result.isSome)

/-- What a decision of the JU does to its entry (R33, R35, R82, R84, R92). -/
def carryOut (e : Entry) : Decision → State → State
  | .retry escalate, s => forward e.tag (s.modifyEntry e.tag (fun x => x.retry escalate))
  | .skip, s => skipEntry e.tag s
  | .terminal t, s => retire e t s
  | .signature v sat, s => retireSignature e v sat s

/-- The JU takes the decision for an entry that is ready for one, and it is carried out (R34, R82). -/
def decideEntry (tag : Half) (s : State) : State :=
  match s.entry? tag with
  | none => s
  | some e =>
    if e.ready then
      match decision (s.stepOf e) (s.rangeOf e) (decide (s.slotAt e.slot = .xout)) e with
      | none => s
      | some d => carryOut e d s
    else s

/-- The decision is taken at once when the Report Queue has a free place, and waits otherwise (R34). -/
def tryDecide (tag : Half) (s : State) : State := if s.reportFree then decideEntry tag s else s

/-! ### Ends of an attempt (R28 to R31) -/

/-- What ends an attempt: its expiry, a FAULT, or a BURST (2.4). -/
inductive AttemptEnd where
  | expiry
  | faulted
  | answered (f : BurstFrame)
  deriving DecidableEq, Repr

/-- The trigger that the DU finds at the end of an attempt; XOUT_MARK has been looked at before (R31). -/
def triggerOf (st : StepRecord) (e : Entry) : AttemptEnd → Option Trigger
  | .expiry => some .timeout
  | .faulted => some .contact
  | .answered f =>
    if f.contact.getLsbD 0 || f.contact.getLsbD 1 then some .contact
    else if f.pairCount.toNat ≠ st.samples then some .burstBad
    else if e.tbFault then some .tbFault
    else none

/-- A raw copy of a burst is captured when the entry and the setting ask for it, or RAW_DROPPED is posted when the
buffer is full (R65). -/
def captureRaw (e : Entry) (z : Offset) (f : BurstFrame) (s : State) : State :=
  if e.raw && s.link.rawCopy then
    (if s.raw.length < Config.rawCapacity then
      { s with raw := s.raw ++
          [{ lane := e.lane, tag := e.tag, attempt := e.attempt, range := e.range, offset := z,
             samples := f.pairs.length, pairs := f.pairs, nextPair := 0 }] }
    else postEvent .rawDropped e.lane.val s)
  else s

/-- A reduction starts on an entry's lane (R61). -/
def startReduction (e : Entry) (st : StepRecord) (f : BurstFrame) (s : State) : State :=
  let z := s.offsetAt e.lane e.range
  captureRaw e z f
    (s.setReduction e.lane
      (some (Reduction.start e.tag e.attempt st.method f.pairCount.toNat z f.pairs)))

/-- An attempt of a lane ends: it is closed, its entry is JUDGING and its deadline absent, and the DU's checks give
SKIP, a trigger, or a reduction (R28, R29, R31, R39). -/
def endAttempt (n : LaneId) (tag : Half) (how : AttemptEnd) (s : State) : State :=
  let s := (closeAttempt n s).modifyEntry tag
    (fun e => { e with state := .judging, deadline := none })
  match s.entry? tag with
  | none => s
  | some e =>
    if e.xoutMark then skipEntry tag s
    else
      match triggerOf (s.stepOf e) e how with
      | some t => tryDecide tag (s.modifyEntry tag (fun x => { x with trigger := some t }))
      | none =>
        match how with
        | .answered f => startReduction e (s.stepOf e) f s
        | _ => s

/-- A lane takes a good BURST or FAULT of an attempt (R56, R57). -/
def takeAnswer (n : LaneId) (a : AttemptId) (how : AttemptEnd) (s : State) : State :=
  if (s.lane n).state = .up then
    match (s.lane n).classify a with
    | .delivered => endAttempt n a.tag how s
    | .late => postEvent .lateBurst n.val s
    | .stray => postEvent .strayBurst n.val s
  else s

/-- The deadline of a lane's FORWARDED attempt is reached: it expires (R28). -/
def expireAttempt (n : LaneId) (s : State) : State :=
  match (s.lane n).openAttempt with
  | none => s
  | some a =>
    match s.entry? a.tag with
    | none => s
    | some e =>
      match e.deadline with
      | none => s
      | some d =>
        if e.state = .forwarded ∧ reached s.now d = true then endAttempt n a.tag .expiry s else s

/-- A reduction completes: the quantity result is attached to the entry, the slot returns to IDLE, and the decision
is taken when a place is free (R63, R34). -/
def completeReduction (n : LaneId) (s : State) : State :=
  match s.reductions.get n with
  | none => s
  | some r =>
    let s := s.setReduction n none
    match s.entry? r.tag with
    | none => s
    | some e =>
      let st := s.stepOf e
      let q := quantityOf r.takeAll (s.rangeOf e) (s.freqAt (st.freq.getD 0)).g st.exponent
      tryDecide r.tag (s.modifyEntry r.tag (fun x => { x with result := some q }))

/-! ### Loss and reset of a lane (R41, R42, R64) -/

/-- Lanes are lost or reset: their reductions are abandoned and their entries fixed, in acceptance order across
the lanes (R36, R41, R42, R64). -/
def loseLanes (lost : LaneId → Bool) (o : FixedOutcome) (s : State) : State :=
  let s := allLanes.foldl (fun s n => if lost n then s.setReduction n none else s) s
  fixEntries (fun e => lost e.lane) o s

/-! ### Granting a freed place (R158, R159) -/

/-- The dispatch-side waiters, oldest first (R157). -/
def State.dispatchWaiters (s : State) : List Half :=
  (s.entries.filter (fun e => e.outcome.isSome || e.ready)).map Entry.tag

/-- The signature side has a waiter: an EXPIRED entry, or the paused scan (R157). -/
def State.signatureWaits (s : State) : Bool := s.oldestExpired.isSome || s.sigs.scan.paused

/-- A report has been placed between two states of one event. -/
def placedBetween (before after : State) : Bool := before.reports.nextId != after.reports.nextId

/-- A dispatch-side waiter is offered the place: a fixed outcome retires, a decision is taken (R158). -/
def offerEntry (tag : Half) (s : State) : State :=
  match s.entry? tag with
  | none => s
  | some e => if e.outcome.isSome then retireFixed tag s else tryDecide tag s

/-- The dispatch-side waiters are offered the place in turn until one places a report (R158, R159). -/
def offerEntries : List Half → State → State
  | [], s => s
  | tag :: rest, s =>
    let s' := offerEntry tag s
    if placedBetween s s' then s' else offerEntries rest s'

/-- The signature side is offered the place: the oldest EXPIRED entry, else the paused scan (R158). -/
def offerSignature (s : State) : State :=
  if s.oldestExpired.isSome then placeExpired s
  else if s.sigs.scan.paused then resumeScan s
  else s

/-- One side is offered the place. -/
def offerSide (side : Side) (s : State) : State :=
  match side with
  | .dispatch => offerEntries s.dispatchWaiters s
  | .signature => offerSignature s

/-- The other side (R158). -/
def Side.other : Side → Side
  | .dispatch => .signature
  | .signature => .dispatch

/-- Set the grant turn. -/
def setTurn (side : Side) (s : State) : State := { s with reports := { s.reports with turn := side } }

/-- The side that is offered a freed place first: the grant turn's when both have waiters (R158). -/
def State.firstSide (s : State) : Side :=
  if !s.dispatchWaiters.isEmpty && s.signatureWaits then s.reports.turn
  else if s.signatureWaits then .signature
  else .dispatch

/-- A freed place is granted: offered to one side, then to the other, until a report is placed; the turn becomes
the other side from the one that placed (R158, R159). -/
def grantPlace (s : State) : State :=
  let side := s.firstSide
  let s1 := offerSide side s
  if placedBetween s s1 then setTurn side.other s1
  else
    let s2 := offerSide side.other s1
    if placedBetween s1 s2 then setTurn side s2 else s2

end Sys2Proof.Machine
end

