-- ==== Sys2Proof/Machine/Tables.lean ====
section
/-! DEFINITION. TABLE segments (chapter 1): the record layouts of R179, the record rules, what is in use, and the
writing of an accepted segment with its side effects. -/

namespace Sys2Proof.Machine

/-! ### Record codings (R179) -/

/-- A value coded with one absent code and a largest value; `none` for a coding not listed. -/
def codedField (x absentCode largest : Nat) : Option (Option Nat) :=
  if x = absentCode then some none else if x ≤ largest then some (some x) else none

/-- The method nibble of a step record (R179). -/
def methodOf : Nat → Option Method
  | 1 => some .res
  | 2 => some .cap
  | 3 => some .vf
  | 4 => some .zero
  | _ => none

/-- The class nibble of a step record; the inner `none` is absent (R179). -/
def classOf : Nat → Option (Option StepClass)
  | 0 => some none
  | 1 => some (some .iso)
  | 2 => some (some .cont)
  | 3 => some (some .comp)
  | 4 => some (some .sig)
  | _ => none

/-- A limit field: not read when its presence bit is clear, bad at 4,294,967,295 (R5, R6, R179). -/
def limitOf (present : Bool) (x : Nat) : Option (Option Nat) :=
  if present then (if x ≤ Config.valueMax then some (some x) else none) else some none

/-- The LOADED step record of 24 bytes, `none` when a field's coding is not listed or out of range (R5, R179). -/
def decodeLoadedStep (b : List Byte) : Option StepRecord := do
  let method ← methodOf (fieldAt b 1 1 % 16)
  let cls ← classOf (fieldAt b 1 1 / 16)
  let netA ← codedField (fieldAt b 2 2) 4095 4094
  let netB ← codedField (fieldAt b 4 2) 4095 4094
  let freq ← codedField (fieldAt b 7 1) 255 7
  let tolerance ← codedField (fieldAt b 12 2) 0 1000
  let low ← limitOf (fieldAt b 0 1 / 2 % 2 == 1) (fieldAt b 16 4)
  let high ← limitOf (fieldAt b 0 1 / 4 % 2 == 1) (fieldAt b 20 4)
  let r : StepRecord :=
    { method := method, cls := cls, netA := netA, netB := netB, range := fieldAt b 6 1,
      freq := freq, samples := fieldAt b 8 2, stimulus := fieldAt b 10 1, low := low, high := high,
      tolerance := tolerance, exponent := fieldAt b 11 1 % 16, retryLimit := fieldAt b 11 1 / 16,
      budget := fieldAt b 14 2 }
  if r.range ≤ 31 ∧ 16 ≤ r.samples ∧ r.samples ≤ 4096 ∧ r.exponent ≤ 6 ∧ r.retryLimit ≤ 7
      ∧ 1 ≤ r.budget then some r else none

/-- A step record of 24 bytes: `none` is bad, `some none` EMPTY (R6, R179). -/
def decodeStep (b : List Byte) : Option (Option StepRecord) :=
  if fieldAt b 0 1 % 2 = 0 then some none else (decodeLoadedStep b).map some

/-- The bytes of a LOADED step record, as the layout of R179 has them. -/
def encodeStep (r : StepRecord) : List Byte :=
  let method := match r.method with
    | .res => 1
    | .cap => 2
    | .vf => 3
    | .zero => 4
  let cls := match r.cls with
    | none => 0
    | some .iso => 1
    | some .cont => 2
    | some .comp => 3
    | some .sig => 4
  [byte (1 + bitIf r.low.isSome 2 + bitIf r.high.isSome 4), byte (method + 16 * cls)]
  ++ be16 (r.netA.getD 4095) ++ be16 (r.netB.getD 4095)
  ++ [byte r.range, byte (r.freq.getD 255)] ++ be16 r.samples
  ++ [byte r.stimulus, byte (r.exponent + 16 * r.retryLimit)]
  ++ be16 (r.tolerance.getD 0) ++ be16 r.budget
  ++ be32 (r.low.getD 0) ++ be32 (r.high.getD 0)

/-- A net record of 8 bytes (R179). -/
def decodeNet (b : List Byte) : NetRecord :=
  { excluded := fieldAt b 0 1 % 2 == 1
    preset := if fieldAt b 0 1 / 2 % 2 = 1 then some (fieldAt b 4 4) else none }

/-- A range record of 16 bytes, `none` when a field is out of range (R11, R179). -/
def decodeRange (b : List Byte) : Option RangeRecord := do
  let next ← codedField (fieldAt b 11 1) 255 31
  let r : RangeRecord :=
    { kv := fieldAt b 0 4, ki := fieldAt b 4 4, floor := fieldAt b 8 2, clip := fieldAt b 10 1,
      next := next }
  if 1 ≤ r.kv ∧ r.kv ≤ 1000000 ∧ 1 ≤ r.ki ∧ r.ki ≤ 1000000000 ∧ r.floor ≤ 32767 then some r
  else none

/-- A frequency record of 8 bytes, `none` when a field is out of range (R13, R179). -/
def decodeFreq (b : List Byte) : Option FreqRecord :=
  let r : FreqRecord := { divider := fieldAt b 0 2, g := fieldAt b 2 4, settle := fieldAt b 6 1 }
  if 50 ≤ r.divider ∧ r.divider ≤ 50000 ∧ 1 ≤ r.g ∧ 1 ≤ r.settle then some r else none

/-! ### Record rules -/

/-- The presence pattern and further conditions of the seven combinations (R6, first and third). -/
def StepRecord.combinationGood (r : StepRecord) : Bool :=
  let bothNets := r.netA.isSome && r.netB.isSome
  let noFreq := r.freq.isNone
  let noTol := r.tolerance.isNone
  let limitsOrdered :=
    match r.low, r.high with
    | some l, some h => decide (l ≤ h)
    | _, _ => false
  match r.method, r.cls with
  | .res, some .iso =>
    bothNets && decide (r.netA ≠ r.netB) && noFreq && r.low.isSome && r.high.isNone && noTol
  | .res, some .cont => bothNets && noFreq && r.low.isNone && r.high.isSome && noTol
  | .res, some .comp => bothNets && noFreq && limitsOrdered && noTol
  | .cap, some .comp => bothNets && r.freq.isSome && limitsOrdered && noTol
  | .cap, some .sig =>
    r.netA.isSome && r.netB.isNone && r.freq.isSome && r.low.isNone && r.high.isNone
      && r.tolerance.isSome && decide (r.exponent = 0)
  | .vf, some .comp => bothNets && noFreq && limitsOrdered && noTol
  | .zero, none =>
    r.netA.isNone && r.netB.isNone && noFreq && r.low.isNone && r.high.isNone && noTol
      && decide (r.exponent = 0)
  | _, _ => false

/-! ### Segments (R1, R2, R165) -/

/-- The tables that a segment can name (R1, R165). -/
inductive TableId where
  | step | net | range | freq
  deriving DecidableEq, Repr

/-- Table ids (R165). -/
def tableOf : Nat → Option TableId
  | 1 => some .step
  | 2 => some .net
  | 3 => some .range
  | 4 => some .freq
  | _ => none

/-- Record sizes in bytes (R165). -/
def TableId.recordSize : TableId → Nat
  | .step => 24
  | .net => 8
  | .range => 16
  | .freq => 8

/-- The last index of a table (R1). -/
def TableId.lastIndex : TableId → Nat
  | .step => 16383
  | .net => 4095
  | .range => 31
  | .freq => 7

/-- A segment that has passed the structural check: each record with its table index. -/
structure Segment where
  table : TableId
  first : Nat
  count : Nat
  records : List (Nat × List Byte)
  deriving DecidableEq, Repr

/-- Cut `count` records of a size off a payload, numbered from an index. -/
def cutRecords (size : Nat) : Nat → Nat → List Byte → List (Nat × List Byte)
  | 0, _, _ => []
  | count + 1, index, b =>
    (index, b.take size) :: cutRecords size count (index + 1) (b.drop size)

/-- The structural check of a TABLE payload; `none` is BAD_SEGMENT (R1). -/
def parseSegment (payload : List Byte) : Option Segment :=
  let first := fieldAt payload 1 2
  let count := fieldAt payload 3 1
  if payload.length < 4 then none
  else
    match tableOf (fieldAt payload 0 1) with
    | none => none
    | some t =>
      if count = 0 ∨ 64 < count ∨ t.lastIndex < first + count - 1
          ∨ payload.length ≠ 4 + count * t.recordSize then none
      else some { table := t, first := first, count := count,
                  records := cutRecords t.recordSize count first (payload.drop 4) }

/-- A range index is LOADED once a RANGE segment has been written (R2, R11). -/
def loadedAfter (s : State) (seg : Segment) (i : Nat) : Bool :=
  (s.rangeAt i).isSome || (decide (seg.first ≤ i) && decide (i < seg.first + seg.count))

/-- A record breaks the record rules of its table (R2 stage 1; R6, R8, R11, R13). -/
def badRecord (s : State) (seg : Segment) (index : Nat) (b : List Byte) : Bool :=
  match seg.table with
  | .step =>
    match decodeStep b with
    | none => true
    | some none => false
    | some (some r) => !r.combinationGood || (s.rangeAt r.range).isNone
  | .net =>
    decide (index ≠ 4095) && decide ((decodeNet b).preset = some 4294967295)
  | .range =>
    match decodeRange b with
    | none => true
    | some r =>
      match r.next with
      | none => false
      | some next => decide (next = index) || !loadedAfter s seg next
  | .freq => (decodeFreq b).isNone

/-- A table entry is in use (R3). -/
def State.inUse (s : State) (t : TableId) (i : Nat) : Bool :=
  match t with
  | .step => s.entries.any (fun e => decide (e.step = i))
  | .net => s.entries.any (fun e =>
      decide ((s.stepOf e).netA = some i) || decide ((s.stepOf e).netB = some i))
  | .range => s.entries.any (fun e => decide (e.range = i))
  | .freq => [(0 : GenId), 1].any (fun g =>
      let x := s.gen g
      (decide (0 < x.users) && decide (x.frequency = some i))
        || (decide (x.state = .retuning) && decide (x.target = some i)))

/-- The outcome of a segment (R2). -/
inductive SegmentOutcome where
  | badSegment
  | badRecord (index : Nat)
  | inUse (index : Nat)
  | accepted (seg : Segment)
  deriving DecidableEq, Repr

/-- The three stages of R2 after the structural check of R1. -/
def checkSegment (s : State) (payload : List Byte) : SegmentOutcome :=
  match parseSegment payload with
  | none => .badSegment
  | some seg =>
    match seg.records.find? (fun (i, b) => badRecord s seg i b) with
    | some (i, _) => .badRecord i
    | none =>
      match seg.records.find? (fun (i, _) => s.inUse seg.table i) with
      | some (i, _) => .inUse i
      | none => .accepted seg

/-! ### Writing (R7 to R9, R11, R13, R14) -/

/-- A generator that is IDLE at a rewritten index becomes STALE and goes to rest (R14, R137). -/
def Generator.staleAt (i : Nat) (g : Generator) : Generator :=
  if g.state = .idle ∧ g.frequency = some i then
    { g with frequency := none, output := none, origin := none }
  else g

/-- The SU's part of a written net record; none for record 4,095 (R8, R9). -/
def netRecordEffect (i : Nat) (r : NetRecord) (s : State) : State :=
  if i = 4095 then s else writeNetSignature i r.preset s

/-- Write one record of an accepted segment (R7, R8, R9, R11, R13, R14). -/
def writeRecord (t : TableId) (i : Nat) (b : List Byte) (s : State) : State :=
  match t with
  | .step =>
    { s with tables := { s.tables with
        steps := s.tables.steps.put stepInitial i ((decodeStep b).getD none) } }
  | .net =>
    netRecordEffect i (decodeNet b)
      { s with tables := { s.tables with nets := s.tables.nets.put netInitial i (decodeNet b) } }
  | .range =>
    { s with tables := { s.tables with
        ranges := s.tables.ranges.put rangeInitial i (decodeRange b) } }
  | .freq =>
    { s with
      tables := { s.tables with
        freqs := s.tables.freqs.put freqInitial i ((decodeFreq b).getD (freqInitial i)) }
      gens := s.gens.map (Generator.staleAt i) }

/-- The segment loads a preset for a net with Deferred List entries (R9, step 4). -/
def presetForDeferred (s : State) (seg : Segment) : Bool :=
  decide (seg.table = .net) && seg.records.any (fun (i, b) =>
    decide (i ≠ 4095) && (decodeNet b).preset.isSome
      && s.sigs.deferred.any (fun d => decide (d.net = i)))

/-- Write an accepted segment, with at most one scan request (R2, R9). -/
def writeSegment (seg : Segment) (s : State) : State :=
  let s' := seg.records.foldl (fun s (i, b) => writeRecord seg.table i b s) s
  if presetForDeferred s seg then requestScan s' else s'

/-- The TS takes a TABLE payload: the answer, and the writing of an accepted segment (R1, R2, R166). -/
def takeTable (seq : Byte) (payload : List Byte) (s : State) : State :=
  let answer (code : ReplyCode) (data : List Byte) := enterReply kindTable seq (.given code data)
  match checkSegment s payload with
  | .badSegment => answer .badSegment [] s
  | .badRecord i => answer .badRecord (be16 i) s
  | .inUse i => answer .inUse (be16 i) s
  | .accepted seg => answer .accepted [] (writeSegment seg s)

end Sys2Proof.Machine
end

