-- ==== Sys2Proof/Machine/Taking.lean ====
section
/-! DEFINITION. How a command is taken: time passes, the command has its effect, the arbiter makes the pass that
the event calls for, the ATTN notice is settled and the idle transmitter chooses (4.3, R139, R163, R177). While the
RESET pin is low only power and the pin itself act (R175). Also the power-on event and the tick. -/

namespace Sys2Proof.Machine

/-- Take an event that reaches neither the dispatches nor the generators. -/
def takeEvent (dt : Nat) (f : State → State) (s : State) : Host.Outcome State Fault Refusal :=
  .next (if s.resetLow then s else conclude (f (elapse dt s)))

/-- Take an event in which the arbiter may have to make a pass, after the rest of its effects (R139). -/
def takeArbitrated (dt : Nat) (f : State → State) (s : State) : Host.Outcome State Fault Refusal :=
  .next (if s.resetLow then s
    else conclude (arbiterAfter (elapse dt s) (f (elapse dt s))))

/-- The causes of POWER_UP (R175). -/
inductive ResetCause where
  | power | pin | link
  deriving DecidableEq, Repr

/-- The parameter of POWER_UP (R175). -/
def ResetCause.number : ResetCause → Nat
  | .power => 0
  | .pin => 1
  | .link => 2

/-- Every block takes its power-on values and POWER_UP is posted into the empty Event Queue (R174, R175); the
queue of waiting commands and the level of the RESET pin are outside the part. -/
def powerUp (cause : ResetCause) (low : Bool) (s : State) : State :=
  conclude (postEvent .powerUp cause.number
    { State.blank with pending := s.pending, resetLow := low })

/-! ### The tick -/

/-- The events of a lane that its clocks make due: ATTEMPT_EXPIRY, SILENCE_TIMEOUT, REDUCTION_COMPLETE
(R28, R52, R63). -/
def dueOfLane (s : State) (n : LaneId) : List Instr :=
  let l := s.lane n
  (if s.entries.any (fun e => decide (e.lane = n) && decide (e.state = .forwarded)
      && (e.deadline.map (reached s.now)).getD false) then [Instr.attemptExpiry 0 n] else [])
  ++ (if l.state = .up ∧ l.rate.threshold ≤ l.silence then [Instr.silenceTimeout 0 n] else [])
  ++ (match s.reductions.get n with
      | some r => if r.burst.isEmpty then [Instr.reductionComplete 0 n] else []
      | none => [])

/-- The events of a generator that its clocks make due (R143, R144). -/
def dueOfGen (s : State) (g : GenId) : List Instr :=
  let x := s.gen g
  if x.state = .retuning then
    (if x.settling then
      (if x.settleRemaining = 0 ∧ x.restart = false then [Instr.retuneComplete 0 g] else [])
    else if (x.oldCycleEnd.map (fun t => decide (t ≤ s.tb.ticks))).getD false then
      [Instr.retuneSettleStart 0 g]
    else [])
  else []

/-- The events that the clocks, the walk and the scan make due, in one order: those of the lanes, DEFERRAL_DEADLINE,
LOCK_TIMEOUT, those of the generators, the walk's next step (one each tick, R105) and the scan's (one every second tick,
R127). -/
def dueCommands (s : State) : List Instr :=
  allLanes.flatMap (dueOfLane s)
  ++ (if s.sigs.deferred.any (DeferredEntry.due s.tb.seconds) then [Instr.deferralDeadline 0] else [])
  ++ (if s.tb.loop = .locking ∧ Config.lockTimeout ≤ s.tb.lockTimer then [Instr.lockTimeout 0] else [])
  ++ dueOfGen s 0 ++ dueOfGen s 1
  ++ (match s.groups.walk with
      | none => []
      | some w => if w.position.isSome then [Instr.relabel 0] else [Instr.walkEnd 0])
  ++ (if s.sigs.scan.scanning ∧ s.sigs.scan.paused = false ∧ s.tb.ticks % 2 = 0 then
        [Instr.scanStep 0] else [])

/-- One tick of the timebase with no command waiting: time passes, a wrap of the microsecond counter is taken in it, and
the part's own events that fall due join the queue. A part held in reset does nothing (R175). -/
def tick (s : State) : State :=
  if s.resetLow then s
  else
    let s := elapse 1 s
    { s with pending := s.pending ++ dueCommands s }

end Sys2Proof.Machine
end

