-- ==== Sys2Proof/Machine/ResetCommands.lean ====
section
/-! DEFINITION. Power, the RESET pin and LINK_RESET (R161, R174, R175). -/

namespace Sys2Proof.Machine

/-- POWER_ON (R175). -/
def execPowerOn (_dt : Nat) (s : State) : Host.Outcome State Fault Refusal :=
  .next (powerUp .power s.resetLow s)

/-- The part as the RESET pin goes low: replies not sent and waiting GROUP requests discarded, the frame in
transmission cut off, ORDERs abandoned, the excitation outputs at rest (R112, R161, R175). -/
def enterReset (s : State) : State :=
  { s with
    resetLow := true
    link := { s.link with replies := [], transmitting := none }
    reports := { s.reports with
      queue := s.reports.queue.map (fun e => { e with inTransmission := false }) }
    lanes := s.lanes.map (fun l => { l with order := none })
    gens := s.gens.map (fun g => { g with output := none, origin := none }) }

/-- RESET_PIN_ASSERT (R175); a pin that is low already stays low. -/
def execResetPinAssert (dt : Nat) (s : State) : Host.Outcome State Fault Refusal :=
  .next (if s.resetLow then s else enterReset (elapse dt s))

/-- RESET_PIN_RELEASE (R175); a pin that is high is not released. -/
def execResetPinRelease (_dt : Nat) (s : State) : Host.Outcome State Fault Refusal :=
  .next (if s.resetLow then powerUp .pin false s else s)

/-- LINK_RESET, its taking: waiting GROUPs are answered with the slots' flags as they stand, OK is entered, and the
receiver takes no further frame (R112, R174). -/
def execLinkReset (dt : Nat) (seq : Byte) (s : State) : Host.Outcome State Fault Refusal :=
  takeEvent dt (takeFrame (fun s =>
    let s := answerAllGroups s.incompleteFlag s
    { s with link := { s.link with
        receiving := false
        replies := s.link.replies ++
          [{ kind := kindRequest, seq := seq, answer := .given .ok [], linkReset := true }] } })) s

/-- The REPLY in transmission is that of a LINK_RESET. -/
def State.sendingLinkReset (s : State) : Bool :=
  match s.link.transmitting, s.link.replies with
  | some f, r :: _ => decide (f.kind = .reply) && r.linkReset
  | _, _ => false

/-- LINK_RESET_EFFECT: the last byte of the LINK_RESET's REPLY is sent (R174). With no such REPLY in transmission
the event does not occur. -/
def execLinkResetEffect (dt : Nat) (s : State) : Host.Outcome State Fault Refusal :=
  takeEvent dt (fun s => if s.sendingLinkReset then powerUp .link false s else s) s

end Sys2Proof.Machine
end

