-- ==== Sys2Proof/Machine/LinkCommands.lean ====
section
/-! DEFINITION. Downstream frames: errors and unknown kinds (R164, R165), DISPATCH (R21 to R23), TABLE (R1, R2),
and malformed requests (R167). -/

namespace Sys2Proof.Machine

/-- LINK_FRAME_ERROR: a frame that the receiver discards is counted (R164); none is after a LINK_RESET is taken
(R174). Bytes that are a good frame are no frame error. -/
def execLinkFrameError (dt : Nat) (received : List Byte) (s : State) :
    Host.Outcome State Fault Refusal :=
  takeEvent dt (fun s =>
    if s.link.receiving && (receiveLink received).isNone then countLinkError s else s) s

/-- REPLY_LIST_OVERFLOW: a good frame meets a reply list of 64 frames (R165). -/
def execReplyListOverflow (dt : Nat) (s : State) : Host.Outcome State Fault Refusal :=
  takeEvent dt (takeFrame id) s

/-- UNKNOWN_FRAME_KIND: refused BAD_REQUEST by the CLP (R165). -/
def execUnknownFrameKind (dt : Nat) (seq kind : Byte) (s : State) : Host.Outcome State Fault Refusal :=
  takeEvent dt (fun s =>
    if knownKind kind then s
    else takeFrame (enterReply kind seq (.given .badRequest [])) s) s

/-! ### DISPATCH -/

/-- A lane number as a lane (R22, check 4). -/
def laneOf (n : Nat) : Option LaneId := if h : n < 4 then some ⟨n, h⟩ else none

/-- The fields of a DISPATCH payload (2.1, R179). -/
structure DispatchFields where
  tag : Half
  step : Nat
  slot : Nat
  lane : Nat
  raw : Bool
  deriving DecidableEq, Repr

/-- The fields of a DISPATCH payload of 7 bytes; `none` for any other length (R21, R179). -/
def dispatchFields (payload : List Byte) : Option DispatchFields :=
  if payload.length = 7 then
    some { tag := BitVec.ofNat 16 (fieldAt payload 0 2), step := fieldAt payload 2 2,
           slot := fieldAt payload 4 1, lane := fieldAt payload 5 1,
           raw := fieldAt payload 6 1 % 2 == 1 }
  else none

/-- A lane passes check 4: enabled and UP (R22). -/
def State.laneUp (s : State) (n : Nat) : Bool :=
  match laneOf n with
  | none => false
  | some lane => s.link.laneEnable.getLsbD lane.val && decide ((s.lane lane).state = .up)

/-- The first of the seven checks that fails, in order; `none` when all pass (R22). -/
def dispatchRefusal (s : State) (d : DispatchFields) : Option ReplyCode :=
  if !s.board.panelOpen then some .noPanel
  else if 16383 < d.step ∨ (s.stepAt d.step).isNone then some .badStep
  else if 7 < d.slot ∨ s.slotAt d.slot = .empty then some .badSlot
  else if !s.laneUp d.lane then some .laneDown
  else if s.entries.any (fun e => e.tag == d.tag) then some .dupTag
  else if Config.outstandingCapacity ≤ s.entries.length then some .tableFull
  else if Config.laneCapacity ≤ (s.entries.filter (fun e => decide (e.lane.val = d.lane))).length then
    some .laneFull
  else none

/-- The Outstanding entry of an accepted DISPATCH (R23). -/
def newEntry (d : DispatchFields) (lane : LaneId) (panel : Word) (st : StepRecord) : Entry :=
  { tag := d.tag, panel := panel, slot := d.slot, step := d.step, lane := lane, state := .queued,
    attempt := 1, range := st.range, gen := none, tbFault := false, xoutMark := false,
    retried := false, rangeStepped := false, tbInternal := false, raw := d.raw, deadline := none,
    outcome := none, trigger := none, result := none }

/-- An accepted DISPATCH: QUEUED at the tail of its lane's list, its head advancing, or, for an XOUT slot or an
excluded net, fixed as SKIP at once (R23). -/
def acceptDispatch (d : DispatchFields) (lane : LaneId) (s : State) : State :=
  let st := (s.stepAt d.step).getD StepRecord.blank
  let e := newEntry d lane s.board.panelSequence st
  if s.slotAt d.slot = .xout ∨ s.excluded st.netA = true ∨ s.excluded st.netB = true then
    retireFixed d.tag { s with entries := s.entries ++ [e.fix .skip] }
  else advanceHead lane { s with entries := s.entries ++ [e] }

/-- The DU takes a DISPATCH frame (R21 to R23). -/
def takeDispatch (seq : Byte) (payload : List Byte) (s : State) : State :=
  let answer (code : ReplyCode) := enterReply kindDispatch seq (.given code [])
  match dispatchFields payload with
  | none => answer .badDispatch s
  | some d =>
    match dispatchRefusal s d, laneOf d.lane with
    | some code, _ => answer code s
    | none, some lane => answer .accepted (acceptDispatch d lane s)
    | none, none => answer .laneDown s

/-- DISPATCH (R22). -/
def execDispatch (dt : Nat) (seq : Byte) (payload : List Byte) (s : State) :
    Host.Outcome State Fault Refusal :=
  takeArbitrated dt (takeFrame (takeDispatch seq payload)) s

/-- TABLE (R2). -/
def execTable (dt : Nat) (seq : Byte) (payload : List Byte) (s : State) :
    Host.Outcome State Fault Refusal :=
  takeEvent dt (takeFrame (takeTable seq payload)) s

/-- BAD_REQUEST: a REQUEST that spells no request changes no state but its refusal (R167). A payload that spells one
is no bad request. -/
def execBadRequest (dt : Nat) (seq : Byte) (payload : List Byte) (s : State) :
    Host.Outcome State Fault Refusal :=
  takeEvent dt (fun s =>
    if requestMalformed payload then takeFrame (replyRefusal seq .badRequest) s else s) s

end Sys2Proof.Machine
end

