-- ==== Sys2Proof/Machine/SettingCommands.lean ====
section
/-! DEFINITION. GET and the seven SETs (R168), with the effect of each setting's write. -/

namespace Sys2Proof.Machine

/-- The settings (R168). -/
inductive Setting where
  | laneEnable | eventDelay | rawCopy | learnCount | deferAge | tbSource | tbFail
  deriving DecidableEq, Repr

/-- Setting ids (R168). -/
def settingOf : Nat → Option Setting
  | 1 => some .laneEnable
  | 2 => some .eventDelay
  | 3 => some .rawCopy
  | 4 => some .learnCount
  | 5 => some .deferAge
  | 6 => some .tbSource
  | 7 => some .tbFail
  | _ => none

/-- A source as TB_SOURCE codes it (R168). -/
def Source.number : Source → Nat
  | .internal => 0
  | .reference => 1

/-- The value that a GET of a setting reads (R146, R168). -/
def State.setting (s : State) : Setting → Nat
  | .laneEnable => s.link.laneEnable.toNat
  | .eventDelay => bitIf s.events.delay 1
  | .rawCopy => bitIf s.link.rawCopy 1
  | .learnCount => s.sigs.nextK
  | .deferAge => s.sigs.deferAge
  | .tbSource => (s.tb.pendingSwitch.getD s.tb.source).number
  | .tbFail => bitIf s.tb.tbFail 1

/-- A SET: the write acts, then the REPLY carries the value as a GET would read it (R168). -/
def takeSet (seq : Byte) (x : Setting) (write : State → State) : State → State :=
  takeFrame (fun s =>
    let s' := write s
    replyOk seq (be32 (s'.setting x)) s')

/-- GET (R168); an id outside 1 to 7 is refused. -/
def execGet (dt : Nat) (seq id : Byte) (s : State) : Host.Outcome State Fault Refusal :=
  takeEvent dt (takeFrame (fun s =>
    match settingOf id.toNat with
    | some x => replyOk seq (be32 (s.setting x)) s
    | none => replyRefusal seq .badRequest s)) s

/-! ### LANE_ENABLE (R46) -/

/-- The clamped mask of a LANE_ENABLE write (R168). -/
def clampMask (value : Word) : BitVec 4 := BitVec.ofNat 4 (min 15 value.toNat)

/-- The lane ports after the mask changes: lanes whose bit clears are disabled, lanes whose bit sets start training
(R46). -/
def switchLanes (before after : BitVec 4) (s : State) : State :=
  allLanes.foldl (fun s n =>
    if before.getLsbD n.val && !after.getLsbD n.val then s.modifyLane n Lane.disable
    else if !before.getLsbD n.val && after.getLsbD n.val then s.modifyLane n Lane.enable
    else s) s

/-- A write of LANE_ENABLE: lanes that were UP and are disabled are lost, with no event (R41, R46). -/
def writeLaneEnable (value : Word) (s : State) : State :=
  let mask := clampMask value
  let lost (n : LaneId) : Bool :=
    s.link.laneEnable.getLsbD n.val && !mask.getLsbD n.val && decide ((s.lane n).state = .up)
  let s' := switchLanes s.link.laneEnable mask s
  loseLanes lost .laneLost { s' with link := { s'.link with laneEnable := mask } }

/-- SET_LANE_ENABLE (R46). -/
def execSetLaneEnable (dt : Nat) (seq : Byte) (value : Word) (s : State) :
    Host.Outcome State Fault Refusal :=
  takeArbitrated dt (takeSet seq .laneEnable (writeLaneEnable value)) s

/-! ### The flags and counts -/

/-- A write of EVENT_DELAY: the latch stands; a write that leaves no notifiable event withdraws a ready notice
(R177). -/
def writeEventDelay (value : Word) (s : State) : State :=
  let e := { s.events with delay := decide (value ≠ 0) }
  { s with events := { e with notice := e.notice && e.notifiable } }

/-- SET_EVENT_DELAY (R177). -/
def execSetEventDelay (dt : Nat) (seq : Byte) (value : Word) (s : State) :
    Host.Outcome State Fault Refusal :=
  takeEvent dt (takeSet seq .eventDelay (writeEventDelay value)) s

/-- SET_RAW_COPY (R65): copies already captured stay. -/
def execSetRawCopy (dt : Nat) (seq : Byte) (value : Word) (s : State) :
    Host.Outcome State Fault Refusal :=
  takeEvent dt (takeSet seq .rawCopy (fun s =>
    { s with link := { s.link with rawCopy := decide (value ≠ 0) } })) s

/-- LEARN_COUNT clamped to 1 to 7, an even result raised to the next odd number (R118). -/
def clampLearnCount (value : Nat) : Nat :=
  let k := max 1 (min 7 value)
  if k % 2 = 0 then k + 1 else k

/-- SET_LEARN_COUNT (R118): the in-force K is not changed. -/
def execSetLearnCount (dt : Nat) (seq : Byte) (value : Word) (s : State) :
    Host.Outcome State Fault Refusal :=
  takeEvent dt (takeSet seq .learnCount (fun s =>
    { s with sigs := { s.sigs with nextK := clampLearnCount value.toNat } })) s

/-- DEFER_AGE clamped to 1 to 65,535 s (R125, R168). -/
def clampDeferAge (value : Nat) : Nat := max 1 (min 65535 value)

/-- SET_DEFER_AGE (R125): entries in the Deferred List keep their deadlines. -/
def execSetDeferAge (dt : Nat) (seq : Byte) (value : Word) (s : State) :
    Host.Outcome State Fault Refusal :=
  takeEvent dt (takeSet seq .deferAge (fun s =>
    { s with sigs := { s.sigs with deferAge := clampDeferAge value.toNat } })) s

/-! ### TB_SOURCE and TB_FAIL (R148, R152) -/

/-- The source that a TB_SOURCE value names, above 1 clamped to REFERENCE (R168). -/
def sourceOf (value : Word) : Source := if value = 0 then .internal else .reference

/-- A pending switch is cancelled: the loop goes OFF when it was locking for the switch (R148). -/
def cancelSwitch (s : State) : State :=
  { s with tb := { s.tb with
      pendingSwitch := none
      loop := if s.tb.pendingSwitch = some .reference then .off else s.tb.loop } }

/-- A switch becomes pending; for REFERENCE the loop becomes LOCKING and the lock timer starts (R148). -/
def requestSwitch (target : Source) (s : State) : State :=
  { s with tb :=
      if target = .reference then
        { s.tb with pendingSwitch := some target, loop := .locking, lockTimer := 0, lockFraction := 0 }
      else { s.tb with pendingSwitch := some target } }

/-- A write of TB_SOURCE: the first case of R148 that applies. A switch that is made pending and changes the source
in the same event ends in it, and the arbiter makes the pass of its end (R139, R150). -/
def writeTbSource (value : Word) (s : State) : State :=
  let target := sourceOf value
  if target = s.tb.source then
    match s.tb.pendingSwitch with
    | none => s
    | some _ => cancelSwitch s
  else
    match s.tb.pendingSwitch with
    | some _ => s
    | none =>
      let asked := requestSwitch target s
      arbiterAfter asked (checkSwitch asked)

/-- SET_TB_SOURCE (R148). -/
def execSetTbSource (dt : Nat) (seq : Byte) (value : Word) (s : State) :
    Host.Outcome State Fault Refusal :=
  takeArbitrated dt (takeSet seq .tbSource (writeTbSource value)) s

/-- SET_TB_FAIL (R152): a 1 clears the flag, a 0 leaves it. -/
def execSetTbFail (dt : Nat) (seq : Byte) (value : Word) (s : State) :
    Host.Outcome State Fault Refusal :=
  takeEvent dt (takeSet seq .tbFail (fun s =>
    if value = 0 then s else { s with tb := { s.tb with tbFail := false } })) s

end Sys2Proof.Machine
end

