-- ==== Sys2Proof/Machine/RequestCommands.lean ====
section
/-! DEFINITION. The requests other than GET, SET and LINK_RESET (R167, R169 to R173, R178, R110). -/

namespace Sys2Proof.Machine

/-! ### STATUS (R169, R179) -/

/-- Lane states as STATUS codes them (R179). -/
def LaneState.number : LaneState → Nat
  | .disabled => 0
  | .training => 1
  | .up => 2
  | .failed => 3

/-- The loop as STATUS codes it (R179). -/
def Loop.number : Loop → Nat
  | .off => 0
  | .locking => 1
  | .locked => 2

/-- Generator states as STATUS codes them (R179). -/
def GenState.number : GenState → Nat
  | .idle => 0
  | .running => 1
  | .retuning => 2

/-- The pending switch as STATUS codes it (R179). -/
def pendingNumber : Option Source → Nat
  | none => 0
  | some .internal => 1
  | some .reference => 2

/-- The frequency STATUS reports for a generator: the target while RETUNING, 255 for STALE (R136, R179). -/
def Generator.statusFrequency (g : Generator) : Nat :=
  if g.state = .retuning then g.target.getD 255 else g.frequency.getD 255

/-- A generator's three bytes of STATUS (R179). -/
def generatorBytes (g : Generator) : List Byte :=
  [byte g.state.number, byte g.statusFrequency, byte g.users]

/-- The STATUS snapshot, 36 bytes (R169, R179). -/
def statusData (s : State) : List Byte :=
  [byte s.tb.source.number, byte (pendingNumber s.tb.pendingSwitch), byte s.tb.loop.number,
   byte (bitIf s.tb.tbFail 1)]
  ++ allLanes.map (fun n => byte (s.lane n).state.number)
  ++ allLanes.map (fun n => byte (s.lane n).rate.mbit)
  ++ generatorBytes (s.gen 0) ++ generatorBytes (s.gen 1)
  ++ [byte s.entries.length, byte s.reports.queue.length, byte s.groups.queue.length,
      byte s.sigs.deferred.length, byte s.events.queue.length, byte (bitIf s.events.overflow 1),
      s.groups.incomplete]
  ++ be32 s.board.panelSequence.toNat ++ be16 s.board.batch.toNat
  ++ [byte (bitIf s.board.panelOpen 1), byte s.sigs.inForceK, byte s.sigs.nextK]
  ++ be16 s.link.linkErrors

/-- STATUS (R169). -/
def execStatus (dt : Nat) (seq : Byte) (s : State) : Host.Outcome State Fault Refusal :=
  takeEvent dt (takeFrame (fun s => replyOk seq (statusData s) s)) s

/-! ### FETCH_EVENT (R178) -/

/-- The reply data of FETCH_EVENT: the overflow flag, the records left, the record (R178, R179). -/
def fetchData (e : EventUnit) : List Byte :=
  match e.queue with
  | [] => [byte (bitIf e.overflow 1), byte 0, byte 0] ++ List.replicate 8 (byte 0)
  | r :: rest => [byte (bitIf e.overflow 1), byte rest.length, byte 1] ++ eventBytes r

/-- The oldest record leaves, a reported overflow flag is cleared, and when no notifiable event remains the latch is
cleared and a ready notice withdrawn (R177, R178). -/
def EventUnit.fetch (e : EventUnit) : EventUnit :=
  let e := { e with queue := e.queue.tail, overflow := false }
  { e with latch := e.latch && e.notifiable, notice := e.notice && e.notifiable }

/-- FETCH_EVENT (R178). -/
def execFetchEvent (dt : Nat) (seq : Byte) (s : State) : Host.Outcome State Fault Refusal :=
  takeEvent dt (takeFrame (fun s =>
    replyOk seq (fetchData s.events) { s with events := s.events.fetch })) s

/-! ### GROUP (R110) -/

/-- The SGU takes a GROUP request: refused out of range, else it joins the waiting requests and is answered as soon
as the conditions of R110 hold, at once when they hold already. -/
def takeGroup (seq slot : Byte) (net : Half) (s : State) : State :=
  if 7 < slot.toNat ∨ 4095 < net.toNat then replyRefusal seq .badRequest s
  else answerGroups (enterReply kindRequest seq (.waitingGroup slot.toNat net.toNat) s)

/-- GROUP (R110). -/
def execGroup (dt : Nat) (seq slot : Byte) (net : Half) (s : State) :
    Host.Outcome State Fault Refusal :=
  takeEvent dt (takeFrame (takeGroup seq slot net)) s

/-! ### PANEL_START (R17, R170) -/

/-- The slot states that PANEL_START's masks give (R17). -/
def slotFromMasks (populated xout : Byte) (slot : Nat) : SlotState :=
  if xout.getLsbD slot then .xout else if populated.getLsbD slot then .active else .empty

/-- The eight slots' states as a sparse table (R17). -/
def slotsFromMasks (populated xout : Byte) : Sparse SlotState :=
  (List.range 8).foldl (fun t n => t.put slotInitial n (slotFromMasks populated xout n)) []

/-- PANEL_START is refused BUSY (R170). -/
def State.panelBusy (s : State) : Bool :=
  !s.entries.isEmpty || !s.groups.queue.isEmpty || s.groups.walk.isSome

/-- A PANEL_START that is taken (R17, R97, R114, R133, R170). -/
def openPanel (populated xout : Byte) (s : State) : State :=
  { s with
    board := { s.board with
      slots := slotsFromMasks populated xout
      panelOpen := true
      panelSequence := s.board.panelSequence + 1 }
    netStates := []
    groups := { s.groups with incomplete := 0 }
    sigs := { s.sigs with deferredTags := [] } }

/-- The TS, JU, SGU and SU take a PANEL_START (R170). -/
def takePanelStart (seq populated xout : Byte) (s : State) : State :=
  if s.panelBusy then replyRefusal seq .busy s
  else
    let s := openPanel populated xout s
    replyOk seq (be32 s.board.panelSequence.toNat) s

/-- PANEL_START (R170). -/
def execPanelStart (dt : Nat) (seq populated xout : Byte) (s : State) :
    Host.Outcome State Fault Refusal :=
  takeEvent dt (takeFrame (takePanelStart seq populated xout)) s

/-! ### XOUT (R18, R38, R39, R171) -/

/-- The slot becomes XOUT, its FORWARDED entries are marked, its QUEUED and WAIT_EXC entries fixed as SKIP (R18, R38,
R39). -/
def xoutSlot (slot : Nat) (s : State) : State :=
  let s := { s with
    board := { s.board with slots := s.board.slots.put slotInitial slot .xout }
    entries := s.entries.map (fun e =>
      if e.slot = slot ∧ e.state = .forwarded then { e with xoutMark := true } else e) }
  fixEntries (fun e => decide (e.slot = slot)
    && (decide (e.state = .queued) || decide (e.state = .waitExc))) .skip s

/-- XOUT (R171); a slot above 7 is refused (R167). -/
def execXout (dt : Nat) (seq slot : Byte) (s : State) : Host.Outcome State Fault Refusal :=
  takeArbitrated dt (takeFrame (fun s =>
    if 7 < slot.toNat then replyRefusal seq .badRequest s
    else replyOk seq [] (xoutSlot slot.toNat s))) s

/-! ### BATCH_CLEAR (R172) -/

/-- A slot's INCOMPLETE in a reply given by a BATCH_CLEAR: its flag, or set when a walk or a request of the slot is
about to be removed (R112). -/
def State.clearIncomplete (s : State) (slot : Nat) : Bool :=
  s.incompleteFlag slot || !s.settled slot

/-- A BATCH_CLEAR that is taken, in the order of R172. -/
def clearBatch (s : State) : State :=
  let s := answerAllGroups s.clearIncomplete s
  let s := { s with board := { s.board with batch := s.board.batch + 1, panelOpen := false } }
  clearSignatures (clearGroups s)

/-- BATCH_CLEAR is refused BUSY while an entry is outstanding, else taken (R172). -/
def takeBatchClear (seq : Byte) (s : State) : State :=
  if !s.entries.isEmpty then replyRefusal seq .busy s
  else
    let s := clearBatch s
    replyOk seq (be16 s.board.batch.toNat) s

/-- BATCH_CLEAR (R172). -/
def execBatchClear (dt : Nat) (seq : Byte) (s : State) : Host.Outcome State Fault Refusal :=
  takeEvent dt (takeFrame (takeBatchClear seq)) s

/-! ### LANE_RESET (R42, R54, R173) -/

/-- A lane is reset: the port, its reduction, and its entries as VOID LANE_RESET (R42, R54, R64). -/
def resetLane (n : LaneId) (s : State) : State :=
  loseLanes (fun m => decide (m = n)) .laneReset
    (s.modifyLane n (fun l => l.resetTo (s.link.laneEnable.getLsbD n.val)))

/-- LANE_RESET (R173); a lane above 3 is refused (R167). -/
def execLaneReset (dt : Nat) (seq lane : Byte) (s : State) : Host.Outcome State Fault Refusal :=
  takeArbitrated dt (takeFrame (fun s =>
    match laneOf lane.toNat with
    | none => replyRefusal seq .badRequest s
    | some n => replyOk seq [] (resetLane n s))) s

end Sys2Proof.Machine
end

