-- ==== Sys2Proof/Machine/LaneCommands.lean ====
section
/-! DEFINITION. What happens on a lane: markers, silence, returning frames, reductions, expiry, the end of an ORDER,
and frames that are discarded (chapters 2, 3 and 4). -/

namespace Sys2Proof.Machine

/-- MARKER (R48 to R50, R52, R53). -/
def execMarker (dt : Nat) (lane : LaneId) (s : State) : Host.Outcome State Fault Refusal :=
  takeEvent dt (takeMarker lane) s

/-- The silence timer of an UP lane has reached four nominal intervals (R52). -/
def Lane.silent (l : Lane) : Bool := decide (l.state = .up) && decide (l.rate.threshold ≤ l.silence)

/-- The loss of a lane by silence: the port fails, its entries are fixed as VOID LANE_LOST, LANE_FAILED is posted
(R41, R52). A lane that is not silent is not lost. -/
def failLane (n : LaneId) (s : State) : State :=
  if (s.lane n).silent then
    postEvent .laneFailed n.val
      (loseLanes (fun m => decide (m = n)) .laneLost (s.modifyLane n Lane.fail))
  else s

/-- SILENCE_TIMEOUT (R52). -/
def execSilenceTimeout (dt : Nat) (lane : LaneId) (s : State) : Host.Outcome State Fault Refusal :=
  takeArbitrated dt (failLane lane) s

/-- A lane port takes a BURST frame: one that fails the checks of R56 is discarded. -/
def takeBurst (n : LaneId) (f : BurstFrame) (s : State) : State :=
  if burstGood f then takeAnswer n { tag := f.tag, attempt := f.attempt.toNat } (.answered f) s else s

/-- BURST (R56, R57). -/
def execBurst (dt : Nat) (lane : LaneId) (frame : BurstFrame) (s : State) :
    Host.Outcome State Fault Refusal :=
  takeArbitrated dt (takeBurst lane frame) s

/-- A lane port takes a FAULT frame: one that fails the checks of R56 is discarded. -/
def takeFault (n : LaneId) (f : FaultFrame) (s : State) : State :=
  if faultGood f then takeAnswer n { tag := f.tag, attempt := f.attempt.toNat } .faulted s else s

/-- FAULT (R56, R57). -/
def execFault (dt : Nat) (lane : LaneId) (frame : FaultFrame) (s : State) :
    Host.Outcome State Fault Refusal :=
  takeArbitrated dt (takeFault lane frame) s

/-- REDUCTION_COMPLETE (R63); an IDLE slot completes nothing. -/
def execReductionComplete (dt : Nat) (lane : LaneId) (s : State) : Host.Outcome State Fault Refusal :=
  takeArbitrated dt (completeReduction lane) s

/-- ATTEMPT_EXPIRY (R28); an attempt whose deadline is not reached does not expire. -/
def execAttemptExpiry (dt : Nat) (lane : LaneId) (s : State) : Host.Outcome State Fault Refusal :=
  takeArbitrated dt (expireAttempt lane) s

/-- The last symbol of a lane's ORDER has been sent (R55). -/
def endOrder (n : LaneId) (s : State) : State := s.modifyLane n (fun l => { l with order := none })

/-- ORDER_SENT (R55). -/
def execOrderSent (dt : Nat) (lane : LaneId) (s : State) : Host.Outcome State Fault Refusal :=
  takeEvent dt (endOrder lane) s

/-- LANE_FRAME_DISCARD: no event, no count, no change (R56, R179). -/
def execLaneFrameDiscard (dt : Nat) (_lane : LaneId) (_received : List Byte) (s : State) :
    Host.Outcome State Fault Refusal :=
  takeEvent dt id s

end Sys2Proof.Machine
end

