-- ==== Sys2Proof/Machine/UnitCommands.lean ====
section
/-! DEFINITION. The part's own steps over its boards: the merge walk (R105, R107), the resolution scan (R127) and
deferral deadlines (R130). -/

namespace Sys2Proof.Machine

/-- The walk relabels the next member of H's group (R105); a walk at the end relabels none. -/
def walkStep (s : State) : State :=
  match s.groups.walk with
  | none => s
  | some w =>
    match w.position with
    | none => s
    | some n => relabelMember w n s

/-- RELABEL (R105). -/
def execRelabel (dt : Nat) (s : State) : Host.Outcome State Fault Refusal := takeEvent dt walkStep s

/-- A walk that has passed the last member of H's group ends (R105, R107). -/
def walkFinish (s : State) : State :=
  match s.groups.walk with
  | none => s
  | some w =>
    match w.position with
    | none => endWalk w s
    | some _ => s

/-- WALK_END (R107). -/
def execWalkEnd (dt : Nat) (s : State) : Host.Outcome State Fault Refusal := takeEvent dt walkFinish s

/-- SCAN_STEP (R127); an IDLE or paused scan makes no step. -/
def execScanStep (dt : Nat) (s : State) : Host.Outcome State Fault Refusal := takeEvent dt scanOne s

/-- DEFERRAL_DEADLINE (R130): the entries whose deadline is reached expire, and take the free places. -/
def execDeferralDeadline (dt : Nat) (s : State) : Host.Outcome State Fault Refusal :=
  takeEvent dt (fun s => placeAllExpired (expireDue s)) s

end Sys2Proof.Machine
end

