-- ==== Sys2Proof/Machine/TimebaseCommands.lean ====
section
/-! DEFINITION. What happens in the generators and the timebase: retunes (R143, R144), the loop (R149), failover
(R151) and the wrap of the microsecond counter (R147). -/

namespace Sys2Proof.Machine

/-- The old output cycle of a RETUNING generator has ended by tick `now`, at the tick given (R143). -/
def Generator.settleTick (g : Generator) (now : Nat) : Option Nat :=
  match g.state, g.settling, g.oldCycleEnd with
  | .retuning, false, some t => if t ≤ now then some t else none
  | _, _, _ => none

/-- A generator's output takes the target divider at the end of the old cycle (R143); before that end nothing
happens. -/
def beginSettling (g : GenId) (s : State) : State :=
  match (s.gen g).settleTick s.tb.ticks with
  | some t => s.modifyGen g (fun x => (x.settleFrom t).elapse t (s.tb.ticks - t))
  | none => s

/-- RETUNE_SETTLE_START (R143). -/
def execRetuneSettleStart (dt : Nat) (gen : GenId) (s : State) : Host.Outcome State Fault Refusal :=
  takeEvent dt (beginSettling gen) s

/-- A generator has run the settle cycles of its retune (R143 to R145). -/
def Generator.settled (g : Generator) : Bool :=
  decide (g.state = .retuning) && g.settling && decide (g.settleRemaining = 0) && !g.restart

/-- A generator whose retune is complete: IDLE at the target, the output running on (R144). -/
def Generator.completeRetune (g : Generator) : Generator :=
  { g with state := .idle, target := none, settling := false }

/-- A retune completes when settle remaining has reached 0 (R144). -/
def finishRetune (g : GenId) (s : State) : State :=
  if (s.gen g).settled then s.modifyGen g Generator.completeRetune else s

/-- RETUNE_COMPLETE (R144), with the arbiter's pass. DESIGN CHOICE, unsafe: the pass serves the waiting entries in
acceptance order (R139 to R141), so that an older entry that needs another index can put the generator that has just
completed to a new retune before a younger one that needs its index attaches (notes/assumptions/21.md). -/
def execRetuneComplete (dt : Nat) (gen : GenId) (s : State) : Host.Outcome State Fault Refusal :=
  takeArbitrated dt (finishRetune gen) s

/-- The loop locks, and the switch may complete (R149, R150); a loop that is not LOCKING does not lock. -/
def lockLoop (s : State) : State :=
  if s.tb.loop = .locking then checkSwitch { s with tb := { s.tb with loop := .locked } } else s

/-- LOOP_LOCK (R149). -/
def execLoopLock (dt : Nat) (s : State) : Host.Outcome State Fault Refusal := takeArbitrated dt lockLoop s

/-- The lock timer reaches 5,000 µs with the loop still LOCKING: the switch is abandoned (R149). -/
def timeoutLock (s : State) : State :=
  if s.tb.loop = .locking ∧ Config.lockTimeout ≤ s.tb.lockTimer then abandonSwitch 1 s else s

/-- LOCK_TIMEOUT (R149). -/
def execLockTimeout (dt : Nat) (s : State) : Host.Outcome State Fault Refusal :=
  takeArbitrated dt timeoutLock s

/-- REFIN is lost while a LOCKED loop waits for a pending switch to REFERENCE: the switch is abandoned (R149). -/
def loseSwitch (s : State) : State :=
  if s.tb.loop = .locked ∧ s.tb.pendingSwitch = some .reference then abandonSwitch 0 s else s

/-- SWITCH_REFIN_LOSS (R149). -/
def execSwitchRefinLoss (dt : Nat) (s : State) : Host.Outcome State Fault Refusal :=
  takeArbitrated dt loseSwitch s

/-- FORWARDED entries of CAP steps are marked TB_FAULT (R37, R151). -/
def markTbFault (s : State) : State :=
  { s with entries := s.entries.map (fun e =>
      if e.state = .forwarded ∧ (s.stepOf e).method = .cap then { e with tbFault := true } else e) }

/-- A failover, in the order of R151; with the source INTERNAL none occurs. -/
def failOver (s : State) : State :=
  if s.tb.source = .reference then
    restartSettling (discardTraining (markTbFault (postEvent .clockFail 0
      { s with tb := { s.tb with
          source := .internal, loop := .off, pendingSwitch := none, tbFail := true } })))
  else s

/-- FAILOVER (R151). -/
def execFailover (dt : Nat) (s : State) : Host.Outcome State Fault Refusal := takeArbitrated dt failOver s

/-- MICROSECOND_WRAP (R147): the command carries the ticks up to the wrap, and the wrap is taken in its own tick, with
its TIME_WRAP, as time passes (`elapse`). Ticks that reach no wrap bring none. -/
def execMicrosecondWrap (dt : Nat) (s : State) : Host.Outcome State Fault Refusal := takeEvent dt id s

end Sys2Proof.Machine
end

