-- ==== Sys2Proof/Machine/SentCommands.lean ====
section
/-! DEFINITION. The end of an upstream frame: ATTN, REPLY, REPORT, RAW (R156, R162, R163, R165, R174). -/

namespace Sys2Proof.Machine

/-- A frame of a kind is in transmission. -/
def State.sending (s : State) (kind : UpKind) : Bool :=
  (s.link.transmitting.map UpFrame.kind) == some kind

/-- The transmitter is free again (R163). -/
def freeTransmitter (s : State) : State := { s with link := { s.link with transmitting := none } }

/-- The last byte of an ATTN frame is sent (R163). -/
def endAttn (s : State) : State := if s.sending .attn then freeTransmitter s else s

/-- ATTN_SENT (R163). -/
def execAttnSent (dt : Nat) (s : State) : Host.Outcome State Fault Refusal := takeEvent dt endAttn s

/-- The answered frame leaves the reply list (R165). -/
def dropReply (s : State) : State :=
  { s with link := { s.link with replies := s.link.replies.tail } }

/-- The last byte of a REPLY is sent: its frame leaves the reply list (R165), and the REPLY of a LINK_RESET brings
the reset (R174). -/
def endReply (s : State) : State :=
  if s.sendingLinkReset then powerUp .link false s
  else if s.sending .reply then dropReply (freeTransmitter s)
  else s

/-- REPLY_SENT (R165). -/
def execReplySent (dt : Nat) (s : State) : Host.Outcome State Fault Refusal := takeEvent dt endReply s

/-- The entry whose REPORT was sent leaves the Report Queue (R156). -/
def dropReport (s : State) : State :=
  { s with reports := { s.reports with queue := s.reports.queue.filter (fun e => !e.inTransmission) } }

/-- The last byte of a REPORT frame is sent: its entry is removed and the freed place granted (R156, R158). -/
def endReport (s : State) : State :=
  if s.sending .report then grantPlace (dropReport (freeTransmitter s)) else s

/-- REPORT_SENT (R156). -/
def execReportSent (dt : Nat) (s : State) : Host.Outcome State Fault Refusal :=
  takeArbitrated dt endReport s

/-- The oldest raw copy after a fragment of it was sent: advanced, or removed at its end (R162). -/
def advanceRaw : List RawCopy → List RawCopy
  | [] => []
  | c :: rest =>
    if c.samples ≤ c.nextPair + rawFragment c then rest
    else { c with nextPair := c.nextPair + rawFragment c } :: rest

/-- The last byte of a RAW frame is sent (R162). -/
def endRaw (s : State) : State :=
  if s.sending .raw then { freeTransmitter s with raw := advanceRaw s.raw } else s

/-- RAW_FRAME_SENT (R162). -/
def execRawFrameSent (dt : Nat) (s : State) : Host.Outcome State Fault Refusal := takeEvent dt endRaw s

end Sys2Proof.Machine
end

