-- ==== Sys2Proof/Machine/Dispatch.lean ====
section
/-! DEFINITION. The meaning of every command: one arm per constructor of `Instr`. -/

namespace Sys2Proof.Machine

def exec (i : Instr) (s : State) : Host.Outcome State Fault Refusal :=
  match i with
  | .powerOn dt => Sys2Proof.Machine.execPowerOn dt s
  | .resetPinAssert dt => Sys2Proof.Machine.execResetPinAssert dt s
  | .resetPinRelease dt => Sys2Proof.Machine.execResetPinRelease dt s
  | .linkFrameError dt received => Sys2Proof.Machine.execLinkFrameError dt received s
  | .replyListOverflow dt => Sys2Proof.Machine.execReplyListOverflow dt s
  | .unknownFrameKind dt seq kind => Sys2Proof.Machine.execUnknownFrameKind dt seq kind s
  | .dispatch dt seq payload => Sys2Proof.Machine.execDispatch dt seq payload s
  | .table dt seq payload => Sys2Proof.Machine.execTable dt seq payload s
  | .badRequest dt seq payload => Sys2Proof.Machine.execBadRequest dt seq payload s
  | .get dt seq id => Sys2Proof.Machine.execGet dt seq id s
  | .setLaneEnable dt seq value => Sys2Proof.Machine.execSetLaneEnable dt seq value s
  | .setEventDelay dt seq value => Sys2Proof.Machine.execSetEventDelay dt seq value s
  | .setRawCopy dt seq value => Sys2Proof.Machine.execSetRawCopy dt seq value s
  | .setLearnCount dt seq value => Sys2Proof.Machine.execSetLearnCount dt seq value s
  | .setDeferAge dt seq value => Sys2Proof.Machine.execSetDeferAge dt seq value s
  | .setTbSource dt seq value => Sys2Proof.Machine.execSetTbSource dt seq value s
  | .setTbFail dt seq value => Sys2Proof.Machine.execSetTbFail dt seq value s
  | .status dt seq => Sys2Proof.Machine.execStatus dt seq s
  | .fetchEvent dt seq => Sys2Proof.Machine.execFetchEvent dt seq s
  | .group dt seq slot net => Sys2Proof.Machine.execGroup dt seq slot net s
  | .panelStart dt seq populated xout => Sys2Proof.Machine.execPanelStart dt seq populated xout s
  | .xout dt seq slot => Sys2Proof.Machine.execXout dt seq slot s
  | .batchClear dt seq => Sys2Proof.Machine.execBatchClear dt seq s
  | .laneReset dt seq lane => Sys2Proof.Machine.execLaneReset dt seq lane s
  | .linkReset dt seq => Sys2Proof.Machine.execLinkReset dt seq s
  | .linkResetEffect dt => Sys2Proof.Machine.execLinkResetEffect dt s
  | .marker dt lane => Sys2Proof.Machine.execMarker dt lane s
  | .silenceTimeout dt lane => Sys2Proof.Machine.execSilenceTimeout dt lane s
  | .burst dt lane frame => Sys2Proof.Machine.execBurst dt lane frame s
  | .fault dt lane frame => Sys2Proof.Machine.execFault dt lane frame s
  | .reductionComplete dt lane => Sys2Proof.Machine.execReductionComplete dt lane s
  | .attemptExpiry dt lane => Sys2Proof.Machine.execAttemptExpiry dt lane s
  | .orderSent dt lane => Sys2Proof.Machine.execOrderSent dt lane s
  | .relabel dt => Sys2Proof.Machine.execRelabel dt s
  | .walkEnd dt => Sys2Proof.Machine.execWalkEnd dt s
  | .scanStep dt => Sys2Proof.Machine.execScanStep dt s
  | .deferralDeadline dt => Sys2Proof.Machine.execDeferralDeadline dt s
  | .retuneSettleStart dt gen => Sys2Proof.Machine.execRetuneSettleStart dt gen s
  | .retuneComplete dt gen => Sys2Proof.Machine.execRetuneComplete dt gen s
  | .loopLock dt => Sys2Proof.Machine.execLoopLock dt s
  | .lockTimeout dt => Sys2Proof.Machine.execLockTimeout dt s
  | .switchRefinLoss dt => Sys2Proof.Machine.execSwitchRefinLoss dt s
  | .failover dt => Sys2Proof.Machine.execFailover dt s
  | .microsecondWrap dt => Sys2Proof.Machine.execMicrosecondWrap dt s
  | .attnSent dt => Sys2Proof.Machine.execAttnSent dt s
  | .replySent dt => Sys2Proof.Machine.execReplySent dt s
  | .reportSent dt => Sys2Proof.Machine.execReportSent dt s
  | .rawFrameSent dt => Sys2Proof.Machine.execRawFrameSent dt s
  | .laneFrameDiscard dt lane received => Sys2Proof.Machine.execLaneFrameDiscard dt lane received s

end Sys2Proof.Machine
end

