-- ==== Sys2Proof/Safety.lean ====
section
/-! DEFINITION. What the statements speak of: the blocks of the state and which of them an event leaves alone, the end of
an event, effects that several statements share (a report, a retry, a released generator, a change of source), which
commands are downstream frames, and the invariants that a run keeps. -/

namespace Sys2Proof.Machine

/-! ### Frames -/

/-- The blocks of the state, one for each field of `State` that a command can write. -/
inductive Block where
  | pin | tables | board | entries | lanes | reductions | raw | netStates | groups | sigs | gens | tb
  | reports | link | events
  deriving DecidableEq, Repr

/-- A block is the same in two states. -/
def Block.Same (x : Block) (a b : State) : Prop :=
  match x with
  | .pin => a.resetLow = b.resetLow
  | .tables => a.tables = b.tables
  | .board => a.board = b.board
  | .entries => a.entries = b.entries
  | .lanes => a.lanes = b.lanes
  | .reductions => a.reductions = b.reductions
  | .raw => a.raw = b.raw
  | .netStates => a.netStates = b.netStates
  | .groups => a.groups = b.groups
  | .sigs => a.sigs = b.sigs
  | .gens => a.gens = b.gens
  | .tb => a.tb = b.tb
  | .reports => a.reports = b.reports
  | .link => a.link = b.link
  | .events => a.events = b.events

/-- Every block but those listed, and the queue of waiting commands, is the same in two states. -/
def SameBut (changed : List Block) (a b : State) : Prop :=
  a.pending = b.pending ∧ ∀ x : Block, x ∉ changed → x.Same a b

/-- An outcome is the next state in which an event ends that has brought the part to `a`: the ATTN notice is settled and
an idle transmitter begins the next upstream frame (R163, R177). What that end does, UpstreamPriority says. -/
def Becomes (o : Host.Outcome State Fault Refusal) (a : State) : Prop := o = .next (conclude a)

/-- An outcome is the next state in which an event ends that has brought the part to some state with `P`. -/
def BecomesSome (o : Host.Outcome State Fault Refusal) (P : State → Prop) : Prop :=
  ∃ a, Becomes o a ∧ P a

/-! ### Premises of the statements -/

/-- The part runs, and a good downstream frame is taken: the receiver takes frames and the reply list has room
(R165, R174, R175). -/
def State.TakesFrames (s : State) : Prop :=
  s.resetLow = false ∧ s.link.receiving = true ∧ s.link.replies.length < Config.replyCapacity

/-- No frame of the reply list waits for its answer. -/
def State.NoWaitingGroup (s : State) : Prop :=
  ∀ r ∈ s.link.replies, ∃ code data, r.answer = .given code data

/-- A frame of the reply list with its answer. -/
def answered (kind seq : Byte) (code : ReplyCode) (data : List Byte) : ReplyEntry :=
  { kind := kind, seq := seq, answer := .given code data, linkReset := false }

/-- The state with a frame and its answer at the tail of the reply list. -/
def State.withReply (s : State) (r : ReplyEntry) : State :=
  { s with link := { s.link with replies := s.link.replies ++ [r] } }

/-- The state with one more link error (R164). -/
def State.withLinkError (s : State) : State :=
  { s with link := { s.link with linkErrors := min 65535 (s.link.linkErrors + 1) } }

/-- The part right after a reset of a cause, with the waiting commands kept (R175). -/
def resetWith (cause : Nat) (pending : List Instr) : State :=
  { State.reset with
    pending := pending
    events := { State.reset.events with
      queue := [{ code := .powerUp, urgent := true, parameter := BitVec.ofNat 16 cause,
                  timestamp := 0 }] } }

/-! ### Effects that several statements share -/

/-- The report of a dispatch, field by field (R35, R94). -/
def dispatchReport (e : Entry) (exponent : Nat) (now : Word) (kind : ReportKind) (verdict : Option Verdict)
    (cause : Option VoidCause) (value : Option Nat) (saturated notLearned : Bool) (leader : GroupLeader) :
    Report :=
  { kind := kind, tag := e.tag, panel := e.panel, slot := e.slot, step := e.step, verdict := verdict,
    cause := cause, value := value, exponent := exponent, attempts := e.attempt, finalRange := e.range,
    flags := { retried := e.retried, rangeStepped := e.rangeStepped, saturated := saturated,
               tbInternal := e.tbInternal, notLearned := notLearned },
    leader := leader, timestamp := now }

/-- The report of a deferred value, field by field (R96, R132). -/
def deferredReport (d : DeferredEntry) (verdict : Verdict) (now : Word) : Report :=
  { kind := .resolved, tag := d.tag, panel := d.panel, slot := d.slot, step := d.step,
    verdict := some verdict, cause := none, value := some d.value, exponent := 0, attempts := d.attempts,
    finalRange := d.finalRange, flags := d.flags, leader := .absent, timestamp := now }

/-- The state with a report at the tail of the Report Queue (R154). -/
def State.withReport (s : State) (r : Report) (held : Bool) : State :=
  { s with reports := { s.reports with
      queue := s.reports.queue ++
        [{ id := s.reports.nextId, report := r, held := held, inTransmission := false }]
      nextId := s.reports.nextId + 1 } }

/-- The Report Queue with the HELD marks of the named entries cleared and their group leader set (R108, R115). -/
def ReportUnit.released (r : ReportUnit) (named : Nat → Bool) (leader : GroupLeader) : ReportUnit :=
  { r with queue := r.queue.map (fun e =>
      if named e.id then { e with held := false, report := { e.report with leader := leader } } else e) }

/-- The state without one entry of the Outstanding Table (R35, step 3). -/
def State.without (s : State) (tag : Half) : State :=
  { s with entries := s.entries.filter (fun x => decide (x.tag ≠ tag)) }

/-- The generators after an entry releases its own: one user fewer, and IDLE with none left (R138). -/
def releasedGens (gens : PerGen Generator) : Option GenId → PerGen Generator
  | none => gens
  | some g =>
    let x := gens.get g
    gens.set g { x with users := x.users - 1,
                        state := if x.users - 1 = 0 then .idle else x.state }

/-- The state after an entry releases its generator and leaves the Outstanding Table (R35, steps 2 and 3). -/
def State.retiring (s : State) (e : Entry) : State :=
  { s with gens := releasedGens s.gens e.gen }.without e.tag

/-- An entry forwarded again by a retry, with its next range when it escalates (R27, R33). -/
def Entry.again (e : Entry) (escalate : Option Nat) (deadline : Word) (tbInternal : Bool) : Entry :=
  { e with
    state := .forwarded
    attempt := e.attempt + 1
    retried := true
    range := escalate.getD e.range
    rangeStepped := e.rangeStepped || escalate.isSome
    deadline := some deadline
    tbFault := false
    xoutMark := false
    tbInternal := tbInternal
    trigger := none
    result := none }

/-- The lane port with an ORDER of a step handed to it (R27, R55). -/
def Lane.ordered (l : Lane) (tag : Half) (attempt range : Nat) (st : StepRecord) (g : Option GenId) :
    Lane :=
  { l with
    order := some { tag := tag, attempt := attempt, range := range, samples := st.samples,
                    stimulus := st.stimulus, gen := g }
    openAttempt := some { tag := tag, attempt := attempt }
    selection := g }

/-- The source becomes another: the switch is no longer pending, the loop is OFF under INTERNAL, TB_SWITCHED is posted,
training and settling start again (R51, R145, R150). -/
def State.switchedTo (s : State) (source : Source) : State :=
  postEvent .tbSwitched (if source = .internal then 0 else 1)
    { s with
      tb := { s.tb with
        source := source
        pendingSwitch := none
        loop := if source = .internal then .off else s.tb.loop }
      lanes := s.lanes.map (fun l => if l.state = .training then
        { l with lastMarker := none, runCandidate := none, runFirst := none, runCount := 0 } else l)
      gens := s.gens.map (fun g => if g.state = .retuning ∧ g.settling = true then
        { g with restart := true } else g) }

/-- The leader under which a net is reported: the recorded one, but for the nets of the group that a walk is relabelling,
which stand under its leader H until the walk ends (R112). -/
def State.leaderSeen (s : State) (slot net : Nat) : Nat :=
  match s.groups.walk with
  | none => (s.netState slot net).leader
  | some w =>
    if w.request.slot = slot ∧ net ∈ s.groupList slot 4096 (some w.high) then w.high
    else (s.netState slot net).leader

/-- The reply data of a GROUP request, with the leader, the members and the INCOMPLETE flag to report (R111, R179). -/
def State.groupReply (s : State) (slot net leader : Nat) (incomplete : Bool) : List Byte :=
  let count := (s.netState slot leader).count
  let members := s.groupList slot 64 (some leader)
  [byte slot] ++ be16 net ++ be32 s.board.panelSequence.toNat
    ++ [byte (s.netState slot net).state.number] ++ be16 leader ++ be16 count
    ++ [byte ((if incomplete then 1 else 0) + (if 64 < count then 2 else 0)), byte members.length]
    ++ members.flatMap (fun m => be16 m ++ [byte (s.netState slot m).state.number])

/-- A frame of the reply list with its GROUP answered from a state, when it waits for one (R110 to R112). -/
def State.groupAnswered (s : State) (leader : Nat → Nat → Nat) (incomplete : Nat → Bool) (r : ReplyEntry) :
    ReplyEntry :=
  match r.answer with
  | .given _ _ => r
  | .waitingGroup slot net =>
    { r with answer := .given .ok (s.groupReply slot net (leader slot net) (incomplete slot)) }

/-- A requested scan: it starts when IDLE, and the rescan mark is set when SCANNING (R126). -/
def Scan.requested (x : Scan) (deferred : List DeferredEntry) : Scan :=
  if x.scanning then { x with rescan := true }
  else { scanning := true, position := if deferred = [] then none else some 0, rescan := false,
         paused := false }

/-- The scan as its position moves to an index of a list of a length: at the end it is IDLE, or starts again at the
oldest entry when the rescan mark is set (R127). -/
def Scan.movedTo (i length : Nat) (rescan : Bool) : Scan :=
  if i < length then { scanning := true, position := some i, rescan := rescan, paused := false }
  else if rescan then
    { scanning := true, position := if length = 0 then none else some 0, rescan := false, paused := false }
  else { scanning := false, position := none, rescan := false, paused := false }

/-- The scan after the entry at an index has left the Deferred List, of which `length` entries remain: a position behind
it follows its entry, a position at it moves to the next (R127, R128). -/
def Scan.without (x : Scan) (i length : Nat) : Scan :=
  match x.scanning, x.position with
  | true, some p =>
    if i < p then { x with position := some (p - 1) }
    else if i = p ∧ length ≤ p then Scan.movedTo p length x.rescan
    else x
  | _, _ => x

/-! ### Invariants -/

/-- The Outstanding Table holds at most 16 dispatches, at most 4 of one lane, and no two of one tag (R22). -/
def State.outstandingOk (s : State) : Bool :=
  decide (s.entries.length ≤ Config.outstandingCapacity)
    && allLanes.all (fun n =>
      decide ((s.entries.filter (fun e => decide (e.lane = n))).length ≤ Config.laneCapacity))
    && decide ((s.entries.map Entry.tag).Nodup)

/-- No queue holds more than its capacity: Report Queue (R153), Merge Queue (R101), Deferred List (R123), Event Queue
(R176), reply list (R165), raw-copy buffer (R65). -/
def State.queuesOk (s : State) : Bool :=
  decide (s.reports.queue.length ≤ Config.reportCapacity)
    && decide (s.groups.queue.length ≤ Config.mergeCapacity)
    && decide (s.sigs.deferred.length ≤ Config.deferredCapacity)
    && decide (s.events.queue.length ≤ Config.eventCapacity)
    && decide (s.link.replies.length ≤ Config.replyCapacity)
    && decide (s.raw.length ≤ Config.rawCapacity)

/-- Every sparse table is in its canonical form. -/
def State.canonical (s : State) : Bool :=
  s.tables.steps.wf stepInitial && s.tables.nets.wf netInitial && s.tables.ranges.wf rangeInitial
    && s.tables.freqs.wf freqInitial && s.tables.offsets.wf offsetInitial
    && s.board.slots.wf slotInitial && s.netStates.wf netStateInitial
    && s.sigs.nets.wf signatureInitial

/-- A lane's counters are in the ranges of R45. -/
def Lane.inRange (l : Lane) : Bool :=
  decide (l.runCount ≤ Config.lockRun) && decide (l.silence ≤ Config.silenceMax)

/-- The counters and settings are in the ranges that R45, R118, R146, R164 and R168 give them. -/
def State.rangesOk (s : State) : Bool :=
  allLanes.all (fun n => (s.lane n).inRange)
    && decide (s.tb.lockTimer ≤ Config.lockTimeout)
    && decide (s.tb.microFraction < Config.ticksPerMicrosecond)
    && decide (s.tb.secondFraction < Config.microsecondsPerSecond)
    && [1, 3, 5, 7].contains s.sigs.inForceK && [1, 3, 5, 7].contains s.sigs.nextK
    && decide (1 ≤ s.sigs.deferAge) && decide (s.sigs.deferAge ≤ 65535)
    && decide (s.link.linkErrors ≤ Config.linkErrorMax)

/-- The entries attached to a generator. -/
def State.attached (s : State) (g : GenId) : List Entry :=
  s.entries.filter (fun e => decide (e.gen = some g))

/-- A generator agrees with the entries attached to it: its user count is their number, it is RUNNING exactly when it
has users, and it has a target exactly while RETUNING (R136, R138). -/
def State.genOk (s : State) (g : GenId) : Bool :=
  decide ((s.gen g).users = (s.attached g).length)
    && (decide ((s.gen g).state = .running) == decide (0 < (s.gen g).users))
    && ((s.gen g).target.isSome == decide ((s.gen g).state = .retuning))

/-- An entry with a fixed outcome is JUDGING and attached to nothing, and one that is attached is FORWARDED or JUDGING
(R26, R36). -/
def Entry.attachmentOk (e : Entry) : Bool :=
  (e.outcome.isNone || (decide (e.state = .judging) && e.gen.isNone))
    && (e.gen.isNone || decide (e.state = .forwarded) || decide (e.state = .judging))

/-- The generators and the Outstanding Table agree. -/
def State.excitationOk (s : State) : Bool :=
  decide ((s.entries.map Entry.tag).Nodup) && s.entries.all Entry.attachmentOk
    && s.genOk 0 && s.genOk 1

end Sys2Proof.Machine

namespace Sys2Proof

/-- The command is a good downstream frame, which the receiver takes or discards (R165). -/
def Instr.isFrame : Instr → Bool
  | .replyListOverflow _ | .unknownFrameKind _ _ _ | .dispatch _ _ _ | .table _ _ _
  | .badRequest _ _ _ | .get _ _ _ | .setLaneEnable _ _ _ | .setEventDelay _ _ _ | .setRawCopy _ _ _
  | .setLearnCount _ _ _ | .setDeferAge _ _ _ | .setTbSource _ _ _ | .setTbFail _ _ _ | .status _ _
  | .fetchEvent _ _ | .group _ _ _ _ | .panelStart _ _ _ _ | .xout _ _ _ | .batchClear _ _
  | .laneReset _ _ _ | .linkReset _ _ => true
  | .powerOn _ | .resetPinAssert _ | .resetPinRelease _ | .linkFrameError _ _ | .linkResetEffect _
  | .marker _ _ | .silenceTimeout _ _ | .burst _ _ _ | .fault _ _ _ | .reductionComplete _ _
  | .attemptExpiry _ _ | .orderSent _ _ | .relabel _ | .walkEnd _ | .scanStep _ | .deferralDeadline _
  | .retuneSettleStart _ _ | .retuneComplete _ _ | .loopLock _ | .lockTimeout _ | .switchRefinLoss _
  | .failover _ | .microsecondWrap _ | .attnSent _ | .replySent _ | .reportSent _ | .rawFrameSent _
  | .laneFrameDiscard _ _ _ => false

/-- The ticks that pass before a command is taken (notes/assumptions/1.md). -/
def Instr.dt : Instr → Nat
  | .powerOn dt | .resetPinAssert dt | .resetPinRelease dt | .linkFrameError dt _
  | .replyListOverflow dt | .unknownFrameKind dt _ _ | .dispatch dt _ _ | .table dt _ _
  | .badRequest dt _ _ | .get dt _ _ | .setLaneEnable dt _ _ | .setEventDelay dt _ _
  | .setRawCopy dt _ _ | .setLearnCount dt _ _ | .setDeferAge dt _ _ | .setTbSource dt _ _
  | .setTbFail dt _ _ | .status dt _ | .fetchEvent dt _ | .group dt _ _ _ | .panelStart dt _ _ _
  | .xout dt _ _ | .batchClear dt _ | .laneReset dt _ _ | .linkReset dt _ | .linkResetEffect dt
  | .marker dt _ | .silenceTimeout dt _ | .burst dt _ _ | .fault dt _ _ | .reductionComplete dt _
  | .attemptExpiry dt _ | .orderSent dt _ | .relabel dt | .walkEnd dt | .scanStep dt
  | .deferralDeadline dt | .retuneSettleStart dt _ | .retuneComplete dt _ | .loopLock dt
  | .lockTimeout dt | .switchRefinLoss dt | .failover dt | .microsecondWrap dt | .attnSent dt
  | .replySent dt | .reportSent dt | .rawFrameSent dt | .laneFrameDiscard dt _ _ => dt

/-- The command can bring a reset of the whole part (R174, R175). -/
def Instr.resets : Instr → Bool
  | .powerOn _ | .resetPinRelease _ | .linkResetEffect _ | .replySent _ => true
  | .resetPinAssert _ | .replyListOverflow _ | .unknownFrameKind _ _ _ | .dispatch _ _ _ | .table _ _ _
  | .badRequest _ _ _ | .get _ _ _ | .setLaneEnable _ _ _ | .setEventDelay _ _ _ | .setRawCopy _ _ _
  | .setLearnCount _ _ _ | .setDeferAge _ _ _ | .setTbSource _ _ _ | .setTbFail _ _ _ | .status _ _
  | .fetchEvent _ _ | .group _ _ _ _ | .panelStart _ _ _ _ | .xout _ _ _ | .batchClear _ _
  | .laneReset _ _ _ | .linkReset _ _ | .linkFrameError _ _
  | .marker _ _ | .silenceTimeout _ _ | .burst _ _ _ | .fault _ _ _ | .reductionComplete _ _
  | .attemptExpiry _ _ | .orderSent _ _ | .relabel _ | .walkEnd _ | .scanStep _ | .deferralDeadline _
  | .retuneSettleStart _ _ | .retuneComplete _ _ | .loopLock _ | .lockTimeout _ | .switchRefinLoss _
  | .failover _ | .microsecondWrap _ | .attnSent _ | .reportSent _ | .rawFrameSent _
  | .laneFrameDiscard _ _ _ => false

end Sys2Proof
end

