-- ==== Sys2Proof/Certificates/Slice0/Obligations.lean ====
section
/-! DEFINITION. The statements for the provers. Every statement names the rules of spec/ it rests on; where a clause
rests on a choice of the model, the docstring names the log entry. In each, `u` is the part as time has brought it to
the command: `elapse dt s` (notes/assumptions/1.md), which TimeIsAdditive spells out, and `Becomes o a` says that the
outcome `o` is exactly the next state that the end of every event makes of `a`: the ATTN notice settled and the next
upstream frame begun, which UpstreamPriority spells out (R163, R177). A clause that speaks of `arbiterPass` says that the
arbiter makes its pass, which CapDispatchWaitsOrAttaches spells out (R139 to R141). -/

open Sys2Proof Sys2Proof.Machine

/-! ### The machine -/

/-- A step takes the command at the front of the queue, on the state with the queue's rest. The queue is the model's
(notes/assumptions/2.md). -/
def Obligations.StepTakesFrontCommand : Prop :=
  ∀ (c : Instr) (rest : List Instr) (s : State), s.pending = c :: rest →
    step s = exec c { s with pending := rest }

/-- With no command waiting, a step is one tick of the timebase, after which the part's own events that are due wait in
the queue: on each lane the expiry of a FORWARDED attempt (R28), the silence of an UP lane (R52) and a reduction with no
pair left (R63), then deferral deadlines (R125, R130), the lock timer's end (R149), the phases of a retune (R143, R144),
the next step of the walk (R105) and, every second tick, of a running scan (R127). A part held in reset does nothing.
The tick, the order of the events and when a deadline counts as reached are the model's choices
(notes/assumptions/2.md, 4.md, 6.md and 7.md). -/
def Obligations.IdleStepPassesOneTick : Prop :=
  ∀ s : State, s.pending = [] →
    let u := elapse 1 s
    let ofLane (n : LaneId) : List Instr :=
      (if u.entries.any (fun e => decide (e.lane = n) && decide (e.state = .forwarded)
          && e.deadline.any (fun d => decide ((u.tb.microseconds - d).toNat < 2147483648)))
        then [.attemptExpiry 0 n] else [])
      ++ (if (u.lane n).state = .up ∧ (u.lane n).rate.threshold ≤ (u.lane n).silence
        then [.silenceTimeout 0 n] else [])
      ++ (if (u.reductions.get n).any (fun r => r.burst.isEmpty) then [.reductionComplete 0 n] else [])
    let ofGen (g : GenId) : List Instr :=
      let x := u.gen g
      if x.state = .retuning ∧ x.settling = true ∧ x.settleRemaining = 0 ∧ x.restart = false then
        [.retuneComplete 0 g]
      else if x.state = .retuning ∧ x.settling = false
          ∧ x.oldCycleEnd.any (fun t => decide (t ≤ u.tb.ticks)) = true then [.retuneSettleStart 0 g]
      else []
    let due : List Instr :=
      ofLane 0 ++ ofLane 1 ++ ofLane 2 ++ ofLane 3
      ++ (if u.sigs.deferred.any (fun d =>
            !d.expired && decide ((u.tb.seconds - d.deadline).toNat < 2147483648))
          then [.deferralDeadline 0] else [])
      ++ (if u.tb.loop = .locking ∧ 5000 ≤ u.tb.lockTimer then [.lockTimeout 0] else [])
      ++ ofGen 0 ++ ofGen 1
      ++ (match u.groups.walk.map Walk.position with
        | none => []
        | some (some _) => [.relabel 0]
        | some none => [.walkEnd 0])
      ++ (if u.sigs.scan.scanning = true ∧ u.sigs.scan.paused = false ∧ u.tb.ticks % 2 = 0
        then [.scanStep 0] else [])
    (s.resetLow = false → step s = .next { u with pending := due })
    ∧ (s.resetLow = true → step s = .next s)

/-- The state right after power-on, as the tables of R5, R8, R11, R13, R15, R16, R24, R45, R60, R65, R97, R100, R101,
R117, R118, R124, R126, R136, R146, R153, R164, R165, R168, R174, R176 and R177 give it, with the POWER_UP of R175. That
its ATTN is already in transmission, with the latch set and the notice no longer ready, is the model's reading
(notes/assumptions/5.md). -/
def Obligations.ResetHoldsPowerOnValues : Prop :=
  let r := State.reset
  (∀ i, r.stepAt i = none ∧ r.netAt i = { excluded := false, preset := none } ∧ r.rangeAt i = none
    ∧ r.freqAt i = { divider := 50000, g := 1, settle := 1 })
  ∧ (∀ n i, r.offsetAt n i = { zv := 0, zi := 0 })
  ∧ (∀ slot, r.slotAt slot = .empty)
  ∧ r.board.panelOpen = false ∧ r.board.panelSequence = 0 ∧ r.board.batch = 0
  ∧ r.entries = []
  ∧ (∀ n, (r.lane n).state = .training ∧ (r.lane n).rate = .r25 ∧ (r.lane n).lastMarker = none
    ∧ (r.lane n).runCandidate = none ∧ (r.lane n).runFirst = none ∧ (r.lane n).runCount = 0
    ∧ (r.lane n).silence = 0 ∧ (r.lane n).openAttempt = none ∧ (r.lane n).lastClosed = none
    ∧ (r.lane n).selection = none ∧ (r.lane n).order = none)
  ∧ (∀ n, r.reductions.get n = none)
  ∧ r.raw = []
  ∧ (∀ slot net, net < 4096 → r.netState slot net
      = { state := .untested, leader := net, next := none, tail := net, count := 1 })
  ∧ r.groups.queue = [] ∧ r.groups.walk = none ∧ r.groups.incomplete = 0
  ∧ (∀ net, r.signature net = { list := [], source := none, reference := none })
  ∧ r.sigs.inForceK = 3 ∧ r.sigs.nextK = 3 ∧ r.sigs.deferAge = 1800
  ∧ r.sigs.deferred = [] ∧ r.sigs.deferredTags = []
  ∧ r.sigs.scan = { scanning := false, position := none, rescan := false, paused := false }
  ∧ (∀ g, (r.gen g).state = .idle ∧ (r.gen g).frequency = none ∧ (r.gen g).target = none
    ∧ (r.gen g).users = 0 ∧ (r.gen g).output = none ∧ (r.gen g).origin = none
    ∧ (r.gen g).settleRemaining = 0)
  ∧ r.tb.source = .internal ∧ r.tb.pendingSwitch = none ∧ r.tb.loop = .off ∧ r.tb.lockTimer = 0
  ∧ r.tb.tbFail = false ∧ r.tb.microseconds = 0 ∧ r.tb.microFraction = 0 ∧ r.tb.seconds = 0
  ∧ r.tb.secondFraction = 0
  ∧ r.reports.queue = [] ∧ r.reports.turn = .dispatch ∧ r.reports.sequence = 0
  ∧ r.link.laneEnable = 15 ∧ r.link.rawCopy = false ∧ r.link.replies = [] ∧ r.link.linkErrors = 0
  ∧ r.link.receiving = true ∧ r.resetLow = false
  ∧ r.link.transmitting = some { kind := .attn, seq := 0, payload := [1, 0] }
  ∧ r.events.latch = true ∧ r.events.notice = false
  ∧ r.events.queue = [{ code := .powerUp, urgent := true, parameter := 0, timestamp := 0 }]
  ∧ r.events.overflow = false ∧ r.events.delay = false

/-- POWER_ON, RESET_PIN_RELEASE, LINK_RESET_EFFECT and the REPLY_SENT of a LINK_RESET leave the part right after reset,
each with its cause (R174, R175), the ATTN already in transmission (notes/assumptions/5.md); the last two are two names
of one event, and neither occurs with no REPLY of a LINK_RESET in transmission (notes/assumptions/3.md). The taking of
LINK_RESET enters its OK and stops the receiver, and with no GROUP waiting changes nothing else (R174). RESET_PIN_ASSERT
empties the reply list, cuts off the frame in transmission, abandons the ORDERs, puts the outputs at rest, and leaves
everything else as it is until the release (R175; that the rest waits for the release is notes/assumptions/4.md). -/
def Obligations.ResetEvents : Prop :=
  ∀ (dt : Nat) (s : State),
    let u := elapse dt s
    (s.resetLow = false → exec (.powerOn dt) s = .next (resetWith 0 s.pending))
    ∧ (s.resetLow = true → exec (.resetPinRelease dt) s = .next (resetWith 1 s.pending))
    ∧ (s.resetLow = false → s.sendingLinkReset = true →
        exec (.linkResetEffect dt) s = .next (resetWith 2 s.pending)
        ∧ exec (.replySent dt) s = .next (resetWith 2 s.pending))
    ∧ (s.resetLow = false → u.sendingLinkReset = false → Becomes (exec (.linkResetEffect dt) s) u)
    ∧ (s.resetLow = false →
        exec (.resetPinAssert dt) s = .next { u with
          resetLow := true
          link := { u.link with replies := [], transmitting := none }
          reports := { u.reports with
            queue := u.reports.queue.map (fun e => { e with inTransmission := false }) }
          lanes := u.lanes.map (fun l => { l with order := none })
          gens := u.gens.map (fun g => { g with output := none, origin := none }) })
    ∧ (∀ seq, s.TakesFrames → s.NoWaitingGroup →
        let entered : ReplyEntry :=
          { kind := kindRequest, seq := seq, answer := .given .ok [], linkReset := true }
        Becomes (exec (.linkReset dt seq) s)
          { u with link := { u.link with receiving := false, replies := s.link.replies ++ [entered] } })

/-- While the RESET pin is low, no command but POWER_ON and RESET_PIN_RELEASE changes anything (R175). That time stands
still meanwhile is the model's choice (notes/assumptions/4.md). -/
def Obligations.HeldInResetNothingActs : Prop :=
  ∀ (c : Instr) (s : State), s.resetLow = true →
    (∀ dt, c ≠ .powerOn dt) → (∀ dt, c ≠ .resetPinRelease dt) → exec c s = .next s

/-- No command changes the queue of waiting commands, and every command answers a next state. The queue is the model's
(notes/assumptions/2.md). -/
def Obligations.ExecLeavesQueue : Prop :=
  ∀ (c : Instr) (s : State), ∃ t, exec c s = .next t ∧ t.pending = s.pending

/-- The Step, Net, Range and Frequency Tables are written by TABLE frames alone, resets apart (R2, R5, R8, R11, R13). -/
def Obligations.OnlyTableFramesWriteTables : Prop :=
  ∀ (c : Instr) (s t : State), c.resets = false → (∀ dt seq p, c ≠ .table dt seq p) →
    exec c s = .next t →
      t.tables.steps = s.tables.steps ∧ t.tables.nets = s.tables.nets
      ∧ t.tables.ranges = s.tables.ranges ∧ t.tables.freqs = s.tables.freqs

/-- The panel sequence and the batch number never change under an Outstanding entry, resets apart (R43). -/
def Obligations.PanelNumbersFixedUnderEntries : Prop :=
  ∀ (c : Instr) (s t : State), c.resets = false → s.entries ≠ [] → exec c s = .next t →
    t.board.panelSequence = s.board.panelSequence ∧ t.board.batch = s.board.batch

/-- Time is additive: however a span of ticks is cut by commands, every counter, silence timer, settling generator,
reduction and fraction, and every event of a wrap, stands where the whole span leaves it: no microsecond is lost or
repeated. 100 ticks make a microsecond and 1,000,000 microseconds a second; ticks short of the next wrap of the
microsecond counter run the clocks and do nothing else, and at the wrap the counter becomes 0 and TIME_WRAP with parameter
0 is posted in that very event, whatever command the ticks lead to (R147). The clocks: the lock timer counts the
microseconds of a LOCKING loop to 5,000 (R149); an UP lane's silence timer counts ticks to 16,384 (R52); each target cycle
of a settling generator that ends takes one from settle remaining, and the first to end after a change of source sets it
back to the record's settle cycles (R143, R145); a reduction takes one pair a tick (R63); nothing else moves. That
commands carry their ticks, that a reduction takes its pairs at that rate, that the lock timer stands off LOCKING, and
that a cycle which ends at the tick of a change of source was counted before it are the model's choices
(notes/assumptions/1.md, 7.md, 17.md and 22.md). -/
def Obligations.TimeIsAdditive : Prop :=
  (∀ (a b : Nat) (s : State), elapse b (elapse a s) = elapse (a + b) s)
  ∧ (∀ (n : Nat) (s : State), s.tb.microFraction < 100 →
      let u := elapse n s
      let micros := (s.tb.microFraction + n) / 100
      let left := (4294967296 - s.tb.microseconds.toNat) * 100 - s.tb.microFraction
      u.tb.microseconds = s.tb.microseconds + BitVec.ofNat 32 micros
      ∧ u.tb.microFraction = (s.tb.microFraction + n) % 100
      ∧ u.tb.seconds = s.tb.seconds + BitVec.ofNat 32 ((s.tb.secondFraction + micros) / 1000000)
      ∧ u.tb.secondFraction = (s.tb.secondFraction + micros) % 1000000
      ∧ (n < left → u = runClocks n s)
      ∧ (n = left → u.tb.microseconds = 0
          ∧ u = conclude (postEvent .timeWrap 0 (runClocks n s))))
  ∧ ∀ (n : Nat) (s : State),
      let u := runClocks n s
      let locking := s.tb.loop = .locking
      let micros := (s.tb.microFraction + n) / 100
      u.tb = { s.tb with
        ticks := s.tb.ticks + n
        microFraction := (s.tb.microFraction + n) % 100
        microseconds := s.tb.microseconds + BitVec.ofNat 32 micros
        secondFraction := (s.tb.secondFraction + micros) % 1000000
        seconds := s.tb.seconds + BitVec.ofNat 32 ((s.tb.secondFraction + micros) / 1000000)
        lockTimer := if locking then min 5000 (s.tb.lockTimer + (s.tb.lockFraction + n) / 100)
          else s.tb.lockTimer
        lockFraction := if locking then (s.tb.lockFraction + n) % 100 else s.tb.lockFraction }
      ∧ (∀ m, u.lane m = { s.lane m with
          silence := if (s.lane m).state = .up then min 16384 ((s.lane m).silence + n)
            else (s.lane m).silence })
      ∧ (∀ g,
          let x := s.gen g
          ((x.state ≠ .retuning ∨ x.settling = false ∨ x.origin = none) → u.gen g = x)
          ∧ ∀ o, x.state = .retuning → x.settling = true → x.origin = some o → o ≤ s.tb.ticks →
              let ended := ((List.range n).filter (fun k =>
                decide ((s.tb.ticks + k + 1 - o) % (2 * x.latchDivider) = 0))).length
              (x.restart = false → u.gen g = { x with settleRemaining := x.settleRemaining - ended })
              ∧ (x.restart = true → ended = 0 → u.gen g = x)
              ∧ (x.restart = true → 0 < ended →
                  u.gen g = { x with settleRemaining := x.latchSettle - (ended - 1), restart := false }))
      ∧ (∀ m, (s.reductions.get m = none → u.reductions.get m = none)
          ∧ ∀ r, s.reductions.get m = some r → ∃ x, u.reductions.get m = some x
              ∧ x.burst = r.burst.drop n ∧ x.takeAll = r.takeAll)
      ∧ SameBut [.tb, .lanes, .gens, .reductions] s u

/-! ### Frames of the Controller Link -/

/-- A frame that the receiver discards, and a good frame that meets a full reply list, are counted and have no other
effect; after a LINK_RESET is taken nothing is counted (R164, R165, R174). A frame of an unknown kind and a malformed
REQUEST are refused BAD_REQUEST and have no other effect (R165, R167). A REQUEST is well formed when its kind is one of
R167 with arguments of that kind's length, and a SET names a setting (R167, R168; that an empty REQUEST and a SET of no
setting are malformed is notes/assumptions/16.md). -/
def Obligations.BadFramesHaveNoOtherEffect : Prop :=
  (∀ (dt : Nat) (s : State),
    let u := elapse dt s
    (∀ received, s.resetLow = false → receiveLink received = none →
      Becomes (exec (.linkFrameError dt received) s) (if s.link.receiving then u.withLinkError else u))
    ∧ (s.resetLow = false → s.link.receiving = true → 64 ≤ s.link.replies.length →
        Becomes (exec (.replyListOverflow dt) s) u.withLinkError)
    ∧ (∀ seq kind, s.TakesFrames → kind ≠ 1#8 → kind ≠ 2#8 → kind ≠ 3#8 →
        Becomes (exec (.unknownFrameKind dt seq kind) s)
          (u.withReply (answered kind seq .badRequest [])))
    ∧ (∀ seq payload, s.TakesFrames → requestMalformed payload = true →
        Becomes (exec (.badRequest dt seq payload) s)
          (u.withReply (answered kindRequest seq .badRequest []))))
  ∧ ∀ payload : List Byte, requestMalformed payload = false ↔
      ∃ kind arguments, payload = kind :: arguments
        ∧ (kind.toNat, arguments.length) ∈
            [(1, 1), (2, 5), (3, 0), (4, 0), (5, 3), (6, 2), (7, 1), (8, 0), (9, 1), (10, 0)]
        ∧ (kind.toNat = 2 → 1 ≤ fieldAt arguments 0 1 ∧ fieldAt arguments 0 1 ≤ 7)

/-- Every good downstream frame that meets a reply list of 64 frames is discarded and counted, and every one that arrives
between the two events of a LINK_RESET is discarded uncounted: no block takes it (R165, R174). -/
def Obligations.DiscardedFramesAreNotTaken : Prop :=
  ∀ (c : Instr) (s : State), c.isFrame = true → c.WellFormed = true → s.resetLow = false →
    (s.link.receiving = false → Becomes (exec c s) (elapse c.dt s))
    ∧ (s.link.receiving = true → 64 ≤ s.link.replies.length →
        Becomes (exec c s) (elapse c.dt s).withLinkError)

/-- The receiver reads back every frame that the format of R164 spells, whatever bytes follow it before the next
delimiter; a lane port reads back every lane frame's envelope (R179); and the bytes of an upstream frame are of the same
format, with its kind coded 129 REPLY, 130 REPORT, 131 ATTN or 132 RAW, and are what the transmitter sends while the
frame is in transmission (R164, R179). A frame is kind, sequence, length, payload and CRC-32, a lane frame length, payload
and CRC-32; the receiver discards a frame that is cut short, too long, or of another CRC (R164). The payloads, field by
field: a REPORT of 28 bytes, a RAW header of 16 bytes with its pairs behind it (R162), and a lane's ORDER of 9 bytes, which
is what the lane port sends while the ORDER is in transmission (R55, R179); and the reply codes 0 to 14 (R166). The order
of the CRC-32's bytes is notes/assumptions/16.md. -/
def Obligations.FramesAreReadBack : Prop :=
  (∀ (f : LinkFrame) (tail : List Byte), f.payload.length ≤ 1024 →
    receiveLink (linkFrameBytes f ++ tail) = some f)
  ∧ (∀ payload tail : List Byte, payload.length ≤ 16391 →
      receiveLane (laneFrameBytes payload ++ tail) = some (payload, true))
  ∧ (∀ (f : UpFrame) (tail : List Byte), f.payload.length ≤ 1024 →
      let code : Byte := match f.kind with
        | .reply => 129
        | .report => 130
        | .attn => 131
        | .raw => 132
      receiveLink (f.bytes ++ tail) = some { kind := code, seq := f.seq, payload := f.payload }
      ∧ f.bytes.length = f.payload.length + 8
      ∧ ∀ s : State, s.link.transmitting = some f → s.sendingBytes = f.bytes)
  ∧ (∀ f : LinkFrame,
      let body := [f.kind, f.seq] ++ be16 f.payload.length ++ f.payload
      linkFrameBytes f = body ++ be32 (crc32 body).toNat)
  ∧ (∀ payload : List Byte,
      let body := be16 payload.length ++ payload
      laneFrameBytes payload = body ++ be32 (crc32 body).toNat)
  ∧ (∀ received : List Byte,
      let length := fieldAt received 2 2
      receiveLink received = none ↔ received.length < 4 ∨ 1024 < length ∨ received.length < length + 8
        ∨ fieldAt received (length + 4) 4 ≠ (crc32 (received.take (length + 4))).toNat)
  ∧ (∀ received : List Byte,
      let length := fieldAt received 0 2
      (receiveLane received = none ↔ received.length < 2 ∨ 16391 < length ∨ received.length < length + 6)
      ∧ ∀ payload good, receiveLane received = some (payload, good) →
          payload = (received.drop 2).take length
          ∧ (good = true ↔ fieldAt received (length + 2) 4 = (crc32 (received.take (length + 2))).toNat))
  ∧ (∀ r : Report,
      let p := reportPayload r
      let bit (b : Bool) (k : Nat) : Nat := if b then 2 ^ k else 0
      p.length = 28
      ∧ fieldAt p 0 1 = (match r.kind with
          | .verdict => 1
          | .pending => 2
          | .resolved => 3)
      ∧ fieldAt p 1 1 = (match r.verdict with
          | none => 0
          | some .pass => 1
          | some .failLow => 2
          | some .failHigh => 3
          | some .openNet => 4
          | some .short => 5
          | some .range => 6
          | some .void => 7
          | some .skip => 8
          | some .unref => 9)
      ∧ fieldAt p 2 1 = (match r.cause with
          | none => 0
          | some .timeout => 1
          | some .contact => 2
          | some .burstBad => 3
          | some .timebase => 4
          | some .laneLost => 5
          | some .laneReset => 6)
      ∧ fieldAt p 3 1 = bit r.flags.retried 0 + bit r.flags.rangeStepped 1 + bit r.flags.saturated 2
          + bit r.flags.tbInternal 3 + bit r.flags.notLearned 4 + bit r.value.isSome 5
      ∧ fieldAt p 4 2 = r.tag.toNat ∧ fieldAt p 6 2 = r.step % 65536 ∧ fieldAt p 8 1 = r.slot % 256
      ∧ fieldAt p 9 1 = r.exponent % 256 ∧ fieldAt p 10 1 = r.attempts % 256
      ∧ fieldAt p 11 1 = r.finalRange % 256 ∧ fieldAt p 12 4 = r.panel.toNat
      ∧ (r.value = none → fieldAt p 16 4 = 0)
      ∧ (∀ v, r.value = some v → fieldAt p 16 4 = v % 4294967296)
      ∧ fieldAt p 20 2 = (match r.leader with
          | .net n => n % 65536
          | .unresolved => 65534
          | .absent => 65535)
      ∧ fieldAt p 22 2 = 0 ∧ fieldAt p 24 4 = r.timestamp.toNat)
  ∧ (∀ c : RawCopy, c.pairs.length = c.samples → c.nextPair ≤ c.samples →
      let p := rawPayload c
      let count := min 252 (c.samples - c.nextPair)
      p.length = 16 + 4 * count
      ∧ fieldAt p 0 1 = c.lane.val ∧ fieldAt p 1 2 = c.tag.toNat ∧ fieldAt p 3 1 = c.attempt % 256
      ∧ fieldAt p 4 1 = c.range % 256 ∧ fieldAt p 5 1 = 0
      ∧ fieldAt p 6 2 = (c.offset.zv % 65536).toNat ∧ fieldAt p 8 2 = (c.offset.zi % 65536).toNat
      ∧ fieldAt p 10 2 = c.samples % 65536 ∧ fieldAt p 12 2 = c.nextPair % 65536 ∧ fieldAt p 14 2 = count
      ∧ ∀ k x, k < count → c.pairs[c.nextPair + k]? = some x →
          fieldAt p (16 + 4 * k) 2 = x.v.toNat ∧ fieldAt p (18 + 4 * k) 2 = x.i.toNat)
  ∧ (∀ o : Order,
      let p := orderPayload o
      p.length = 9
      ∧ fieldAt p 0 1 = 1 ∧ fieldAt p 1 2 = o.tag.toNat ∧ fieldAt p 3 1 = o.attempt % 256
      ∧ fieldAt p 4 1 = o.range % 256 ∧ fieldAt p 5 2 = o.samples % 65536 ∧ fieldAt p 7 1 = o.stimulus % 256
      ∧ fieldAt p 8 1 = (if o.gen = none then 0 else if o.gen = some 0 then 1 else 2)
      ∧ ∀ (s : State) (n : LaneId), (s.lane n).order = some o → s.orderBytes n = laneFrameBytes p)
  ∧ [ReplyCode.accepted, .ok, .busy, .badRequest, .badSegment, .badRecord, .inUse, .badDispatch, .noPanel,
      .badStep, .badSlot, .laneDown, .dupTag, .tableFull, .laneFull].map ReplyCode.number
      = [0, 1, 2, 3, 4, 5, 6, 7, 8, 9, 10, 11, 12, 13, 14]

/-! ### Requests -/

/-- GET answers the value of the setting named by its id, and BAD_REQUEST for an id outside 1 to 7; it changes nothing
(R146, R168). -/
def Obligations.GetAnswersSetting : Prop :=
  ∀ (dt : Nat) (seq id : Byte) (s : State), s.TakesFrames →
    let u := elapse dt s
    let value : Nat := match id.toNat with
      | 1 => s.link.laneEnable.toNat
      | 2 => if s.events.delay then 1 else 0
      | 3 => if s.link.rawCopy then 1 else 0
      | 4 => s.sigs.nextK
      | 5 => s.sigs.deferAge
      | 6 => if s.tb.pendingSwitch.getD s.tb.source = .internal then 0 else 1
      | _ => if s.tb.tbFail then 1 else 0
    Becomes (exec (.get dt seq id) s)
      (u.withReply (if 1 ≤ id.toNat ∧ id.toNat ≤ 7 then answered kindRequest seq .ok (be32 value)
        else answered kindRequest seq .badRequest []))

/-- The SETs of LEARN_COUNT, DEFER_AGE, RAW_COPY and TB_FAIL clamp the value, write the setting alone and answer the
value a GET would then read (R65, R118, R125, R152, R168). -/
def Obligations.SettingsTakeClampedValues : Prop :=
  ∀ (dt : Nat) (seq : Byte) (value : Word) (s : State), s.TakesFrames →
    let u := elapse dt s
    let v := value.toNat
    let k := if v = 0 then 1 else if 7 ≤ v then 7 else 2 * (v / 2) + 1
    let age := if v = 0 then 1 else min 65535 v
    Becomes (exec (.setLearnCount dt seq value) s)
      ({ u with sigs := { u.sigs with nextK := k } }.withReply (answered kindRequest seq .ok (be32 k)))
    ∧ Becomes (exec (.setDeferAge dt seq value) s)
      ({ u with sigs := { u.sigs with deferAge := age } }.withReply
        (answered kindRequest seq .ok (be32 age)))
    ∧ Becomes (exec (.setRawCopy dt seq value) s)
      ({ u with link := { u.link with rawCopy := decide (v ≠ 0) } }.withReply
        (answered kindRequest seq .ok (be32 (min 1 v))))
    ∧ Becomes (exec (.setTbFail dt seq value) s)
      ({ u with tb := { u.tb with tbFail := decide (v = 0) && s.tb.tbFail } }.withReply
        (answered kindRequest seq .ok (be32 (if v = 0 ∧ s.tb.tbFail = true then 1 else 0))))

/-- A SET of EVENT_DELAY writes the setting and answers it. It does not touch the latch; a write that leaves no notifiable
event withdraws a ready notice, and one after which a notifiable event waits with the latch clear makes the notice ready
at the end of the event: with the transmitter busy that is seen at once (R177). -/
def Obligations.SetEventDelaySettlesNotice : Prop :=
  ∀ (dt : Nat) (seq : Byte) (value : Word) (s : State), s.TakesFrames →
    let u := elapse dt s
    let on := decide (value.toNat ≠ 0)
    Becomes (exec (.setEventDelay dt seq value) s)
      ({ u with events := { u.events with
          delay := on
          notice := u.events.notice && u.events.queue.any (fun r => r.urgent || !on) } }.withReply
        (answered kindRequest seq .ok (be32 (min 1 value.toNat))))
    ∧ (u.link.transmitting ≠ none →
        ∃ t, exec (.setEventDelay dt seq value) s = .next t ∧ t.events.latch = u.events.latch
          ∧ ((∀ r ∈ u.events.queue, r.urgent = false) → on = true → t.events.notice = false)
          ∧ (u.events.queue ≠ [] → on = false → u.events.latch = false → t.events.notice = true))

/-- A SET of TB_SOURCE by the cases of R148: nothing to do (1 and 3), a cancel (2) with the arbiter's pass, a switch to
REFERENCE made pending (4), and a switch to INTERNAL: pending while a generator has users (4), and changing the source
in the same event when there are none (R150; no entry waits). That a cancel leaves the lock timer where it stands is the
model's choice (notes/assumptions/17.md); `lockFraction` is the model's own field (notes/assumptions/7.md). -/
def Obligations.SetTbSourceCases : Prop :=
  ∀ (dt : Nat) (seq : Byte) (value : Word) (s : State), s.TakesFrames →
    let u := elapse dt s
    let target : Source := if value.toNat = 0 then .internal else .reference
    let reply := answered kindRequest seq .ok (be32 (min 1 value.toNat))
    ((target = s.tb.source ∧ s.tb.pendingSwitch = none)
        ∨ (target ≠ s.tb.source ∧ s.tb.pendingSwitch = some target) →
      Becomes (exec (.setTbSource dt seq value) s) (u.withReply reply))
    ∧ (∀ p : Source, target = s.tb.source → s.tb.pendingSwitch = some p → s.waiting = [] →
        Becomes (exec (.setTbSource dt seq value) s)
          ({ u with tb := { u.tb with
              pendingSwitch := none
              loop := if p = Source.reference then .off else s.tb.loop } }.withReply reply))
    ∧ (∀ p : Source, target = s.tb.source → s.tb.pendingSwitch = some p →
        Becomes (exec (.setTbSource dt seq value) s)
          (arbiterPass ({ u with tb := { u.tb with
              pendingSwitch := none
              loop := if p = Source.reference then .off else s.tb.loop } }.withReply reply)))
    ∧ (target = .reference → s.tb.source = .internal → s.tb.pendingSwitch = none →
        Becomes (exec (.setTbSource dt seq value) s)
          ({ u with tb := { u.tb with
              pendingSwitch := some .reference, loop := .locking, lockTimer := 0
              lockFraction := 0 } }.withReply reply))
    ∧ (target = .internal → s.tb.source = .reference → s.tb.pendingSwitch = none →
        s.noUsers = false →
        Becomes (exec (.setTbSource dt seq value) s)
          ({ u with tb := { u.tb with pendingSwitch := some .internal } }.withReply reply))
    ∧ (target = .internal → s.tb.source = .reference → s.tb.pendingSwitch = none →
        s.noUsers = true → s.waiting = [] →
        Becomes (exec (.setTbSource dt seq value) s) ((u.switchedTo .internal).withReply reply))

/-- With no entry outstanding, a SET of LANE_ENABLE disables the lanes whose bit clears (reset values, DISABLED, an
UP lane's reduction abandoned), starts training with an empty history on those whose bit sets, and leaves the others;
LANE_RESET gives its lane the reset values, TRAINING or DISABLED by its bit, and is refused for a lane above 3 (R46,
R54, R64, R168, R173). -/
def Obligations.LanePortsAreSwitchedAndReset : Prop :=
  ∀ (dt : Nat) (seq : Byte) (s : State), s.TakesFrames → s.entries = [] →
    let u := elapse dt s
    (∀ value : Word,
      let mask : BitVec 4 := BitVec.ofNat 4 (min 15 value.toNat)
      BecomesSome (exec (.setLaneEnable dt seq value) s) fun t =>
        t.link = { u.link with
          laneEnable := mask
          replies := s.link.replies ++ [answered kindRequest seq .ok (be32 (min 15 value.toNat))] }
        ∧ (∀ n : LaneId,
            let was := s.link.laneEnable.getLsbD n.val
            let is := mask.getLsbD n.val
            t.lane n =
              (if was = true ∧ is = false then { Lane.reset with state := .disabled }
               else if was = false ∧ is = true then
                { u.lane n with state := .training, lastMarker := none, runCandidate := none,
                                runFirst := none, runCount := 0, silence := 0 }
               else u.lane n)
            ∧ t.reductions.get n =
              (if was = true ∧ is = false ∧ (u.lane n).state = .up then none else u.reductions.get n))
        ∧ SameBut [.lanes, .reductions, .link] u t)
    ∧ (∀ lane : Byte, 3 < lane.toNat →
        Becomes (exec (.laneReset dt seq lane) s)
          (u.withReply (answered kindRequest seq .badRequest [])))
    ∧ (∀ (lane : Byte) (n : LaneId), lane.toNat = n.val →
        Becomes (exec (.laneReset dt seq lane) s)
          ({ u with
              lanes := u.lanes.set n
                { Lane.reset with
                  state := if s.link.laneEnable.getLsbD n.val then .training else .disabled }
              reductions := u.reductions.set n none }.withReply (answered kindRequest seq .ok [])))

/-- STATUS answers the snapshot in the 36-byte layout of R179 and changes nothing else (R169). -/
def Obligations.StatusAnswersSnapshot : Prop :=
  ∀ (dt : Nat) (seq : Byte) (s : State), s.TakesFrames →
    let u := elapse dt s
    ∃ data, Becomes (exec (.status dt seq) s) (u.withReply (answered kindRequest seq .ok data))
      ∧ data.length = 36
      ∧ fieldAt data 0 1 = (if s.tb.source = .internal then 0 else 1)
      ∧ fieldAt data 1 1 = (if s.tb.pendingSwitch = none then 0
          else if s.tb.pendingSwitch = some .internal then 1 else 2)
      ∧ fieldAt data 2 1 = (if s.tb.loop = .off then 0 else if s.tb.loop = .locking then 1 else 2)
      ∧ fieldAt data 3 1 = (if s.tb.tbFail then 1 else 0)
      ∧ (∀ n : LaneId,
          fieldAt data (4 + n.val) 1 = (match (s.lane n).state with
            | .disabled => 0
            | .training => 1
            | .up => 2
            | .failed => 3)
          ∧ fieldAt data (8 + n.val) 1 = (match (s.lane n).rate with
            | .r25 => 25
            | .r50 => 50
            | .r100 => 100
            | .r200 => 200))
      ∧ (∀ g : GenId,
          fieldAt data (12 + 3 * g.val) 1 = (match (s.gen g).state with
            | .idle => 0
            | .running => 1
            | .retuning => 2)
          ∧ (∀ i, i < 8 → (s.gen g).state = .retuning → (s.gen g).target = some i →
              fieldAt data (13 + 3 * g.val) 1 = i)
          ∧ (∀ i, i < 8 → (s.gen g).state ≠ .retuning → (s.gen g).frequency = some i →
              fieldAt data (13 + 3 * g.val) 1 = i)
          ∧ ((s.gen g).state ≠ .retuning → (s.gen g).frequency = none →
              fieldAt data (13 + 3 * g.val) 1 = 255)
          ∧ fieldAt data (14 + 3 * g.val) 1 = (s.gen g).users % 256)
      ∧ fieldAt data 18 1 = s.entries.length % 256
      ∧ fieldAt data 19 1 = u.reports.queue.length % 256
      ∧ fieldAt data 20 1 = s.groups.queue.length % 256
      ∧ fieldAt data 21 1 = s.sigs.deferred.length % 256
      ∧ fieldAt data 22 1 = u.events.queue.length % 256
      ∧ fieldAt data 23 1 = (if u.events.overflow then 1 else 0)
      ∧ fieldAt data 24 1 = s.groups.incomplete.toNat
      ∧ fieldAt data 25 4 = s.board.panelSequence.toNat
      ∧ fieldAt data 29 2 = s.board.batch.toNat
      ∧ fieldAt data 31 1 = (if s.board.panelOpen then 1 else 0)
      ∧ fieldAt data 32 1 = s.sigs.inForceK % 256
      ∧ fieldAt data 33 1 = s.sigs.nextK % 256
      ∧ fieldAt data 34 2 = s.link.linkErrors % 65536

/-- FETCH_EVENT answers the overflow flag, the records left, the presence byte and the oldest record (zeros when there is
none), removes the record and clears the flag; the latch is cleared and a ready notice withdrawn when no notifiable
event is left, and they stand otherwise (R177, R178). A posted event joins the tail of the queue with its code, priority,
parameter and the time of its posting; on a queue of 64 records it is dropped and the overflow flag set (R176), with the
codes and priorities of R178. -/
def Obligations.FetchEventTakesOldest : Prop :=
  (∀ (dt : Nat) (seq : Byte) (s : State), s.TakesFrames →
    let u := elapse dt s
    let left := u.events.queue.tail
    let flag := byte (if u.events.overflow then 1 else 0)
    let notifiable := left.any (fun r => r.urgent || !s.events.delay)
    let data := match u.events.queue with
      | [] => [flag, 0, 0, 0, 0, 0, 0, 0, 0, 0, 0]
      | r :: rest => [flag, byte rest.length, 1, byte r.code.number, byte (if r.urgent then 1 else 0)]
          ++ be16 r.parameter.toNat ++ be32 r.timestamp.toNat
    Becomes (exec (.fetchEvent dt seq) s)
      ({ u with events := { u.events with
          queue := left
          overflow := false
          latch := u.events.latch && notifiable
          notice := u.events.notice && notifiable } }.withReply (answered kindRequest seq .ok data)))
  ∧ (∀ (code : EventCode) (parameter : Nat) (s : State),
      let urgent : Bool := match code with
        | .powerUp | .laneFailed | .clockFail | .mergeDropped => true
        | _ => false
      (s.events.queue.length < 64 → postEvent code parameter s =
        { s with events := { s.events with queue := s.events.queue ++
            [{ code := code, urgent := urgent, parameter := BitVec.ofNat 16 parameter,
               timestamp := s.tb.microseconds }] } })
      ∧ (64 ≤ s.events.queue.length → postEvent code parameter s =
        { s with events := { s.events with overflow := true } }))
  ∧ [EventCode.powerUp, .laneFailed, .clockFail, .mergeDropped, .laneUp, .tbSwitched, .referenceFrozen,
      .deferredExpired, .deferFull, .lateBurst, .strayBurst, .rawDropped, .timeWrap].map
        EventCode.number = [1, 2, 3, 4, 5, 6, 7, 8, 9, 10, 11, 12, 13]

/-- A GROUP request out of range is refused; one whose slot is settled, with no other GROUP waiting, is answered at once
from Net State; one whose slot is not settled, or that stands behind a waiting GROUP of a slot not settled, joins the
reply list without an answer (R110, R111, R179). A slot is settled when no request and no walk of it is open; the
answering takes the waiting GROUPs in receipt order up to the first whose slot is not settled (R110). A LINK_RESET
answers every waiting GROUP, from the groups as they stood at the taking of the request being walked and with the slots'
flags as they stand (R112, R174). The members are the nets of the leader's list, from the leader on, up to 64 (R111), each
with its state coded 0 UNTESTED, 1 PASS, 2 FAIL, 3 SHORT (R179). -/
def Obligations.GroupAnsweredWhenSettled : Prop :=
  (∀ (dt : Nat) (seq slot : Byte) (net : Half) (s : State), s.TakesFrames →
    let u := elapse dt s
    let leader := (s.netState slot.toNat net.toNat).leader
    let count := (s.netState slot.toNat leader).count
    let members := s.groupList slot.toNat 64 (some leader)
    let o := exec (.group dt seq slot net) s
    let joined : State := u.withReply
      { kind := kindRequest, seq := seq, answer := .waitingGroup slot.toNat net.toNat, linkReset := false }
    ((7 < slot.toNat ∨ 4095 < net.toNat) →
      Becomes o (u.withReply (answered kindRequest seq .badRequest [])))
    ∧ (slot.toNat ≤ 7 → net.toNat ≤ 4095 → s.NoWaitingGroup → s.settled slot.toNat = true →
        Becomes o
          (u.withReply (answered kindRequest seq .ok
            ([slot] ++ be16 net.toNat ++ be32 s.board.panelSequence.toNat
              ++ [byte (s.netState slot.toNat net.toNat).state.number] ++ be16 leader ++ be16 count
              ++ [byte ((if s.groups.incomplete.getLsbD slot.toNat then 1 else 0)
                    + (if 64 < count then 2 else 0)), byte members.length]
              ++ members.flatMap (fun m =>
                  be16 m ++ [byte (s.netState slot.toNat m).state.number])))))
    ∧ (slot.toNat ≤ 7 → net.toNat ≤ 4095 → s.NoWaitingGroup → s.settled slot.toNat = false →
        Becomes o joined)
    ∧ (∀ before r after k m, slot.toNat ≤ 7 → net.toNat ≤ 4095 →
        s.link.replies = before ++ r :: after →
        (∀ x ∈ before, ∃ code data, x.answer = .given code data) → r.answer = .waitingGroup k m →
        s.settled k = false → Becomes o joined)
    ∧ Becomes (exec (.linkReset dt seq) s)
        { u with link := { u.link with
            receiving := false
            replies := s.link.replies.map (s.groupAnswered s.leaderSeen s.incompleteFlag) ++
              [{ kind := kindRequest, seq := seq, answer := .given .ok [], linkReset := true }] } })
  ∧ (∀ (k : Nat) (s : State), s.settled k = true ↔
      (∀ r ∈ s.groups.queue, r.slot ≠ k) ∧ ∀ w, s.groups.walk = some w → w.request.slot ≠ k)
  ∧ (∀ (k n m : Nat) (s : State), s.groupList k 0 (some m) = [] ∧ s.groupList k n none = []
      ∧ s.groupList k (n + 1) (some m) = m :: s.groupList k n (s.netState k m).next)
  ∧ [NetRank.untested, .pass, .fail, .short].map NetRank.number = [0, 1, 2, 3]
  ∧ ∀ (s : State) (before rest : List ReplyEntry), s.link.replies = before ++ rest →
      (∀ r ∈ before, ∀ k m, r.answer = .waitingGroup k m → s.settled k = true) →
      (rest = [] ∨ ∃ r after k m, rest = r :: after ∧ r.answer = .waitingGroup k m ∧ s.settled k = false) →
      answerGroups s = { s with link := { s.link with
        replies := before.map
          (s.groupAnswered (fun k m => (s.netState k m).leader) s.incompleteFlag) ++ rest } }

/-- PANEL_START is refused BUSY while an entry is outstanding, a merge request queued or a walk in progress; else it opens
the panel with the slot states of its masks, increases the panel sequence, returns Net State and the groups to their
initial values, clears the GROUPS_INCOMPLETE flags and empties the deferred tags (R17, R97, R114, R133, R170). -/
def Obligations.PanelStartOpensPanel : Prop :=
  ∀ (dt : Nat) (seq populated xout : Byte) (s : State), s.TakesFrames →
    let u := elapse dt s
    let c := Instr.panelStart dt seq populated xout
    (s.entries ≠ [] ∨ s.groups.queue ≠ [] ∨ s.groups.walk ≠ none →
      Becomes (exec c s) (u.withReply (answered kindRequest seq .busy [])))
    ∧ (s.entries = [] → s.groups.queue = [] → s.groups.walk = none →
        BecomesSome (exec c s) fun t =>
          t.link = { u.link with
            replies := s.link.replies ++
              [answered kindRequest seq .ok (be32 (s.board.panelSequence + 1).toNat)] }
          ∧ t.board.panelOpen = true ∧ t.board.panelSequence = s.board.panelSequence + 1
          ∧ t.board.batch = s.board.batch
          ∧ (∀ slot, slot < 8 → t.slotAt slot =
              (if xout.getLsbD slot then .xout else if populated.getLsbD slot then .active else .empty))
          ∧ (∀ slot net, net < 4096 → t.netState slot net
              = { state := .untested, leader := net, next := none, tail := net, count := 1 })
          ∧ t.groups = { s.groups with incomplete := 0 }
          ∧ t.sigs = { s.sigs with deferredTags := [] }
          ∧ SameBut [.board, .netStates, .groups, .sigs, .link] u t)

/-- XOUT of a slot sets it to XOUT and marks its FORWARDED entries, changing no other entry while none is QUEUED and none of
the slot in WAIT_EXC; a slot above 7 is refused (R18, R39, R40, R171). An attempt of a marked entry that then ends, by a
FAULT, its expiry or a good BURST of any content, gives SKIP, and so does a trigger with budget left on an XOUT slot in
place of its retry: with a place free the report is placed in the same event and the entry leaves, its generator
released (R35, R36, R39, R40, R44, R84). That a deadline counts as reached for half the span of the counter is the
model's choice (notes/assumptions/6.md). -/
def Obligations.XoutMarksForwardedEntries : Prop :=
  (∀ (dt : Nat) (seq slot : Byte) (s : State), s.TakesFrames →
    let u := elapse dt s
    (7 < slot.toNat →
      Becomes (exec (.xout dt seq slot) s) (u.withReply (answered kindRequest seq .badRequest [])))
    ∧ (slot.toNat ≤ 7 → (∀ e ∈ s.entries, e.state ≠ .queued) →
        (∀ e ∈ s.entries, e.slot = slot.toNat → e.state ≠ .waitExc) →
        BecomesSome (exec (.xout dt seq slot) s) fun t =>
          t.link = { u.link with replies := s.link.replies ++ [answered kindRequest seq .ok []] }
          ∧ (∀ k, s.board.slots.wf slotInitial = true →
              t.slotAt k = if k = slot.toNat then .xout else s.slotAt k)
          ∧ t.board = { s.board with slots := t.board.slots }
          ∧ t.entries = s.entries.map (fun e =>
              if e.slot = slot.toNat ∧ e.state = .forwarded then { e with xoutMark := true } else e)
          ∧ SameBut [.board, .entries, .link] u t))
  ∧ ∀ (dt : Nat) (n : LaneId) (e : Entry) (number : Byte) (s : State),
    s.resetLow = false → s.outstandingOk = true → e ∈ s.entries → e.lane = n → e.state = .forwarded →
    e.outcome = none → (s.lane n).state = .up →
    (s.lane n).openAttempt = some { tag := e.tag, attempt := number.toNat } →
    (∀ x ∈ s.entries, x.state ≠ .queued) → (e.gen = none ∨ (s.tb.pendingSwitch = none ∧ s.waiting = [])) →
    s.reports.queue.length < 32 →
    let u := elapse dt s
    let a : State :=
      ({ u with lanes := u.lanes.set n { u.lane n with
          lastClosed := some { tag := e.tag, attempt := number.toNat }
          openAttempt := none
          selection := none } }.withReport
        (dispatchReport e (s.stepOf e).exponent u.tb.microseconds .verdict (some .skip) none none false
          false .absent) false).retiring e
    let fault := exec (.fault dt n { crcGood := true, payloadLength := 4, tag := e.tag, attempt := number }) s
    let expiry := exec (.attemptExpiry dt n) s
    let expires := ∃ d, e.deadline = some d ∧ (u.tb.microseconds - d).toNat < 2147483648
    (e.xoutMark = true →
      Becomes fault a
      ∧ (expires → Becomes expiry a)
      ∧ (∀ f : BurstFrame, burstGood f = true → f.tag = e.tag → f.attempt = number →
          Becomes (exec (.burst dt n f) s) a))
    ∧ (e.xoutMark = false → e.attempt < (s.stepOf e).retryLimit + 1 → s.slotAt e.slot = .xout →
        Becomes fault a
        ∧ (expires → Becomes expiry a)
        ∧ (∀ f : BurstFrame, burstGood f = true → f.tag = e.tag → f.attempt = number →
            (f.contact.getLsbD 0 = true ∨ f.contact.getLsbD 1 = true
              ∨ f.pairCount.toNat ≠ (s.stepOf e).samples ∨ e.tbFault = true) →
            Becomes (exec (.burst dt n f) s) a))

/-- An event that fixes outcomes leaves none of its entries unfixed, and each entry whose outcome it fixes waits in the
table with that outcome or has its report placed in the same event. After an XOUT every entry of the slot that was QUEUED
or in WAIT_EXC is fixed as SKIP (R36, R38); after the silence of an UP lane, the clearing of an UP lane's bit of
LANE_ENABLE or a LANE_RESET every entry of the lane is fixed as VOID, with the cause LANE_LOST for the first two and
LANE_RESET for the third, the lane has no open attempt and selects no generator, and its reduction is abandoned (R36,
R41, R42, R44, R46, R52, R54, R64). -/
def Obligations.OutcomesAreFixed : Prop :=
  let Fixed (e : Entry) (o : FixedOutcome) (verdict : Verdict) (cause : Option VoidCause) (s t : State) : Prop :=
    (∃ x ∈ t.entries, x.tag = e.tag ∧ x.outcome = some o)
      ∨ (∃ r ∈ t.reports.queue, s.reports.nextId ≤ r.id ∧ r.report.tag = e.tag
          ∧ r.report.kind = .verdict ∧ r.report.verdict = some verdict ∧ r.report.cause = cause)
  (∀ (dt : Nat) (seq slot : Byte) (s t : State), s.TakesFrames → slot.toNat ≤ 7 →
    s.excitationOk = true → exec (.xout dt seq slot) s = .next t →
    ∀ e ∈ s.entries, e.slot = slot.toNat → (e.state = .queued ∨ e.state = .waitExc) →
      Fixed e .skip .skip none s t ∧ ∀ x ∈ t.entries, x.tag = e.tag → x.outcome = some .skip)
  ∧ (∀ (c : Instr) (n : LaneId) (o : FixedOutcome) (cause : VoidCause) (s t : State), s.excitationOk = true →
      ((∃ dt, c = .silenceTimeout dt n ∧ s.resetLow = false ∧ ((elapse dt s).lane n).state = .up
          ∧ ((elapse dt s).lane n).rate.threshold ≤ ((elapse dt s).lane n).silence
          ∧ o = .laneLost ∧ cause = .laneLost)
        ∨ (∃ dt seq value, c = .setLaneEnable dt seq value ∧ s.TakesFrames ∧ (s.lane n).state = .up
          ∧ s.link.laneEnable.getLsbD n.val = true
          ∧ (BitVec.ofNat 4 (min 15 value.toNat)).getLsbD n.val = false
          ∧ o = .laneLost ∧ cause = .laneLost)
        ∨ (∃ dt seq lane, c = .laneReset dt seq lane ∧ s.TakesFrames ∧ lane.toNat = n.val
          ∧ o = .laneReset ∧ cause = .laneReset)) →
      exec c s = .next t →
        (∀ e ∈ s.entries, e.lane = n → e.outcome = none → Fixed e o .void (some cause) s t)
        ∧ (∀ e ∈ t.entries, e.lane = n → e.outcome ≠ none)
        ∧ (t.lane n).openAttempt = none ∧ (t.lane n).selection = none
        ∧ t.reductions.get n = none)

/-- BATCH_CLEAR is refused BUSY while an entry is outstanding; else it first answers every waiting GROUP, from the groups as
they stood at the taking of the request being walked, with INCOMPLETE for a slot with a walk or a request (R112), then
increases the batch number, closes the panel, returns Net State to its initial values, empties the Merge Queue and the
walk with exactly the reports they held released as UNRESOLVED and their slots marked incomplete, and leaves of the
signature state the presets alone, under the next-batch K (R10, R19, R97, R115, R134, R172). -/
def Obligations.BatchClearEmptiesBatch : Prop :=
  ∀ (dt : Nat) (seq : Byte) (s : State), s.TakesFrames → s.canonical = true →
    let u := elapse dt s
    let removed := (s.groups.walk.map Walk.request).toList ++ s.groups.queue
    let marked (slot : Nat) : Bool := s.incompleteFlag slot || removed.any (fun r => decide (r.slot = slot))
    (s.entries ≠ [] →
      Becomes (exec (.batchClear dt seq) s) (u.withReply (answered kindRequest seq .busy [])))
    ∧ (s.entries = [] →
        BecomesSome (exec (.batchClear dt seq) s) fun t =>
          t.link = { u.link with
            replies := s.link.replies.map (s.groupAnswered s.leaderSeen marked) ++
              [answered kindRequest seq .ok (be16 (s.board.batch + 1).toNat)] }
          ∧ t.board = { s.board with batch := s.board.batch + 1, panelOpen := false }
          ∧ (∀ slot net, net < 4096 → t.netState slot net
              = { state := .untested, leader := net, next := none, tail := net, count := 1 })
          ∧ t.groups.queue = [] ∧ t.groups.walk = none
          ∧ (∀ slot, slot < 8 → t.incompleteFlag slot = marked slot)
          ∧ t.reports = u.reports.released (fun id => removed.any (fun r => decide (r.report = id)))
              .unresolved
          ∧ (∀ net, net < 4095 → t.signature net
              = { list := [], source := none, reference := (s.netAt net).preset })
          ∧ t.sigs.inForceK = s.sigs.nextK ∧ t.sigs.nextK = s.sigs.nextK
          ∧ t.sigs.deferAge = s.sigs.deferAge ∧ t.sigs.deferred = [] ∧ t.sigs.deferredTags = []
          ∧ t.sigs.scan = { scanning := false, position := none, rescan := false, paused := false }
          ∧ SameBut [.board, .netStates, .groups, .sigs, .reports, .link] u t)

/-! ### Dispatches -/

/-- A DISPATCH of the wrong length is refused BAD_DISPATCH; one of the right length is refused by the first check of R22
that fails, with nothing else changed (R21, R22). -/
def Obligations.DispatchRefusedByFirstFailedCheck : Prop :=
  ∀ (dt : Nat) (seq : Byte) (payload : List Byte) (s : State), s.TakesFrames →
    let u := elapse dt s
    let tag : Half := BitVec.ofNat 16 (fieldAt payload 0 2)
    let stepIndex := fieldAt payload 2 2
    let slot := fieldAt payload 4 1
    let lane := fieldAt payload 5 1
    let check : Option ReplyCode :=
      if payload.length ≠ 7 then some .badDispatch
      else if s.board.panelOpen = false then some .noPanel
      else if ¬(stepIndex ≤ 16383 ∧ s.stepAt stepIndex ≠ none) then some .badStep
      else if ¬(slot ≤ 7 ∧ (s.slotAt slot = .active ∨ s.slotAt slot = .xout)) then some .badSlot
      else if ¬(lane ≤ 3 ∧ s.link.laneEnable.getLsbD lane = true
          ∧ ∀ n : LaneId, n.val = lane → (s.lane n).state = .up) then some .laneDown
      else if s.entries.any (fun e => decide (e.tag = tag)) then some .dupTag
      else if ¬(s.entries.length < 16) then some .tableFull
      else if ¬((s.entries.filter (fun e => decide (e.lane.val = lane))).length < 4) then some .laneFull
      else none
    ∀ code, check = some code →
      Becomes (exec (.dispatch dt seq payload) s)
        (u.withReply (answered kindDispatch seq code []))

/-- A DISPATCH of a RES, VF or ZERO step that passes every check of R22, for an ACTIVE slot, no excluded net and a lane with
no entry, is entered and forwarded in the same event: FORWARDED as attempt 1 on the step's range with its deadline, its
ORDER handed to the lane with no generator (R21 to R23, R26, R27, R55, R179). -/
def Obligations.DispatchForwardedOnIdleLane : Prop :=
  ∀ (dt : Nat) (seq : Byte) (tag : Half) (i slot : Nat) (n : LaneId) (raw : Bool) (st : StepRecord)
    (s : State),
    s.TakesFrames → s.board.panelOpen = true → i ≤ 16383 → s.stepAt i = some st → slot ≤ 7 →
    s.slotAt slot = .active → s.excluded st.netA = false → s.excluded st.netB = false →
    s.link.laneEnable.getLsbD n.val = true → (s.lane n).state = .up →
    (∀ e ∈ s.entries, e.tag ≠ tag) → s.entries.length < 16 →
    (∀ e ∈ s.entries, e.lane ≠ n) → st.method ≠ .cap →
    let u := elapse dt s
    let payload := be16 tag.toNat ++ be16 i ++ [byte slot, byte n.val, byte (if raw then 1 else 0)]
    let entry : Entry :=
      { tag := tag, panel := s.board.panelSequence, slot := slot, step := i, lane := n,
        state := .forwarded, attempt := 1, range := st.range, gen := none, tbFault := false,
        xoutMark := false, retried := false, rangeStepped := false, tbInternal := false, raw := raw,
        deadline := some (u.tb.microseconds + BitVec.ofNat 32 (100 * st.budget)), outcome := none,
        trigger := none, result := none }
    Becomes (exec (.dispatch dt seq payload) s)
      ({ u with
          entries := s.entries ++ [entry]
          lanes := u.lanes.set n { u.lane n with
            order := some { tag := tag, attempt := 1, range := st.range, samples := st.samples,
                            stimulus := st.stimulus, gen := none }
            openAttempt := some { tag := tag, attempt := 1 }
            selection := none } }.withReply (answered kindDispatch seq .accepted []))

/-- A DISPATCH of a CAP step that passes every check of R22, for an ACTIVE slot, no excluded net and a lane with no entry, is
entered in WAIT_EXC, and the arbiter makes its pass. While a timebase switch is pending it stays there; with no other
entry waiting and XG0 at its frequency it attaches to XG0, which gains a user, and is forwarded with XG0 in the same
event; with both generators idle at other frequencies and XG0's output at rest, it waits and XG0 starts settling at its
frequency (R23, R26, R27, R138 to R141, R143). The pass serves the waiting entries in acceptance order, and each by the
first case that applies: it attaches to a generator at its frequency, XG0 before XG1; waits for one retuning to it; puts
an IDLE one to a retune, of two the one whose frequency no later entry of the pass needs, else XG0; or waits (R139 to
R141). A retune reads its record at once; an output at rest takes it at once, a running one at the end of its cycle
(R143). The fields that hold the record and the phase are the model's own (notes/assumptions/7.md), and that a retune
which starts at the very end of a cycle waits for the end of the next is its reading (notes/assumptions/8.md). -/
def Obligations.CapDispatchWaitsOrAttaches : Prop :=
  (∀ (dt : Nat) (seq : Byte) (tag : Half) (i slot f : Nat) (n : LaneId) (raw : Bool) (st : StepRecord)
    (s : State),
    s.TakesFrames → s.board.panelOpen = true → i ≤ 16383 → s.stepAt i = some st → slot ≤ 7 →
    s.slotAt slot = .active → s.excluded st.netA = false → s.excluded st.netB = false →
    s.link.laneEnable.getLsbD n.val = true → (s.lane n).state = .up →
    (∀ e ∈ s.entries, e.tag ≠ tag) → s.entries.length < 16 →
    (∀ e ∈ s.entries, e.lane ≠ n) → st.method = .cap → st.freq = some f →
    let u := elapse dt s
    let payload := be16 tag.toNat ++ be16 i ++ [byte slot, byte n.val, byte (if raw then 1 else 0)]
    let waiting : Entry :=
      { tag := tag, panel := s.board.panelSequence, slot := slot, step := i, lane := n,
        state := .waitExc, attempt := 1, range := st.range, gen := none, tbFault := false,
        xoutMark := false, retried := false, rangeStepped := false, tbInternal := false, raw := raw,
        deadline := none, outcome := none, trigger := none, result := none }
    let record := s.freqAt f
    let o := exec (.dispatch dt seq payload) s
    let reply := answered kindDispatch seq .accepted []
    Becomes o (arbiterPass ({ u with entries := s.entries ++ [waiting] }.withReply reply))
    ∧ (s.tb.pendingSwitch ≠ none →
      Becomes o ({ u with entries := s.entries ++ [waiting] }.withReply reply))
    ∧ (s.waiting = [] → s.tb.pendingSwitch = none → (s.gen 0).state ≠ .retuning → (s.gen 0).frequency = some f →
        Becomes o
          ({ u with
              entries := s.entries ++ [{ waiting with
                state := .forwarded
                gen := some 0
                tbInternal := decide (s.tb.source = Source.internal)
                deadline := some (u.tb.microseconds + BitVec.ofNat 32 (100 * st.budget)) }]
              lanes := u.lanes.set n { u.lane n with
                order := some { tag := tag, attempt := 1, range := st.range, samples := st.samples,
                                stimulus := st.stimulus, gen := some 0 }
                openAttempt := some { tag := tag, attempt := 1 }
                selection := some 0 }
              gens := u.gens.set 0 { s.gen 0 with
                state := .running
                users := (s.gen 0).users + 1 } }.withReply reply))
    ∧ (s.waiting = [] → s.tb.pendingSwitch = none → (∀ g, (s.gen g).state = .idle ∧ (s.gen g).frequency ≠ some f) →
        (s.gen 0).output = none →
        Becomes o
          ({ u with
              entries := s.entries ++ [waiting]
              gens := u.gens.set 0 { s.gen 0 with
                state := .retuning, target := some f, frequency := some f
                output := some record.divider, origin := some u.tb.ticks
                settleRemaining := record.settle, latchDivider := record.divider
                latchSettle := record.settle, settling := true, oldCycleEnd := none
                restart := false } }.withReply reply)))
  ∧ (∀ (p : Source) (s : State), s.tb.pendingSwitch = some p → arbiterPass s = s)
  ∧ (∀ s : State, s.tb.pendingSwitch = none →
      arbiterPass s = serveAll (s.entries.filter (fun e => decide (e.state = .waitExc))) s)
  ∧ (∀ s : State, serveAll [] s = s)
  ∧ (∀ (e : Entry) (later : List Entry) (s : State),
      serveAll (e :: later) s = serveAll later (serveEntry e later s))
  ∧ (∀ (e : Entry) (later : List Entry) (i : Nat) (s : State), s.outstandingOk = true → e ∈ s.entries →
      (s.stepOf e).method = .cap → (s.stepOf e).freq = some i →
      let At (g : GenId) : Prop :=
        ((s.gen g).state = .idle ∨ (s.gen g).state = .running) ∧ (s.gen g).frequency = some i
      let Toward (g : GenId) : Prop := (s.gen g).state = .retuning ∧ (s.gen g).target = some i
      let Needed (g : GenId) : Prop :=
        ∃ j, (s.gen g).frequency = some j ∧ ∃ x ∈ later, (s.stepOf x).freq = some j
      let r := serveEntry e later s
      let attached (g : GenId) : State :=
        { s with
          entries := s.entries.map (fun x => if x.tag = e.tag then { e with
            state := .forwarded
            gen := some g
            tbFault := false
            xoutMark := false
            tbInternal := decide (s.tb.source = .internal)
            deadline := some (s.tb.microseconds + BitVec.ofNat 32 (100 * (s.stepOf e).budget))
            trigger := none
            result := none } else x)
          lanes := s.lanes.set e.lane ((s.lane e.lane).ordered e.tag e.attempt e.range (s.stepOf e) (some g))
          gens := s.gens.set g { s.gen g with state := .running, users := (s.gen g).users + 1 } }
      (At 0 → r = attached 0)
      ∧ (¬At 0 → At 1 → r = attached 1)
      ∧ (¬At 0 → ¬At 1 → (Toward 0 ∨ Toward 1) → r = s)
      ∧ (¬At 0 → ¬At 1 → ¬Toward 0 → ¬Toward 1 →
          ((s.gen 0).state = .idle → (s.gen 1).state = .idle →
            (Needed 0 → ¬Needed 1 → r = startRetune 1 i s)
            ∧ (¬(Needed 0 ∧ ¬Needed 1) → r = startRetune 0 i s))
          ∧ ((s.gen 0).state = .idle → (s.gen 1).state ≠ .idle → r = startRetune 0 i s)
          ∧ ((s.gen 0).state ≠ .idle → (s.gen 1).state = .idle → r = startRetune 1 i s)
          ∧ ((s.gen 0).state ≠ .idle → (s.gen 1).state ≠ .idle → r = s)))
  ∧ ∀ (g : GenId) (i : Nat) (s : State),
      let x := s.gen g
      let record := s.freqAt i
      let tuned : Generator :=
        { x with
          state := .retuning, target := some i, frequency := some i, latchDivider := record.divider
          latchSettle := record.settle, restart := false }
      (x.output = none → startRetune g i s = { s with gens := s.gens.set g { tuned with
        output := some record.divider, origin := some s.tb.ticks, settleRemaining := record.settle
        settling := true, oldCycleEnd := none } })
      ∧ (∀ d o, x.output = some d → x.origin = some o → 0 < d → o ≤ s.tb.ticks →
          ∃ cycles, s.tb.ticks < o + cycles * (2 * d) ∧ o + cycles * (2 * d) ≤ s.tb.ticks + 2 * d
            ∧ startRetune g i s = { s with gens := s.gens.set g { tuned with
              settleRemaining := 0, settling := false, oldCycleEnd := some (o + cycles * (2 * d)) } })

/-- A DISPATCH that passes every check of R22 behind a head past QUEUED is entered QUEUED at the tail of the table; one for
an XOUT slot, or for an ACTIVE slot of a step with an excluded net, is fixed as SKIP, and its report placed at once or, on
a full Report Queue, awaited in the table (R23, R26, R36, R44). -/
def Obligations.DispatchQueuedOrSkipped : Prop :=
  ∀ (dt : Nat) (seq : Byte) (tag : Half) (i slot : Nat) (n : LaneId) (raw : Bool) (st : StepRecord)
    (s : State),
    s.TakesFrames → s.board.panelOpen = true → i ≤ 16383 → s.stepAt i = some st → slot ≤ 7 →
    s.link.laneEnable.getLsbD n.val = true → (s.lane n).state = .up →
    (∀ e ∈ s.entries, e.tag ≠ tag) → s.entries.length < 16 →
    (s.entries.filter (fun e => decide (e.lane = n))).length < 4 →
    let u := elapse dt s
    let payload := be16 tag.toNat ++ be16 i ++ [byte slot, byte n.val, byte (if raw then 1 else 0)]
    let entry : Entry :=
      { tag := tag, panel := s.board.panelSequence, slot := slot, step := i, lane := n,
        state := .queued, attempt := 1, range := st.range, gen := none, tbFault := false,
        xoutMark := false, retried := false, rangeStepped := false, tbInternal := false, raw := raw,
        deadline := none, outcome := none, trigger := none, result := none }
    let reply := answered kindDispatch seq .accepted []
    let o := exec (.dispatch dt seq payload) s
    let skips := s.slotAt slot = .xout
      ∨ s.slotAt slot = .active ∧ (s.excluded st.netA = true ∨ s.excluded st.netB = true)
    (s.slotAt slot = .active → s.excluded st.netA = false → s.excluded st.netB = false →
      (∃ h rest, s.orderList n = h :: rest ∧ h.state ≠ .queued) →
      Becomes o ({ u with entries := s.entries ++ [entry] }.withReply reply))
    ∧ (skips → s.reports.queue.length < 32 →
        Becomes o
          ((u.withReport (dispatchReport entry st.exponent u.tb.microseconds .verdict (some .skip) none none
            false false .absent) false).withReply reply))
    ∧ (skips → 32 ≤ s.reports.queue.length →
        Becomes o
          ({ u with entries := s.entries ++
              [{ entry with state := .judging, outcome := some .skip }] }.withReply reply))

/-! ### Tables -/

/-- A TABLE frame is refused BAD_SEGMENT, BAD_RECORD with the lowest bad index, or IN_USE with the lowest index in use, in
that order, and then writes nothing (R1, R2, R3). A payload is a segment when its table id, count, indices and length are
those of R1, and its records are then numbered from the first index (R1, R165). A record is bad by the field ranges and
the combinations of R5 and R6, the preset of R8, the ranges of R11 and R13, in the codings of R179; a step needs its
range LOADED, and a next range must be LOADED, by this segment or before, and another. A record is in use by the step,
net or current range of an Outstanding entry, or as the frequency of a generator with users or the target of a
retune (R3). -/
def Obligations.TableSegmentRefusals : Prop :=
  (∀ (dt : Nat) (seq : Byte) (payload : List Byte) (s : State), s.TakesFrames →
    let u := elapse dt s
    let c := Instr.table dt seq payload
    (parseSegment payload = none →
      Becomes (exec c s) (u.withReply (answered kindTable seq .badSegment [])))
    ∧ (∀ seg before i b after, parseSegment payload = some seg →
        seg.records = before ++ (i, b) :: after →
        ((∀ r ∈ before, badRecord s seg r.1 r.2 = false) → badRecord s seg i b = true →
          Becomes (exec c s) (u.withReply (answered kindTable seq .badRecord (be16 i))))
        ∧ ((∀ r ∈ seg.records, badRecord s seg r.1 r.2 = false) →
            (∀ r ∈ before, s.inUse seg.table r.1 = false) → s.inUse seg.table i = true →
            Becomes (exec c s) (u.withReply (answered kindTable seq .inUse (be16 i))))))
  ∧ (∀ payload : List Byte,
      let id := fieldAt payload 0 1
      let first := fieldAt payload 1 2
      let count := fieldAt payload 3 1
      let last := if id = 1 then 16383 else if id = 2 then 4095 else if id = 3 then 31 else 7
      let size := if id = 1 then 24 else if id = 3 then 16 else 8
      (parseSegment payload = none ↔ payload.length < 4 ∨ id = 0 ∨ 4 < id ∨ count = 0 ∨ 64 < count
        ∨ last < first + count - 1 ∨ payload.length ≠ 4 + count * size)
      ∧ ∀ seg, parseSegment payload = some seg →
          seg.table = (if id = 1 then .step else if id = 2 then .net else if id = 3 then .range else .freq)
          ∧ seg.first = first ∧ seg.count = count ∧ seg.records.length = count
          ∧ ∀ k, k < count →
              seg.records[k]? = some (first + k, ((payload.drop 4).drop (size * k)).take size))
  ∧ (∀ b : List Byte,
      let present (k : Nat) := fieldAt b 0 1 / 2 ^ k % 2 = 1
      let method := fieldAt b 1 1 % 16
      (decodeStep b = some none ↔ ¬present 0)
      ∧ (decodeStep b = none ↔ present 0 ∧
          (method = 0 ∨ 4 < method ∨ 4 < fieldAt b 1 1 / 16 ∨ 4095 < fieldAt b 2 2 ∨ 4095 < fieldAt b 4 2
            ∨ 31 < fieldAt b 6 1 ∨ (7 < fieldAt b 7 1 ∧ fieldAt b 7 1 ≠ 255)
            ∨ fieldAt b 8 2 < 16 ∨ 4096 < fieldAt b 8 2 ∨ 6 < fieldAt b 11 1 % 16
            ∨ 7 < fieldAt b 11 1 / 16 ∨ 1000 < fieldAt b 12 2 ∨ fieldAt b 14 2 = 0
            ∨ (present 1 ∧ 4294967294 < fieldAt b 16 4) ∨ (present 2 ∧ 4294967294 < fieldAt b 20 4))))
  ∧ (∀ (seg : Segment) (i : Nat) (b : List Byte) (s : State),
      (seg.table = .step →
        let Listed (r : StepRecord) : Prop :=
          let nets := r.netA.isSome = true ∧ r.netB.isSome = true
          let limits := ∃ l h, r.low = some l ∧ r.high = some h ∧ l ≤ h
          (r.method = .res ∧ r.cls = some .iso ∧ nets ∧ r.netA ≠ r.netB ∧ r.freq = none
            ∧ r.low.isSome = true ∧ r.high = none ∧ r.tolerance = none)
          ∨ (r.method = .res ∧ r.cls = some .cont ∧ nets ∧ r.freq = none ∧ r.low = none
            ∧ r.high.isSome = true ∧ r.tolerance = none)
          ∨ (r.method = .res ∧ r.cls = some .comp ∧ nets ∧ r.freq = none ∧ limits ∧ r.tolerance = none)
          ∨ (r.method = .cap ∧ r.cls = some .comp ∧ nets ∧ r.freq.isSome = true ∧ limits
            ∧ r.tolerance = none)
          ∨ (r.method = .cap ∧ r.cls = some .sig ∧ r.netA.isSome = true ∧ r.netB = none
            ∧ r.freq.isSome = true ∧ r.low = none ∧ r.high = none ∧ r.tolerance.isSome = true
            ∧ r.exponent = 0)
          ∨ (r.method = .vf ∧ r.cls = some .comp ∧ nets ∧ r.freq = none ∧ limits ∧ r.tolerance = none)
          ∨ (r.method = .zero ∧ r.cls = none ∧ r.netA = none ∧ r.netB = none ∧ r.freq = none
            ∧ r.low = none ∧ r.high = none ∧ r.tolerance = none ∧ r.exponent = 0)
        (badRecord s seg i b = true ↔ decodeStep b = none
          ∨ ∃ r, decodeStep b = some (some r) ∧ (¬Listed r ∨ s.rangeAt r.range = none)))
      ∧ (seg.table = .net → (badRecord s seg i b = true ↔
          i ≠ 4095 ∧ fieldAt b 0 1 / 2 % 2 = 1 ∧ fieldAt b 4 4 = 4294967295))
      ∧ (seg.table = .range →
        let next := fieldAt b 11 1
        (badRecord s seg i b = false ↔
          1 ≤ fieldAt b 0 4 ∧ fieldAt b 0 4 ≤ 1000000 ∧ 1 ≤ fieldAt b 4 4
          ∧ fieldAt b 4 4 ≤ 1000000000 ∧ fieldAt b 8 2 ≤ 32767
          ∧ (next = 255 ∨ (next ≤ 31 ∧ next ≠ i
            ∧ (s.rangeAt next ≠ none ∨ (seg.first ≤ next ∧ next < seg.first + seg.count))))))
      ∧ (seg.table = .freq → (badRecord s seg i b = false ↔
          50 ≤ fieldAt b 0 2 ∧ fieldAt b 0 2 ≤ 50000 ∧ 1 ≤ fieldAt b 2 4 ∧ 1 ≤ fieldAt b 6 1)))
  ∧ ∀ (i : Nat) (s : State),
      (s.inUse .step i = true ↔ ∃ e ∈ s.entries, e.step = i)
      ∧ (s.inUse .net i = true ↔
          ∃ e ∈ s.entries, (s.stepOf e).netA = some i ∨ (s.stepOf e).netB = some i)
      ∧ (s.inUse .range i = true ↔ ∃ e ∈ s.entries, e.range = i)
      ∧ (s.inUse .freq i = true ↔ ∃ g, (0 < (s.gen g).users ∧ (s.gen g).frequency = some i)
          ∨ ((s.gen g).state = .retuning ∧ (s.gen g).target = some i))

/-- An accepted segment writes every one of its records and no other. Frequency records make each generator that is IDLE at a
written index STALE and AT_REST; net records, but for 4,095, empty the net's learning list and set or remove its
reference, and a preset for a net with an entry in the Deferred List requests a scan: it starts at the oldest entry, or
sets the rescan mark of one that runs (R2, R7 to R9, R11, R13, R14, R126, R137). -/
def Obligations.AcceptedSegmentIsWritten : Prop :=
  ∀ (dt : Nat) (seq : Byte) (payload : List Byte) (seg : Segment) (s : State), s.TakesFrames →
    s.canonical = true → parseSegment payload = some seg →
    (∀ r ∈ seg.records, badRecord s seg r.1 r.2 = false ∧ s.inUse seg.table r.1 = false) →
    let u := elapse dt s
    let record (size k : Nat) := ((payload.drop 4).drop (size * (k - seg.first))).take size
    let written (k : Nat) := decide (seg.first ≤ k) && decide (k < seg.first + seg.count)
    BecomesSome (exec (.table dt seq payload) s) fun t =>
      t.link = { u.link with replies := s.link.replies ++ [answered kindTable seq .accepted []] }
      ∧ (seg.table = .step →
          (∀ k, t.stepAt k = if written k then (decodeStep (record 24 k)).getD none else s.stepAt k)
          ∧ t.tables = { s.tables with steps := t.tables.steps }
          ∧ SameBut [.tables, .link] u t)
      ∧ (seg.table = .freq →
          (∀ k, written k = true → some (t.freqAt k) = decodeFreq (record 8 k))
          ∧ (∀ k, written k = false → t.freqAt k = s.freqAt k)
          ∧ t.tables = { s.tables with freqs := t.tables.freqs }
          ∧ (∀ g, t.gen g =
              if (s.gen g).state = .idle ∧ (s.gen g).frequency.any written = true then
                { u.gen g with frequency := none, output := none, origin := none }
              else u.gen g)
          ∧ SameBut [.tables, .gens, .link] u t)
      ∧ (seg.table = .range →
          (∀ k, t.rangeAt k = if written k then decodeRange (record 16 k) else s.rangeAt k)
          ∧ t.tables = { s.tables with ranges := t.tables.ranges }
          ∧ SameBut [.tables, .link] u t)
      ∧ (seg.table = .net →
          (∀ k, t.netAt k = if written k then decodeNet (record 8 k) else s.netAt k)
          ∧ (∀ k, t.signature k = if written k = true ∧ k ≠ 4095 then
              { list := [], source := none, reference := (decodeNet (record 8 k)).preset }
              else s.signature k)
          ∧ t.sigs = { s.sigs with nets := t.sigs.nets, scan := t.sigs.scan }
          ∧ (let preset := ∃ k, written k = true ∧ k ≠ 4095 ∧ (decodeNet (record 8 k)).preset ≠ none
              ∧ ∃ d ∈ s.sigs.deferred, d.net = k
            (preset → t.sigs.scan = s.sigs.scan.requested s.sigs.deferred)
            ∧ (¬preset → t.sigs.scan = s.sigs.scan))
          ∧ t.tables = { s.tables with nets := t.tables.nets }
          ∧ SameBut [.tables, .sigs, .link] u t)

/-- Every step, net, range and frequency record whose fields lie in the ranges of R5, R8, R11 and R13 is read back from the
bytes that the layouts of R179 give it; what stands in the reserved bytes and in the value of an absent limit or preset is
not read. -/
def Obligations.StepRecordsAreReadBack : Prop :=
  (∀ r : StepRecord,
    (∀ a, r.netA = some a → a ≤ 4094) → (∀ b, r.netB = some b → b ≤ 4094) → r.range ≤ 31 →
    (∀ f, r.freq = some f → f ≤ 7) → 16 ≤ r.samples → r.samples ≤ 4096 → r.stimulus ≤ 255 →
    (∀ l, r.low = some l → l ≤ 4294967294) → (∀ h, r.high = some h → h ≤ 4294967294) →
    (∀ x, r.tolerance = some x → 1 ≤ x ∧ x ≤ 1000) → r.exponent ≤ 6 → r.retryLimit ≤ 7 →
    1 ≤ r.budget → r.budget ≤ 65535 →
    decodeStep (encodeStep r) = some (some r)
    ∧ ∀ low high : Nat,
        let method : Nat := match r.method with
          | .res => 1
          | .cap => 2
          | .vf => 3
          | .zero => 4
        let cls : Nat := match r.cls with
          | none => 0
          | some .iso => 1
          | some .cont => 2
          | some .comp => 3
          | some .sig => 4
        decodeStep
          ([byte (1 + (if r.low.isSome then 2 else 0) + (if r.high.isSome then 4 else 0)),
              byte (method + 16 * cls)]
            ++ be16 (r.netA.getD 4095) ++ be16 (r.netB.getD 4095) ++ [byte r.range, byte (r.freq.getD 255)]
            ++ be16 r.samples ++ [byte r.stimulus, byte (r.exponent + 16 * r.retryLimit)]
            ++ be16 (r.tolerance.getD 0) ++ be16 r.budget ++ be32 (r.low.getD low) ++ be32 (r.high.getD high))
          = some (some r))
  ∧ (∀ (r : NetRecord) (x y z : Byte) (unread : Nat), (∀ p, r.preset = some p → p ≤ 4294967295) →
      decodeNet ([byte ((if r.excluded then 1 else 0) + (if r.preset.isSome then 2 else 0)), x, y, z]
        ++ be32 (r.preset.getD unread)) = r)
  ∧ (∀ (r : RangeRecord) (unread : List Byte), 1 ≤ r.kv → r.kv ≤ 1000000 → 1 ≤ r.ki →
      r.ki ≤ 1000000000 → r.floor ≤ 32767 → r.clip ≤ 255 → (∀ i, r.next = some i → i ≤ 31) →
      decodeRange (be32 r.kv ++ be32 r.ki ++ be16 r.floor ++ [byte r.clip, byte (r.next.getD 255)] ++ unread)
        = some r)
  ∧ (∀ (r : FreqRecord) (unread : Byte), 50 ≤ r.divider → r.divider ≤ 50000 → 1 ≤ r.g →
      r.g ≤ 4294967295 → 1 ≤ r.settle → r.settle ≤ 255 →
      decodeFreq (be16 r.divider ++ be32 r.g ++ [byte r.settle, unread]) = some r)

/-! ### Lanes -/

/-- The four windows and failure thresholds of R47: an interval matches a rate exactly when 50 × |m − nominal| does not
exceed the nominal interval, and the windows are those of the table. -/
def Obligations.RateWindows : Prop :=
  ∀ m : Nat,
    (matchRate m = some .r25 ↔ 4015 ≤ m ∧ m ≤ 4177)
    ∧ (matchRate m = some .r50 ↔ 2008 ≤ m ∧ m ≤ 2088)
    ∧ (matchRate m = some .r100 ↔ 1004 ≤ m ∧ m ≤ 1044)
    ∧ (matchRate m = some .r200 ↔ 502 ≤ m ∧ m ≤ 522)
    ∧ (∀ r : Rate, matchRate m = some r ↔
        50 * ((m : Int) - (r.interval : Int)).natAbs ≤ r.interval)
    ∧ Rate.r25.interval = 4096 ∧ Rate.r50.interval = 2048 ∧ Rate.r100.interval = 1024
    ∧ Rate.r200.interval = 512
    ∧ Rate.r25.threshold = 16384 ∧ Rate.r50.threshold = 8192 ∧ Rate.r100.threshold = 4096
    ∧ Rate.r200.threshold = 2048

/-- A marker has no effect in DISABLED, restarts the silence timer in UP, starts a new training in FAILED, and gives the
first marker time in TRAINING (R48, R49, R52, R53). The end of an UP lane's silence timer, with no entry outstanding:
FAILED with the rate kept and all else at its reset values, the reduction abandoned, LANE_FAILED posted; before that end
the event does not occur (R52, R64; that a SILENCE_TIMEOUT then changes nothing is the model's choice,
notes/assumptions/3.md). -/
def Obligations.MarkerAndSilenceByLaneState : Prop :=
  ∀ (dt : Nat) (n : LaneId) (s : State), s.resetLow = false →
    let u := elapse dt s
    let l : Lane := u.lane n
    let put (x : Lane) : State := { u with lanes := u.lanes.set n x }
    let o := exec (.marker dt n) s
    let silence := exec (.silenceTimeout dt n) s
    ((s.lane n).state = .disabled → Becomes o u)
    ∧ ((s.lane n).state = .up →
        Becomes o (put { l with silence := 0, lastMarker := some u.tb.ticks }))
    ∧ ((s.lane n).state = .failed →
        Becomes o (put { l with state := .training, rate := .r25, lastMarker := some u.tb.ticks,
                                runCandidate := none, runFirst := none, runCount := 0 }))
    ∧ ((s.lane n).state = .training → (s.lane n).lastMarker = none → (s.lane n).runCount < 6 →
        Becomes o (put { l with lastMarker := some u.tb.ticks }))
    ∧ (s.entries = [] → l.state = .up → l.rate.threshold ≤ l.silence →
      Becomes silence
        (postEvent .laneFailed n.val
          { u with
            lanes := u.lanes.set n { Lane.reset with state := .failed, rate := l.rate }
            reductions := u.reductions.set n none }))
    ∧ (l.state ≠ .up ∨ l.silence < l.rate.threshold → Becomes silence u)

/-- A measured marker in TRAINING by the cases of R49: the run is thrown away, started, or extended, and the sixth interval
locks the rate, brings the lane UP and posts LANE_UP with the lane and the rate (R48, R49, R50). -/
def Obligations.TrainingMarkerCountsRun : Prop :=
  ∀ (dt : Nat) (n : LaneId) (t0 : Nat) (s : State), s.resetLow = false →
    (s.lane n).state = .training → (s.lane n).lastMarker = some t0 →
    let u := elapse dt s
    let l : Lane := { u.lane n with lastMarker := some u.tb.ticks }
    let put (x : Lane) : State := { u with lanes := u.lanes.set n x }
    let m := min 65535 (u.tb.ticks - t0)
    let count := (s.lane n).runCount
    let off (f : Nat) := 100 * ((m : Int) - (f : Int)).natAbs
    let o := exec (.marker dt n) s
    (matchRate m = none →
      Becomes o (put { l with runCandidate := none, runFirst := none, runCount := 0 }))
    ∧ (∀ r, matchRate m = some r → (count = 0 ∨ (s.lane n).runCandidate ≠ some r) →
        Becomes o (put { l with runCandidate := some r, runFirst := some m, runCount := 1 }))
    ∧ (∀ r f, matchRate m = some r → count ≠ 0 → (s.lane n).runCandidate = some r →
        (s.lane n).runFirst = some f →
        (f < off f →
          Becomes o (put { l with runCandidate := some r, runFirst := some m, runCount := 1 }))
        ∧ (off f ≤ f → count + 1 < 6 → Becomes o (put { l with runCount := count + 1 }))
        ∧ (off f ≤ f → count + 1 = 6 →
          Becomes o (postEvent .laneUp (256 * n.val + r.mbit)
            (put { l with state := .up, rate := r, silence := 0, runCandidate := none,
                          runFirst := none, runCount := 0 }))))

/-- What a lane port does with a frame that does not reach the DU: a BURST or FAULT that fails the checks of R56, or is taken
on a lane that is not UP, is discarded without an event; a good one on an UP lane is late when its tag is that of the open
or last closed attempt, and stray otherwise (R56, R57); a frame that R179 discards has no effect, and at the end of an
ORDER the ORDER in transmission becomes absent (R55). -/
def Obligations.LaneFramesShortOfTheDispatchUnit : Prop :=
  ∀ (dt : Nat) (n : LaneId) (s : State), s.resetLow = false →
    let u := elapse dt s
    let l := s.lane n
    let late (tag : Half) :=
      l.openAttempt.map AttemptId.tag = some tag ∨ l.lastClosed.map AttemptId.tag = some tag
    (∀ f : BurstFrame,
      let good := f.crcGood = true ∧ f.pairCount.toNat ≤ 4096
        ∧ f.payloadLength = 7 + 4 * f.pairCount.toNat ∧ f.pairs.length = f.pairCount.toNat
      let o := exec (.burst dt n f) s
      ((¬good ∨ l.state ≠ .up) → Becomes o u)
      ∧ (good → l.state = .up → l.openAttempt ≠ some { tag := f.tag, attempt := f.attempt.toNat } →
          (late f.tag → Becomes o (postEvent .lateBurst n.val u))
          ∧ (¬late f.tag → Becomes o (postEvent .strayBurst n.val u))))
    ∧ (∀ f : FaultFrame,
        let good := f.crcGood = true ∧ f.payloadLength = 4
        let o := exec (.fault dt n f) s
        ((¬good ∨ l.state ≠ .up) → Becomes o u)
        ∧ (good → l.state = .up → l.openAttempt ≠ some { tag := f.tag, attempt := f.attempt.toNat } →
            (late f.tag → Becomes o (postEvent .lateBurst n.val u))
            ∧ (¬late f.tag → Becomes o (postEvent .strayBurst n.val u))))
    ∧ (∀ received, Becomes (exec (.laneFrameDiscard dt n received) s) u)
    ∧ Becomes (exec (.orderSent dt n) s)
        { u with lanes := u.lanes.set n { u.lane n with order := none } }

/-- A delivered BURST with good contacts, the step's N pairs and no mark closes the attempt and starts a reduction with every
sum at 0 and the Offset Table entry of the lane and current range; a raw copy is captured, or RAW_DROPPED posted, when
the entry and the setting ask for it (R29, R31, R61, R65). -/
def Obligations.BurstDeliveredStartsReduction : Prop :=
  ∀ (dt : Nat) (n : LaneId) (f : BurstFrame) (e : Entry) (s : State),
    s.resetLow = false → s.outstandingOk = true → e ∈ s.entries → e.lane = n → e.state = .forwarded →
    e.outcome = none → e.xoutMark = false → e.tbFault = false → (s.lane n).state = .up →
    (s.lane n).openAttempt = some { tag := f.tag, attempt := f.attempt.toNat } → e.tag = f.tag →
    f.crcGood = true → f.pairCount.toNat ≤ 4096 → f.payloadLength = 7 + 4 * f.pairCount.toNat →
    f.pairs.length = f.pairCount.toNat → f.contact.getLsbD 0 = false → f.contact.getLsbD 1 = false →
    f.pairCount.toNat = (s.stepOf e).samples →
    let u := elapse dt s
    let z := s.offsetAt n e.range
    let a : State :=
      { u with
        entries := s.entries.map (fun x =>
          if x.tag = f.tag then { x with state := .judging, deadline := none } else x)
        lanes := u.lanes.set n { u.lane n with
          lastClosed := some { tag := f.tag, attempt := f.attempt.toNat }
          openAttempt := none
          selection := none }
        reductions := u.reductions.set n (some
          { tag := f.tag, attempt := e.attempt, method := (s.stepOf e).method,
            samples := f.pairCount.toNat, offset := z, sumV := 0, sumI := 0, corrV := 0, corrI := 0,
            sqV := 0, sqI := 0, clip := 0, taken := 0, burst := f.pairs }) }
    let copy : RawCopy :=
      { lane := n, tag := f.tag, attempt := e.attempt, range := e.range, offset := z,
        samples := f.pairCount.toNat, pairs := f.pairs, nextPair := 0 }
    Becomes (exec (.burst dt n f) s)
      (if e.raw = true ∧ s.link.rawCopy = true then
        (if s.raw.length < 2 then { a with raw := s.raw ++ [copy] } else postEvent .rawDropped n.val a)
      else a)

/-- The end of an attempt by a FAULT, by its expiry, or by a BURST with bad contact, another pair count or TB_FAULT, while the
budget remains, the slot is not XOUT and a Report Queue place is free: in the same event the attempt is closed and the
entry forwarded again with its attempt number one higher, RETRIED set, its generator kept and a new deadline (R27 to
R29, R31 to R34). A reduction that completes with a decision to retry does the same, and a retry that escalates takes the
next range and sets RANGE_STEPPED (R33, R63, R82, R87). That a deadline counts as reached for half the span of the
counter is the model's choice (notes/assumptions/6.md). -/
def Obligations.TriggerWithBudgetIsRetried : Prop :=
  let retried (e : Entry) (escalate : Option Nat) (u : State) : State :=
    let st := u.stepOf e
    let g := if st.method = .cap then e.gen else none
    { u with
      entries := u.entries.map (fun x => if x.tag = e.tag then
        e.again escalate (u.tb.microseconds + BitVec.ofNat 32 (100 * st.budget))
          (if st.method = .cap then decide (u.tb.source = .internal) else e.tbInternal) else x)
      lanes := u.lanes.set e.lane
        ((u.lane e.lane).ordered e.tag (e.attempt + 1) (escalate.getD e.range) st g) }
  (∀ (dt : Nat) (n : LaneId) (e : Entry) (number : Byte) (s : State),
    s.resetLow = false → s.outstandingOk = true → e ∈ s.entries → e.lane = n → e.state = .forwarded →
    e.outcome = none → e.xoutMark = false → (s.lane n).state = .up →
    (s.lane n).openAttempt = some { tag := e.tag, attempt := number.toNat } →
    e.attempt < (s.stepOf e).retryLimit + 1 → s.slotAt e.slot ≠ .xout →
    s.reports.queue.length < 32 →
    let u := elapse dt s
    let a : State := retried e none
      { u with lanes := u.lanes.set n { u.lane n with
          lastClosed := some { tag := e.tag, attempt := number.toNat } } }
    Becomes (exec (.fault dt n { crcGood := true, payloadLength := 4, tag := e.tag, attempt := number }) s)
        a
    ∧ (∀ d, e.deadline = some d → (u.tb.microseconds - d).toNat < 2147483648 →
        Becomes (exec (.attemptExpiry dt n) s) a)
    ∧ (∀ f : BurstFrame, burstGood f = true → f.tag = e.tag → f.attempt = number →
        (f.contact.getLsbD 0 = true ∨ f.contact.getLsbD 1 = true
          ∨ f.pairCount.toNat ≠ (s.stepOf e).samples ∨ e.tbFault = true) →
        Becomes (exec (.burst dt n f) s) a))
  ∧ ∀ (dt : Nat) (n : LaneId) (e : Entry) (r : Reduction) (escalate : Option Nat) (s : State),
    s.resetLow = false → s.outstandingOk = true → s.reductions.get n = some r → e ∈ s.entries →
    e.tag = r.tag → e.lane = n → e.state = .judging → e.outcome = none → e.trigger = none →
    s.slotAt e.slot ≠ .xout → s.reports.queue.length < 32 →
    let u := elapse dt s
    let st := s.stepOf e
    judgeResult st (s.rangeOf e) false e
        (quantityOf r.takeAll (s.rangeOf e) (s.freqAt (st.freq.getD 0)).g st.exponent) = .retry escalate →
    Becomes (exec (.reductionComplete dt n) s)
      (retried e escalate { u with reductions := u.reductions.set n none })

/-- The same ends of an attempt when the budget is spent and the entry has no other entry on its lane: in the same event the
attempt is closed, a VOID with the trigger's cause is placed, and the entry releases the generator it is attached to, if
any, and leaves the table (R32, R35, R37, R44, R86, R138). That a deadline counts as reached for half the span of the
counter is the model's choice (notes/assumptions/6.md). -/
def Obligations.SpentBudgetEndsVoid : Prop :=
  ∀ (dt : Nat) (n : LaneId) (e : Entry) (number : Byte) (s : State),
    s.resetLow = false → s.outstandingOk = true → e ∈ s.entries → e.lane = n → e.state = .forwarded →
    e.outcome = none → e.xoutMark = false → (e.gen = none ∨ (s.tb.pendingSwitch = none ∧ s.waiting = [])) →
    (∀ x ∈ s.entries, x.lane = n → x = e) → (s.lane n).state = .up →
    (s.lane n).openAttempt = some { tag := e.tag, attempt := number.toNat } →
    e.attempt = (s.stepOf e).retryLimit + 1 → s.reports.queue.length < 32 →
    let u := elapse dt s
    let a (cause : VoidCause) : State :=
      ({ u with lanes := u.lanes.set n { u.lane n with
          lastClosed := some { tag := e.tag, attempt := number.toNat }
          openAttempt := none
          selection := none } }.withReport
        (dispatchReport e (s.stepOf e).exponent u.tb.microseconds .verdict (some .void) (some cause) none
          false false .absent) false).retiring e
    Becomes (exec (.fault dt n { crcGood := true, payloadLength := 4, tag := e.tag, attempt := number }) s)
        (a .contact)
    ∧ (∀ d, e.deadline = some d → (u.tb.microseconds - d).toNat < 2147483648 →
        Becomes (exec (.attemptExpiry dt n) s) (a .timeout))
    ∧ (∀ f : BurstFrame, burstGood f = true → f.tag = e.tag → f.attempt = number →
        (f.contact.getLsbD 0 = true ∨ f.contact.getLsbD 1 = true →
          Becomes (exec (.burst dt n f) s) (a .contact))
        ∧ (f.contact.getLsbD 0 = false → f.contact.getLsbD 1 = false →
            f.pairCount.toNat ≠ (s.stepOf e).samples →
            Becomes (exec (.burst dt n f) s) (a .burstBad))
        ∧ (f.contact.getLsbD 0 = false → f.contact.getLsbD 1 = false →
            f.pairCount.toNat = (s.stepOf e).samples → e.tbFault = true →
            Becomes (exec (.burst dt n f) s) (a .timebase)))

/-! ### Reduction and arithmetic -/

/-- A burst taken whole leaves the sums of R62 over all its pairs, whatever their order, with the offset copy subtracted in
the corrected ones, and counts a pair once when either sample sits at an end of the scale; with offsets in range and at
most 4,096 pairs a square sum is at most 5,566,277,615,616. -/
def Obligations.ReductionSums : Prop :=
  ∀ (tag : Half) (attempt : Nat) (method : Method) (n : Nat) (z : Offset) (pairs : List Sample),
    let r := (Reduction.start tag attempt method n z pairs).takeAll
    let v (p : Sample) : Int := p.v.toInt
    let i (p : Sample) : Int := p.i.toInt
    r.sumV = (pairs.map v).sum ∧ r.sumI = (pairs.map i).sum
    ∧ r.corrV = (pairs.map (fun p => v p - z.zv)).sum
    ∧ r.corrI = (pairs.map (fun p => i p - z.zi)).sum
    ∧ r.corrV = r.sumV - pairs.length * z.zv ∧ r.corrI = r.sumI - pairs.length * z.zi
    ∧ (r.sqV : Int) = (pairs.map (fun p => (v p - z.zv) ^ 2)).sum
    ∧ (r.sqI : Int) = (pairs.map (fun p => (i p - z.zi) ^ 2)).sum
    ∧ r.clip = (pairs.filter (fun p => decide (v p = -32768 ∨ v p = 32767 ∨ i p = -32768
        ∨ i p = 32767))).length
    ∧ r.taken = pairs.length ∧ r.offset = z ∧ r.burst = []
    ∧ (z.zv.natAbs ≤ 4096 → z.zi.natAbs ≤ 4096 → pairs.length ≤ 4096 →
        r.sqV ≤ 5566277615616 ∧ r.sqI ≤ 5566277615616)
    ∧ ∀ other : List Sample, other.Perm pairs →
        (Reduction.start tag attempt method n z other).takeAll = r

/-- A reduction that completes leaves its slot IDLE. On a full Report Queue the quantity result waits with the entry; with a
free place, the terminal outcome that the decision gives, SHORT apart, has its report placed, the measured nets raised, a
passing ZERO's offsets written, and the entry releases its generator and leaves the table (R34, R35, R63, R77, R82, R91,
R94, R98, R138). A release that leaves a generator without users lets a pending switch change the source (R150), or, with
none pending, calls for the arbiter's pass (R139); behind the entry the lane's next head is forwarded, or enters WAIT_EXC
for a CAP step (R26). That an IDLE slot completes nothing, and that a reduction completes with the event, at whatever
tick, are the model's choices (notes/assumptions/3.md, 7.md and 12.md). -/
def Obligations.ReductionCompleteDecides : Prop :=
  (∀ (dt : Nat) (n : LaneId) (s : State), s.resetLow = false →
    let u := elapse dt s
    let o := exec (.reductionComplete dt n) s
    (s.reductions.get n = none → Becomes o u)
    ∧ ∀ (r : Reduction) (e : Entry), s.outstandingOk = true → s.reductions.get n = some r →
      e ∈ s.entries → e.tag = r.tag → e.lane = n → e.state = .judging → e.outcome = none →
      e.trigger = none →
      let st := s.stepOf e
      let q := quantityOf r.takeAll (s.rangeOf e) (s.freqAt (st.freq.getD 0)).g st.exponent
      (32 ≤ s.reports.queue.length →
        Becomes o
          { u with
            reductions := u.reductions.set n none
            entries := s.entries.map (fun x => if x.tag = r.tag then { x with result := some q } else x) })
      ∧ ∀ t : Terminal, s.reports.queue.length < 32 → t.verdict ≠ .short →
          judgeResult st (s.rangeOf e) (decide (s.slotAt e.slot = .xout)) e q = .terminal t →
          let report := dispatchReport e st.exponent u.tb.microseconds .verdict (some t.verdict) t.cause
            t.value t.saturated false .absent
          let raised : State := raiseNet e.slot st.netB t.verdict (raiseNet e.slot st.netA t.verdict
            ({ u with reductions := u.reductions.set n none }.withReport report false))
          let a : State := (match t.offset with
            | none => raised
            | some z => raised.setOffset n e.range z).retiring e
          let free := ∀ g, (a.gen g).users = 0
          let mayChange := ∃ p, s.tb.pendingSwitch = some p ∧ (p = .internal ∨ s.tb.loop = .locked)
          ((∀ x ∈ s.entries, x.lane = n → x = e) →
            ((e.gen = none ∨ (s.waiting = [] ∧ ¬(mayChange ∧ free))) → Becomes o a)
            ∧ (∀ g, e.gen = some g → (s.gen g).users = 1 → s.tb.pendingSwitch = none →
                Becomes o (arbiterPass a))
            ∧ (∀ g p, e.gen = some g → s.tb.pendingSwitch = some p → mayChange → free →
                Becomes o (arbiterPass (a.switchedTo p))))
          ∧ (∀ x rest, s.orderList n = e :: x :: rest → x.state = .queued →
              (e.gen = none ∨ s.tb.pendingSwitch = none) →
              ((s.stepOf x).method ≠ .cap → (e.gen = none ∨ s.waiting = []) →
                Becomes o
                  { a with
                    entries := a.entries.map (fun y => if y.tag = x.tag then { x with
                      state := .forwarded
                      deadline := some (u.tb.microseconds
                        + BitVec.ofNat 32 (100 * (s.stepOf x).budget))
                      tbFault := false
                      xoutMark := false
                      trigger := none
                      result := none } else y)
                    lanes := u.lanes.set n
                      ((u.lane n).ordered x.tag x.attempt x.range (s.stepOf x) none) })
              ∧ ((s.stepOf x).method = .cap →
                  Becomes o (arbiterPass { a with entries := a.entries.map (fun y =>
                    if y.tag = x.tag then { x with state := .waitExc } else y) }))))
  ∧ ∀ (s : State) (n m : LaneId) (range i : Nat) (z : Offset), s.canonical = true → range < 32 → i < 32 →
      (s.setOffset n range z).offsetAt m i = (if m = n ∧ i = range then z else s.offsetAt m i)
      ∧ s.setOffset n range z = { s with tables := { s.tables with
          offsets := (s.setOffset n range z).tables.offsets } }

/-- isqrt(x) is the largest integer whose square does not exceed x, with the reference points and the bound of R66; of a
burst's voltage square sum it is 0 exactly when every voltage sample equals the offset. -/
def Obligations.IsqrtIsFloorRoot : Prop :=
  (∀ x : Nat, isqrt x * isqrt x ≤ x ∧ x < (isqrt x + 1) * (isqrt x + 1))
  ∧ (∀ x : Nat, isqrt x = 0 ↔ x = 0)
  ∧ (∀ x : Nat, 1 ≤ x → x ≤ 3 → isqrt x = 1)
  ∧ (∀ x : Nat, x ≤ 5566277615616 → isqrt x ≤ 2359296)
  ∧ (∀ (tag : Half) (attempt : Nat) (method : Method) (n : Nat) (z : Offset) (pairs : List Sample),
      isqrt (Reduction.start tag attempt method n z pairs).takeAll.sqV = 0 ↔
        ∀ p ∈ pairs, p.v.toInt = z.zv)
  ∧ isqrt 999950884 = 31622 ∧ isqrt 1000000000 = 31622 ∧ isqrt 1000014129 = 31623
  ∧ isqrt 102400000000 = 320000 ∧ isqrt 5566277615616 = 2359296

/-- The rounded value is the integer nearest to P / (D × 10^e), halves up (R67), and a value above 4,294,967,294 becomes
4,294,967,294 with SATURATED, while any other stands (R68). A CAP reading without excitation has no value, and any other
is the quotient of R74, rounded and checked (R73, R74); a VF reading is 0 for a sum not above 0, else the quotient of
R75; a ZERO reading takes from each sum the offset nearest to its mean, halves away from zero, gives the larger magnitude
as its value, and is within bounds when both magnitudes are at most 4,096 (R76, R77). -/
def Obligations.ValueRounding : Prop :=
  (∀ p d e : Nat, 0 < d →
    let q := d * 10 ^ e
    2 * q * roundQuotient p d e ≤ 2 * p + q ∧ 2 * p + q < 2 * q * (roundQuotient p d e + 1))
  ∧ (∀ v : Nat, saturate v
      = if 4294967294 < v then QuantityKind.value 4294967294 true else .value v false)
  ∧ ∀ (r : Reduction) (rg : RangeRecord) (g e : Nat),
      let k := (quantityOf r rg g e).kind
      (r.method = .cap →
        (isqrt r.sqV = 0 → k = .noExcitation ∧ k.value? = none)
        ∧ (isqrt r.sqV ≠ 0 →
            k = saturate (roundQuotient (isqrt r.sqI * rg.ki * g) (isqrt r.sqV * rg.kv) e)))
      ∧ (r.method = .vf →
          (r.corrV ≤ 0 → k = .value 0 false)
          ∧ (0 < r.corrV → k = saturate (roundQuotient (r.corrV.natAbs * rg.kv) (r.samples * 1000) e)))
      ∧ (r.method = .zero → 0 < r.samples →
          let Nearest (z sum : Int) : Prop :=
            2 * (z * r.samples - sum).natAbs ≤ r.samples
              ∧ (2 * (z * r.samples - sum).natAbs = r.samples → sum.natAbs < (z * r.samples).natAbs)
          ∃ zv zi : Int, Nearest zv r.sumV ∧ Nearest zi r.sumI
            ∧ k = .offsets (max zv.natAbs zi.natAbs) { zv := zv, zi := zi }
                (decide (zv.natAbs ≤ 4096 ∧ zi.natAbs ≤ 4096)))

/-- A RES reading: OPEN when Si′ is 0 or |Si′| is below N × floor (R70); else POLARITY when the sums have opposite signs
(R71); else the quotient of R72, rounded and checked. -/
def Obligations.ResistanceReading : Prop :=
  ∀ (r : Reduction) (rg : RangeRecord) (g e : Nat), r.method = .res →
    let k := (quantityOf r rg g e).kind
    let isOpen := r.corrI = 0 ∨ r.corrI.natAbs < r.samples * rg.floor
    let opposite := r.corrV * r.corrI < 0
    (isOpen → k = .openReading ∧ k.value? = some 4294967295)
    ∧ (¬isOpen → opposite → k = .polarity ∧ k.value? = none)
    ∧ (¬isOpen → ¬opposite →
        k = saturate (roundQuotient (r.corrV.natAbs * rg.kv * 1000000) (r.corrI.natAbs * rg.ki) e))

/-- The signature comparison: against 0, PASS exactly for 0 and FAIL_HIGH above; against a reference above 0, the deviation
is the least integer not less than |C − ref| × 1,000 / ref, PASS within the tolerance, else FAIL_LOW below and FAIL_HIGH
above the reference (R78, R79). A value for a net with a reference is judged at once (R119). Without one it is learnable
when the list is empty or of its source and its group has one net (R109, R120); it then joins the list in ascending
order, its own board's value replaced (R121), and the K-th value freezes the reference at the median, posts
REFERENCE_FROZEN, requests a scan and is judged (R122). Any other value is deferred, unless its tag was deferred before
or the list is full, with DEFER_FULL (R123 to R125). REDUCTION_COMPLETE of a CAP SIG dispatch retires it with that answer,
as a VERDICT, a PENDING or an UNREF (R35, R92, R98). -/
def Obligations.SignatureVerdict : Prop :=
  (∀ c ref tolerance : Nat,
    (ref = 0 → judgeSignature c ref tolerance = if c = 0 then .pass else .failHigh)
    ∧ (0 < ref →
        ((c : Int) - (ref : Int)).natAbs * 1000 ≤ deviation c ref * ref
        ∧ (∀ d, ((c : Int) - (ref : Int)).natAbs * 1000 ≤ d * ref → deviation c ref ≤ d)
        ∧ (deviation c ref ≤ tolerance → judgeSignature c ref tolerance = .pass)
        ∧ (tolerance < deviation c ref → c < ref → judgeSignature c ref tolerance = .failLow)
        ∧ (tolerance < deviation c ref → ref < c → judgeSignature c ref tolerance = .failHigh)))
  ∧ (∀ (x : SignatureValue) (s : State),
      let sig := s.signature x.net
      let leader := (s.netState x.slot x.net).leader
      let size := match s.groups.walk with
        | none => (s.netState x.slot leader).count
        | some w =>
          if w.request.slot = x.slot ∧ (leader = w.low ∨ leader = w.high) then
            (s.netState x.slot w.low).count + (s.netState x.slot w.high).count
          else (s.netState x.slot leader).count
      let learnable := (sig.list = [] ∨ sig.source = some x.source) ∧ size = 1
      let own : LearnEntry := { value := x.value, panel := x.panel, slot := x.slot, source := x.source }
      let others := sig.list.filter (fun a => decide (a.panel ≠ x.panel ∨ a.slot ≠ x.slot))
      let lower (a : LearnEntry) : Bool := decide (a.value ≤ x.value)
      let list := others.takeWhile lower ++ own :: others.dropWhile lower
      let deferred (notLearned : Bool) (a : State) : State × SignatureResult × Bool :=
        if x.tag ∈ s.sigs.deferredTags then (a, .notDeferred, notLearned)
        else if 64 ≤ s.sigs.deferred.length then (postEvent .deferFull x.net a, .notDeferred, notLearned)
        else
          ({ a with sigs := { a.sigs with
              deferredTags := s.sigs.deferredTags ++ [x.tag]
              deferred := s.sigs.deferred ++
                [{ tag := x.tag, panel := x.panel, slot := x.slot, step := x.step, net := x.net,
                   value := x.value, tolerance := x.tolerance, attempts := x.attempts,
                   finalRange := x.finalRange,
                   flags := { retried := x.retried, rangeStepped := x.rangeStepped,
                              saturated := x.saturated, tbInternal := x.tbInternal,
                              notLearned := notLearned },
                   deadline := s.tb.seconds + BitVec.ofNat 32 s.sigs.deferAge, expired := false }] } },
            .deferred, notLearned)
      (∀ ref, sig.reference = some ref →
        takeSignature x s = (s, .judged (judgeSignature x.value ref x.tolerance), false))
      ∧ (sig.reference = none → ¬learnable → takeSignature x s = deferred true s)
      ∧ (sig.reference = none → learnable → list.length ≠ s.sigs.inForceK →
          takeSignature x s = deferred false
            (s.setSignature x.net { list := list, source := some x.source, reference := none }))
      ∧ (∀ median : LearnEntry, sig.reference = none → learnable → list.length = s.sigs.inForceK →
          list[(s.sigs.inForceK + 1) / 2 - 1]? = some median →
          let a : State :=
            s.setSignature x.net { list := [], source := none, reference := some median.value }
          takeSignature x s =
            (postEvent .referenceFrozen x.net
              { a with sigs := { a.sigs with scan := s.sigs.scan.requested s.sigs.deferred } },
            .judged (judgeSignature x.value median.value x.tolerance), false)))
  ∧ (∀ (s : State) (net other : Nat) (x : NetSignature), s.canonical = true →
      (s.setSignature net x).signature other = (if other = net then x else s.signature other)
      ∧ s.setSignature net x = { s with sigs := { s.sigs with nets := (s.setSignature net x).sigs.nets } })
  ∧ ∀ (dt : Nat) (n : LaneId) (r : Reduction) (e : Entry) (value net tolerance : Nat) (saturated : Bool)
      (s : State), s.resetLow = false → s.outstandingOk = true → s.reductions.get n = some r →
      e ∈ s.entries → e.tag = r.tag → e.lane = n → e.state = .judging → e.outcome = none →
      e.trigger = none → s.reports.queue.length < 32 →
      (e.gen = none ∨ (s.tb.pendingSwitch = none ∧ s.waiting = [])) →
      (∀ x ∈ s.entries, x.lane = n → x = e) →
      let u := elapse dt s
      let st := s.stepOf e
      st.netA = some net → st.tolerance = some tolerance →
      judgeResult st (s.rangeOf e) (decide (s.slotAt e.slot = .xout)) e
          (quantityOf r.takeAll (s.rangeOf e) (s.freqAt (st.freq.getD 0)).g st.exponent)
        = .signature value saturated →
      let taken := takeSignature
        { slot := e.slot, net := net, value := value
          source := if e.tbInternal then .internal else .reference
          tolerance := tolerance, tag := e.tag, panel := e.panel, step := e.step, attempts := e.attempt
          finalRange := e.range, retried := e.retried, rangeStepped := e.rangeStepped
          saturated := saturated, tbInternal := e.tbInternal }
        { u with reductions := u.reductions.set n none }
      let placed (kind : ReportKind) (v : Option Verdict) : State :=
        taken.1.withReport (dispatchReport e st.exponent u.tb.microseconds kind v none (some value)
          saturated taken.2.2 .absent) false
      Becomes (exec (.reductionComplete dt n) s)
        ((match taken.2.1 with
          | .judged v => raiseNet e.slot (some net) v (placed .verdict (some v))
          | .deferred => placed .pending none
          | .notDeferred => placed .verdict (some .unref)).retiring e)

/-- The decision on a quantity result. The clip count is weighed first, then POLARITY and NO_EXCITATION (R85 to R87), each
a retry while the budget remains; a value is judged by its method and class (R83, R88 to R91). On an XOUT slot a retry
becomes SKIP, and every other decision stands (R84). A verdict raises a net of a slot to its rank, PASS below FAIL_LOW,
FAIL_HIGH and OPEN, and these below SHORT, never lowers it, and touches no other net; RANGE, VOID, SKIP and UNREF change
none (R98). -/
def Obligations.DecisionTable : Prop :=
  (∀ (st : StepRecord) (rg : RangeRecord) (e : Entry) (q : Quantity),
    let d := judgeResult st rg false e q
    let remains := e.attempt < st.retryLimit + 1
    let range (v : Option Nat) (sat : Bool) : Decision :=
      .terminal { verdict := .range, cause := none, value := v, saturated := sat, offset := none }
    let verdict (v : Verdict) (x : Nat) (sat : Bool) : Decision :=
      .terminal { verdict := v, cause := none, value := some x, saturated := sat, offset := none }
    (rg.clip < q.clip →
      (rg.next = none → d = range q.kind.value? q.kind.saturated)
      ∧ (∀ next, rg.next = some next → remains → d = .retry (some next))
      ∧ (∀ next, rg.next = some next → ¬remains → d = range q.kind.value? q.kind.saturated))
    ∧ (q.clip ≤ rg.clip → (q.kind = .polarity ∨ q.kind = .noExcitation) →
        (remains → d = .retry none) ∧ (¬remains → d = range none false))
    ∧ (q.clip ≤ rg.clip →
        (∀ low, st.method = .res → st.cls = some .iso → st.low = some low →
          (q.kind = .openReading → d = verdict .pass 4294967295 false)
          ∧ (∀ v sat, q.kind = .value v sat → v < low → d = verdict .short v sat)
          ∧ (∀ v sat, q.kind = .value v sat → low ≤ v → d = verdict .pass v sat))
        ∧ (∀ high, st.method = .res → st.cls = some .cont → st.high = some high →
          (q.kind = .openReading → d = verdict .openNet 4294967295 false)
          ∧ (∀ v sat, q.kind = .value v sat → high < v → d = verdict .openNet v sat)
          ∧ (∀ v sat, q.kind = .value v sat → v ≤ high → d = verdict .pass v sat))
        ∧ (∀ low high, st.method ≠ .zero → st.cls = some .comp → st.low = some low →
          st.high = some high → low ≤ high →
          (q.kind = .openReading → d = verdict .openNet 4294967295 false)
          ∧ (∀ v sat, q.kind = .value v sat → v < low → d = verdict .failLow v sat)
          ∧ (∀ v sat, q.kind = .value v sat → high < v → d = verdict .failHigh v sat)
          ∧ (∀ v sat, q.kind = .value v sat → low ≤ v → v ≤ high → d = verdict .pass v sat))
        ∧ (∀ v sat, st.method = .cap → st.cls = some .sig → q.kind = .value v sat →
          d = .signature v sat)
        ∧ (∀ m z within, st.method = .zero → q.kind = .offsets m z within →
          d = .terminal { verdict := if within then .pass else .failHigh, cause := none,
                          value := some m, saturated := false,
                          offset := if within then some z else none }))
    ∧ (let x := judgeResult st rg true e q
      (∀ escalate, d = .retry escalate → x = .skip) ∧ ((∀ escalate, d ≠ .retry escalate) → x = d)))
  ∧ ∀ (slot net : Nat) (v : Verdict) (s : State), s.canonical = true → net < 4096 →
      let rank : NetRank → Nat
        | .untested => 0
        | .pass => 1
        | .fail => 2
        | .short => 3
      let raises : Nat := match v with
        | .pass => 1
        | .failLow | .failHigh | .openNet => 2
        | .short => 3
        | .range | .void | .skip | .unref => 0
      let t := raiseNet slot (some net) v s
      rank (t.netState slot net).state = max raises (rank (s.netState slot net).state)
      ∧ t.netState slot net = { s.netState slot net with state := (t.netState slot net).state }
      ∧ (∀ k m, m < 4096 → (k ≠ slot ∨ m ≠ net) → t.netState k m = s.netState k m)
      ∧ t = { s with netStates := t.netStates } ∧ raiseNet slot none v s = s

/-! ### Short groups and signatures -/

/-- RELABEL gives the member at the walk's position leader L and moves the position to that member's next (R105). WALK_END
gives H leader L, appends H's list to L's, adds the counts, and releases exactly the request's report, with the leader of
net A; then the next request is taken and the waiting GROUPs answered (R104, R105, R107, R108, R110). A request whose nets
share a leader completes at once, with its report released, and any other starts a walk of the higher leader's group
toward the lower (R104, R108). A SHORT decision with room in the Merge Queue places its report HELD, raises both nets and
queues a request, which an IDLE walk takes in the same event; with none it places the report with leader UNRESOLVED, marks
the slot incomplete and posts MERGE_DROPPED (R93, R98, R102, R103). -/
def Obligations.WalkRelabelsAndJoins : Prop :=
  (∀ (dt : Nat) (w : Walk) (s : State), s.resetLow = false → s.canonical = true →
    s.groups.walk = some w → w.low < 4096 → w.high < 4096 →
    let u := elapse dt s
    let slot := w.request.slot
    let at' (n : Nat) := s.netState slot n
    (∀ m, w.position = some m → m < 4096 →
      BecomesSome (exec (.relabel dt) s) fun t =>
        t.groups = { s.groups with walk := some { w with position := (at' m).next } }
        ∧ (∀ k x, x < 4096 → t.netState k x =
            if k = slot ∧ x = m then { at' m with leader := w.low } else s.netState k x)
        ∧ SameBut [.netStates, .groups] u t)
    ∧ (w.position = none → (at' w.low).tail < 4096 →
        ∃ t, Becomes (exec (.walkEnd dt) s) (answerGroups (takeMerges t))
          ∧ t.groups = { s.groups with walk := none }
          ∧ (∀ x, x < 4096 →
              (t.netState slot x).state = (at' x).state
              ∧ (t.netState slot x).leader = (if x = w.high then w.low else (at' x).leader)
              ∧ (t.netState slot x).next
                  = (if x = (at' w.low).tail then some w.high else (at' x).next)
              ∧ (t.netState slot x).tail
                  = (if x = w.low then (at' w.high).tail else (at' x).tail)
              ∧ (w.low ≠ w.high → (t.netState slot x).count
                  = if x = w.low then (at' w.low).count + (at' w.high).count else (at' x).count))
          ∧ (∀ k x, k ≠ slot → x < 4096 → t.netState k x = s.netState k x)
          ∧ t.reports = u.reports.released (fun id => decide (id = w.request.report))
              (.net (t.netState slot w.request.netA).leader)
          ∧ SameBut [.netStates, .groups, .reports] u t))
  ∧ (∀ s : State,
      (s.groups.walk ≠ none ∨ s.groups.queue = [] → takeMerges s = s)
      ∧ ∀ r rest, s.groups.walk = none → s.groups.queue = r :: rest →
          let la := (s.netState r.slot r.netA).leader
          let lb := (s.netState r.slot r.netB).leader
          (la = lb → takeMerges s = takeMerges
            { s with
              groups := { s.groups with queue := rest }
              reports := s.reports.released (fun id => decide (id = r.report)) (.net la) })
          ∧ (la ≠ lb → takeMerges s = { s with groups := { s.groups with
              queue := rest
              walk := some { request := r, low := min la lb, high := max la lb,
                             position := (s.netState r.slot (max la lb)).next } } }))
  ∧ ∀ (dt : Nat) (n : LaneId) (r : Reduction) (e : Entry) (t : Terminal) (netA netB : Nat) (s : State),
      s.resetLow = false → s.outstandingOk = true → s.reductions.get n = some r → e ∈ s.entries →
      e.tag = r.tag → e.lane = n → e.state = .judging → e.outcome = none → e.trigger = none →
      s.reports.queue.length < 32 → (e.gen = none ∨ (s.tb.pendingSwitch = none ∧ s.waiting = [])) →
      (∀ x ∈ s.entries, x.lane = n → x = e) →
      let u := elapse dt s
      let st := s.stepOf e
      st.netA = some netA → st.netB = some netB →
      judgeResult st (s.rangeOf e) (decide (s.slotAt e.slot = .xout)) e
          (quantityOf r.takeAll (s.rangeOf e) (s.freqAt (st.freq.getD 0)).g st.exponent) = .terminal t →
      t.verdict = .short →
      let raised (leader : GroupLeader) (held : Bool) : State :=
        raiseNet e.slot (some netB) .short (raiseNet e.slot (some netA) .short
          ({ u with reductions := u.reductions.set n none }.withReport
            (dispatchReport e st.exponent u.tb.microseconds .verdict (some .short) none t.value
              t.saturated false leader) held))
      (s.groups.queue.length < 16 →
        Becomes (exec (.reductionComplete dt n) s)
          ((answerGroups (takeMerges
            { raised .absent true with groups := { s.groups with queue := s.groups.queue ++
                [{ slot := e.slot, netA := netA, netB := netB, report := s.reports.nextId }] } })).retiring
            e))
      ∧ (16 ≤ s.groups.queue.length →
          Becomes (exec (.reductionComplete dt n) s)
            ((postEvent .mergeDropped e.slot
              { raised .unresolved false with groups := { s.groups with
                  incomplete := s.groups.incomplete ||| (1#8 <<< e.slot) } }).retiring e))

/-- SCAN_STEP on a running scan at an entry. A WAITING entry whose net has a reference is judged, with a free place: its
RESOLVED report is placed, it leaves the list, and in the current panel its net is raised; on a full Report Queue the
scan pauses. Any other entry is passed over. At the end of the list the scan becomes IDLE, or, with the rescan mark set,
starts again at the oldest entry with the mark cleared; a scan that is IDLE or paused makes no step (R99, R126 to R128,
R132). That a scan which stands at the end of an empty list ends with its next step is the model's choice
(notes/assumptions/11.md). -/
def Obligations.ScanStepExaminesOneEntry : Prop :=
  ∀ (dt : Nat) (mark : Bool) (s : State), s.resetLow = false →
    let u := elapse dt s
    let o := exec (.scanStep dt) s
    let running (position : Option Nat) : Scan :=
      { scanning := true, position := position, rescan := mark, paused := false }
    let scanAt (k length : Nat) : Scan := Scan.movedTo k length mark
    (s.sigs.scan.scanning = false ∨ s.sigs.scan.paused = true → Becomes o u)
    ∧ (s.sigs.scan = running none →
        Becomes o { u with sigs := { u.sigs with
          scan := scanAt s.sigs.deferred.length s.sigs.deferred.length } })
    ∧ ∀ (i : Nat) (d : DeferredEntry), s.sigs.scan = running (some i) → s.sigs.deferred[i]? = some d →
      (∀ ref, d.expired = false → (s.signature d.net).reference = some ref →
        s.reports.queue.length < 32 →
        let v := judgeSignature d.value ref d.tolerance
        let placed := { u with sigs := { u.sigs with
            deferred := s.sigs.deferred.eraseIdx i
            scan := scanAt i (s.sigs.deferred.length - 1) } }.withReport
          (deferredReport d v u.tb.microseconds) false
        Becomes o (if d.panel = s.board.panelSequence then raiseNet d.slot (some d.net) v placed
          else placed))
      ∧ (∀ ref, d.expired = false → (s.signature d.net).reference = some ref →
          32 ≤ s.reports.queue.length →
          Becomes o { u with sigs := { u.sigs with scan := { u.sigs.scan with paused := true } } })
      ∧ (d.expired = true ∨ (s.signature d.net).reference = none →
          Becomes o { u with sigs := { u.sigs with scan := scanAt (i + 1) s.sigs.deferred.length } })

/-- DEFERRAL_DEADLINE: each WAITING entry whose deadline is reached becomes EXPIRED and posts DEFERRED_EXPIRED with its net;
on a full Report Queue they all wait in the list, and a single one that finds a free place leaves it as a RESOLVED UNREF
(R125, R130, R132). That a deadline counts as reached for half the span of the counter is the model's choice
(notes/assumptions/6.md). -/
def Obligations.DeadlinesExpireDeferredEntries : Prop :=
  ∀ (dt : Nat) (s : State), s.resetLow = false →
    let u := elapse dt s
    let due (d : DeferredEntry) : Bool :=
      !d.expired && decide ((u.tb.seconds - d.deadline).toNat < 2147483648)
    let expired : State :=
      (s.sigs.deferred.filter due).foldl (fun a d => postEvent .deferredExpired d.net a)
        { u with sigs := { u.sigs with
            deferred := s.sigs.deferred.map (fun d => if due d then { d with expired := true } else d) } }
    (32 ≤ s.reports.queue.length → Becomes (exec (.deferralDeadline dt) s) expired)
    ∧ (∀ d, s.sigs.deferred = [d] → due d = true → s.sigs.scan.scanning = false →
        s.reports.queue.length < 32 →
        Becomes (exec (.deferralDeadline dt) s)
          (placeReport
            { kind := .resolved, tag := d.tag, panel := d.panel, slot := d.slot, step := d.step,
              verdict := some .unref, cause := none, value := some d.value, exponent := 0,
              attempts := d.attempts, finalRange := d.finalRange, flags := d.flags,
              leader := .absent, timestamp := u.tb.microseconds }
            false
            (postEvent .deferredExpired d.net
              { u with sigs := { u.sigs with deferred := [] } })))

/-! ### Excitation and timebase -/

/-- RETUNE_SETTLE_START, taken at the end of the old cycle: the output takes the target divider, the cycle origin becomes that
tick and settle remaining the record's settle cycles (R143). RETUNE_COMPLETE, once settle remaining is 0: IDLE at the
target with no target, the output running on, and the arbiter makes its pass, in which the entries that wait for the
target attach (R139 to R141, R144); with no entry waiting nothing else happens. That an older entry of the pass may put
the generator to another retune first is the model's choice (notes/assumptions/21.md), and that neither event occurs before
its moment is one too (notes/assumptions/3.md). -/
def Obligations.RetunePhases : Prop :=
  ∀ (dt : Nat) (g : GenId) (s : State), s.resetLow = false →
    let u := elapse dt s
    let x := u.gen g
    let put (y : Generator) : State := { u with gens := u.gens.set g y }
    (x.state = .retuning → x.settling = false → x.restart = false →
      x.oldCycleEnd = some u.tb.ticks →
      Becomes (exec (.retuneSettleStart dt g) s)
        (put { x with output := some x.latchDivider, origin := some u.tb.ticks,
                      settleRemaining := x.latchSettle, settling := true, oldCycleEnd := none }))
    ∧ ((x.state ≠ .retuning ∨ x.settling = true ∨ ∀ t, x.oldCycleEnd = some t → u.tb.ticks < t) →
        Becomes (exec (.retuneSettleStart dt g) s) u)
    ∧ (x.state = .retuning → x.settling = true → x.settleRemaining = 0 → x.restart = false →
        let a := put { x with state := .idle, target := none, settling := false }
        Becomes (exec (.retuneComplete dt g) s) (arbiterPass a)
        ∧ (s.waiting = [] → Becomes (exec (.retuneComplete dt g) s) a))
    ∧ ((x.state ≠ .retuning ∨ x.settling = false ∨ 0 < x.settleRemaining) →
        Becomes (exec (.retuneComplete dt g) s) u)

/-- The loop's events. LOOP_LOCK makes a LOCKING loop LOCKED, and completes a pending switch to REFERENCE when both
generators are free: TB_SWITCHED with 1, training and settling restarted (R51, R145, R149, R150); LOCK_TIMEOUT at 5,000 µs
and SWITCH_REFIN_LOSS abandon the switch with CLOCK_FAIL 1 and 0 (R149). The end of a pending switch calls for the
arbiter's pass (R139). MICROSECOND_WRAP with the ticks up to the wrap posts TIME_WRAP 0 in the event of the wrap (R147).
That these events do not occur with a loop that is not LOCKING, before 5,000 µs, with no switch to REFERENCE pending on a
LOCKED loop, or before the wrap is the model's choice (notes/assumptions/3.md); so are the ticks on the commands
(notes/assumptions/7.md) and the lock timer that keeps its value when the loop leaves LOCKING
(notes/assumptions/17.md). -/
def Obligations.TimebaseEvents : Prop :=
  ∀ (dt : Nat) (s : State), s.resetLow = false →
    let u := elapse dt s
    let tb (x : Timebase) : State := { u with tb := x }
    let left := (4294967296 - s.tb.microseconds.toNat) * 100 - s.tb.microFraction
    let ends (o : Host.Outcome State Fault Refusal) (a : State) : Prop :=
      (s.tb.pendingSwitch ≠ none → Becomes o (arbiterPass a)) ∧ (s.waiting = [] → Becomes o a)
    (s.tb.loop = .locking → (s.tb.pendingSwitch = none ∨ s.tb.pendingSwitch = some .reference) →
      (s.tb.pendingSwitch = none ∨ s.noUsers = false →
        Becomes (exec (.loopLock dt) s) (tb { u.tb with loop := .locked }))
      ∧ (s.tb.pendingSwitch = some .reference → s.noUsers = true →
          ends (exec (.loopLock dt) s)
            ((tb { u.tb with loop := .locked }).switchedTo .reference)))
    ∧ (s.tb.loop ≠ .locking → Becomes (exec (.loopLock dt) s) u)
    ∧ (s.tb.loop = .locking → u.tb.lockTimer = 5000 →
        ends (exec (.lockTimeout dt) s)
          (postEvent .clockFail 1
            (tb { u.tb with pendingSwitch := none, loop := .off, tbFail := true })))
    ∧ ((s.tb.loop ≠ .locking ∨ u.tb.lockTimer < 5000) → Becomes (exec (.lockTimeout dt) s) u)
    ∧ (s.tb.loop = .locked → s.tb.pendingSwitch = some .reference →
        ends (exec (.switchRefinLoss dt) s)
          (postEvent .clockFail 0
            (tb { u.tb with pendingSwitch := none, loop := .off, tbFail := true })))
    ∧ ((s.tb.loop ≠ .locked ∨ s.tb.pendingSwitch ≠ some .reference) →
        Becomes (exec (.switchRefinLoss dt) s) u)
    ∧ (s.tb.microFraction < 100 →
        (dt = left → Becomes (exec (.microsecondWrap dt) s) (postEvent .timeWrap 0 (runClocks dt s)))
        ∧ (dt < left → Becomes (exec (.microsecondWrap dt) s) (runClocks dt s)))

/-- FAILOVER while the source is REFERENCE forces INTERNAL with the loop OFF and no pending switch, sets TB_FAIL, posts
CLOCK_FAIL 0, marks every FORWARDED CAP entry TB_FAULT, and restarts training and settling; a switch that was pending
ends, which calls for the arbiter's pass (R37, R51, R139, R145, R151). That a FAILOVER while it is INTERNAL changes nothing
is the model's choice (notes/assumptions/3.md). -/
def Obligations.FailoverForcesInternal : Prop :=
  ∀ (dt : Nat) (s : State), s.resetLow = false →
    let u := elapse dt s
    let a : State :=
      postEvent .clockFail 0
          { u with
            tb := { u.tb with
              source := .internal, loop := .off, pendingSwitch := none, tbFail := true }
            entries := s.entries.map (fun e =>
              if e.state = .forwarded ∧ (s.stepOf e).method = .cap then { e with tbFault := true }
              else e)
            lanes := u.lanes.map (fun l => if l.state = .training then
              { l with lastMarker := none, runCandidate := none, runFirst := none, runCount := 0 }
              else l)
            gens := u.gens.map (fun g => if g.state = .retuning ∧ g.settling = true then
              { g with restart := true } else g) }
    (s.tb.source = .reference →
      (s.tb.pendingSwitch = none ∨ s.waiting = [] → Becomes (exec (.failover dt) s) a)
      ∧ (s.tb.pendingSwitch ≠ none → Becomes (exec (.failover dt) s) (arbiterPass a)))
    ∧ (s.tb.source = .internal → Becomes (exec (.failover dt) s) u)

/-! ### Upstream -/

/-- The end of an upstream frame frees the transmitter, so that the next frame may begin in the same event: ATTN_SENT changes
nothing else, REPLY_SENT takes the answered frame off the reply list, and RAW_FRAME_SENT advances the oldest copy by the
pairs sent, or removes it when they were its last (R162, R163, R165). That the end of a frame of a kind that is not in
transmission does not occur is the model's choice (notes/assumptions/3.md). -/
def Obligations.FrameEndsFreeTransmitter : Prop :=
  ∀ (dt : Nat) (f : UpFrame) (s : State), s.resetLow = false → s.link.transmitting = some f →
    let u := elapse dt s
    let freed : LinkPort := { u.link with transmitting := none }
    (f.kind = .attn → Becomes (exec (.attnSent dt) s) { u with link := freed })
    ∧ (∀ r rest, f.kind = .reply → s.link.replies = r :: rest → r.linkReset = false →
        Becomes (exec (.replySent dt) s) { u with link := { freed with replies := rest } })
    ∧ (∀ c rest, f.kind = .raw → s.raw = c :: rest → c.nextPair ≤ c.samples →
        let sent := min 252 (c.samples - c.nextPair)
        Becomes (exec (.rawFrameSent dt) s)
          { u with
            link := freed
            raw :=
              if c.nextPair + sent = c.samples then rest
              else { c with nextPair := c.nextPair + sent } :: rest })
    ∧ (f.kind ≠ .attn → Becomes (exec (.attnSent dt) s) u)
    ∧ (f.kind ≠ .reply → Becomes (exec (.replySent dt) s) u)
    ∧ (f.kind ≠ .report → Becomes (exec (.reportSent dt) s) u)
    ∧ (f.kind ≠ .raw → Becomes (exec (.rawFrameSent dt) s) u)

/-- REPORT_SENT frees the transmitter and removes the entry in transmission. With no waiter the place stays free and the
turn stands. It is offered to the side of the turn when both sides have waiters, else to the side that has. The oldest
dispatch-side waiter with a fixed outcome retires into it; one whose decision is a retry is forwarded again and places
nothing, so that the offer passes to the next waiter of its side, then to the signature side (R36, R44, R156 to R159).
On the signature side the oldest EXPIRED entry leaves the list as an UNREF; with none, the paused scan judges the entry at
its position and goes on over the entries whose net has no reference, until it pauses at the next that has one, or to the
end of the list (R127, R128, R130, R132, R158). That the scan goes on over further entries in the very event of its place,
and that its position follows its entry when others leave the list, is the model's choice (notes/assumptions/11.md).
After a placing the turn is the other side's (R158). -/
def Obligations.ReportSentFreesPlace : Prop :=
  ∀ (dt : Nat) (f : UpFrame) (s : State), s.resetLow = false → s.link.transmitting = some f →
    f.kind = .report →
    let u := elapse dt s
    let left := s.reports.queue.filter (fun e => !e.inTransmission)
    let freed : State :=
      { u with
        link := { u.link with transmitting := none }
        reports := { u.reports with queue := left } }
    let turned (side : Side) (a : State) : State := { a with reports := { a.reports with turn := side } }
    let o := exec (.reportSent dt) s
    let toDispatch := s.reports.turn = .dispatch ∨ s.signatureWaits = false
    let toSignature := s.reports.turn = .signature ∨ s.dispatchWaiters = []
    let retires (e : Entry) (x : FixedOutcome) (a : State) : State :=
      (a.withReport (dispatchReport e (s.stepOf e).exponent u.tb.microseconds .verdict
        (some (if x = .skip then .skip else .void))
        (if x = .skip then none else if x = .laneLost then some .laneLost else some .laneReset)
        none false false .absent) false).without e.tag
    let Retries (e : Entry) : Prop :=
      e ∈ s.entries ∧ e.outcome = none ∧ e.trigger ≠ none
        ∧ e.attempt < (s.stepOf e).retryLimit + 1 ∧ s.slotAt e.slot ≠ .xout
    let retries (e : Entry) (a : State) : State :=
      let st := s.stepOf e
      { a with
        entries := a.entries.map (fun x => if x.tag = e.tag then
          e.again none (u.tb.microseconds + BitVec.ofNat 32 (100 * st.budget))
            (if st.method = .cap then decide (s.tb.source = .internal) else e.tbInternal) else x)
        lanes := a.lanes.set e.lane ((a.lane e.lane).ordered e.tag (e.attempt + 1) e.range st
          (if st.method = .cap then e.gen else none)) }
    let expires (before : List DeferredEntry) (d : DeferredEntry) (after : List DeferredEntry)
        (a : State) : State :=
      { a with sigs := { a.sigs with
          deferred := before ++ after
          scan := s.sigs.scan.without before.length (before.length + after.length) } }.withReport
        (deferredReport d .unref u.tb.microseconds) false
    let Oldest (before : List DeferredEntry) (d : DeferredEntry) (after : List DeferredEntry) : Prop :=
      s.sigs.deferred = before ++ d :: after ∧ (∀ x ∈ before, x.expired = false) ∧ d.expired = true
    s.outstandingOk = true → left.length < 32 →
    (s.dispatchWaiters = [] → s.signatureWaits = false → Becomes o freed)
    ∧ (∀ (e : Entry) (rest : List Half) (x : FixedOutcome), s.excitationOk = true →
        s.dispatchWaiters = e.tag :: rest → e ∈ s.entries → e.outcome = some x → toDispatch →
        Becomes o (turned .signature (retires e x freed)))
    ∧ (∀ (e : Entry), s.dispatchWaiters = [e.tag] → Retries e → s.signatureWaits = false →
        Becomes o (retries e freed))
    ∧ (∀ (e y : Entry) (rest : List Half) (x : FixedOutcome), s.excitationOk = true →
        s.dispatchWaiters = e.tag :: y.tag :: rest → Retries e → y ∈ s.entries → y.outcome = some x →
        toDispatch → Becomes o (turned .signature (retires y x (retries e freed))))
    ∧ (∀ before d after, Oldest before d after → toSignature →
        Becomes o (turned .dispatch (expires before d after freed)))
    ∧ (∀ (e : Entry) before d after, s.dispatchWaiters = [e.tag] → Retries e → Oldest before d after →
        s.reports.turn = .dispatch → Becomes o (turned .dispatch (expires before d after (retries e freed))))
    ∧ (∀ (before : List DeferredEntry) (d : DeferredEntry) (passed rest : List DeferredEntry) (ref : Nat)
        (mark : Bool),
        s.sigs.scan = { scanning := true, position := some before.length, rescan := mark, paused := true } →
        s.sigs.deferred = before ++ d :: (passed ++ rest) → (∀ x ∈ s.sigs.deferred, x.expired = false) →
        (s.signature d.net).reference = some ref →
        (∀ x ∈ passed, (s.signature x.net).reference = none) → left.length = 31 → toSignature →
        let v := judgeSignature d.value ref d.tolerance
        let place := before.length + passed.length
        let judged (scan : Scan) : State :=
          let placed : State := { freed with sigs := { u.sigs with
              deferred := before ++ passed ++ rest
              scan := scan } }.withReport (deferredReport d v u.tb.microseconds) false
          turned .dispatch (if d.panel = s.board.panelSequence then raiseNet d.slot (some d.net) v placed
            else placed)
        (rest = [] → Becomes o (judged (Scan.movedTo place place mark)))
        ∧ (∀ next more, rest = next :: more → (s.signature next.net).reference ≠ none →
            Becomes o (judged
              { scanning := true, position := some place, rescan := mark, paused := true })))

/-- The report named for transmission is the eligible entry nearest the head: it is neither HELD nor in transmission, every
older entry is HELD, and each of these is of another slot or is passed by a RESOLVED report (R155, R156). -/
def Obligations.ReportEligibility : Prop :=
  let Eligible (older : List ReportEntry) (e : ReportEntry) : Prop :=
    e.held = false ∧ e.inTransmission = false
      ∧ ∀ o ∈ older, o.held = true ∧ (o.report.slot ≠ e.report.slot ∨ e.report.kind = .resolved)
  ∀ queue : List ReportEntry,
    (∀ e, firstEligible [] queue = some e ↔
      ∃ older younger, queue = older ++ e :: younger ∧ Eligible older e
        ∧ ∀ o1 x o2, older = o1 ++ x :: o2 → ¬Eligible o1 x)
    ∧ (firstEligible [] queue = none ↔
        ∀ older e younger, queue = older ++ e :: younger → ¬Eligible older e)

/-- The idle transmitter begins the ready frame of the highest kind: the REPLY of the oldest frame that has its answer, then
an ATTN, then the REPORT of the eligible entry nearest the head, then a RAW fragment; a busy one begins nothing (R156,
R162, R163, R177). That is what the end of every event does, once the ATTN notice has become ready where a notifiable event
waits with the latch clear and no notice ready (R177): so every command leaves a part that runs with no frame ready for an
idle transmitter, and with the latch set or the notice ready where a notifiable event waits. A REPLY has the sequence of the
frame it answers, a REPORT the report sequence, an ATTN and a RAW frame 0 (R164); the bytes of the payloads and the numbers
of the reply codes are spelled out in FramesAreReadBack (R166, R179). -/
def Obligations.UpstreamPriority : Prop :=
  (∀ s : State, s.resetLow = false →
    let t := upstreamChoice s
    let sending (f : UpFrame) : State := { s with link := { s.link with transmitting := some f } }
    let replyReady := ∃ r rest code data, s.link.replies = r :: rest ∧ r.answer = .given code data
    (∀ f, s.link.transmitting = some f → t = s)
    ∧ (s.link.transmitting = none →
        (∀ r rest code data, s.link.replies = r :: rest → r.answer = .given code data →
          t = sending { kind := .reply, seq := r.seq, payload := r.kind :: byte code.number :: data })
        ∧ (¬replyReady → s.events.notice = true →
          t.link.transmitting = some { kind := .attn, seq := 0, payload :=
              [byte s.events.queue.length, byte (if s.events.overflow then 1 else 0)] }
          ∧ t.events = { s.events with latch := true, notice := false }
          ∧ t.link = { s.link with transmitting := t.link.transmitting }
          ∧ SameBut [.link, .events] s t)
        ∧ (¬replyReady → s.events.notice = false →
          (∀ e, firstEligible [] s.reports.queue = some e →
            t.link.transmitting = some { kind := .report, seq := s.reports.sequence,
                                         payload := reportPayload e.report }
            ∧ t.reports.sequence = s.reports.sequence + 1
            ∧ t.reports.queue = s.reports.queue.map (fun x =>
                if x.id = e.id then { x with inTransmission := true } else x)
            ∧ t.reports.turn = s.reports.turn ∧ t.reports.nextId = s.reports.nextId
            ∧ t.link = { s.link with transmitting := t.link.transmitting }
            ∧ SameBut [.reports, .link] s t)
          ∧ (firstEligible [] s.reports.queue = none →
            (∀ c rest, s.raw = c :: rest →
              t = sending { kind := .raw, seq := 0, payload := rawPayload c })
            ∧ (s.raw = [] → t = s)))))
  ∧ (∀ s : State, conclude s = upstreamChoice (raiseNotice s))
  ∧ (∀ s : State,
      let waits := s.events.queue.any (fun r => r.urgent || !s.events.delay) = true
      (waits → s.events.latch = false → s.events.notice = false →
        raiseNotice s = { s with events := { s.events with notice := true } })
      ∧ (¬(waits ∧ s.events.latch = false ∧ s.events.notice = false) → raiseNotice s = s))
  ∧ ∀ (c : Instr) (s t : State), exec c s = .next t → t.resetLow = false →
      (s.resetLow = true ∨ ∀ dt, c ≠ .resetPinRelease dt) →
      ((∃ r ∈ t.events.queue, r.urgent = true ∨ t.events.delay = false) →
        t.events.latch = true ∨ t.events.notice = true)
      ∧ (t.link.transmitting = none →
          (∀ r rest, t.link.replies = r :: rest → ∃ slot net, r.answer = .waitingGroup slot net)
          ∧ t.events.notice = false ∧ firstEligible [] t.reports.queue = none ∧ t.raw = [])

/-! ### Invariants -/

/-- Every step keeps the Outstanding Table within 16 dispatches, 4 of one lane, and one of each tag (R22). -/
def Obligations.StepKeepsOutstandingTable : Prop :=
  ∀ s t : State, s.outstandingOk = true → step s = .next t → t.outstandingOk = true

/-- Every step keeps the queues within their capacities and the counters and settings within their ranges (R45, R65, R101,
R118, R123, R146, R153, R165, R168, R176). -/
def Obligations.StepKeepsCapacitiesAndRanges : Prop :=
  ∀ s t : State, s.queuesOk = true → s.rangesOk = true → step s = .next t →
    t.queuesOk = true ∧ t.rangesOk = true

/-- Every step keeps the sparse tables in their canonical form. The form is the model's (notes/assumptions/13.md). -/
def Obligations.StepKeepsCanonicalTables : Prop :=
  ∀ s t : State, s.canonical = true → step s = .next t → t.canonical = true

/-- Every step keeps the agreement of the generators with the Outstanding Table: a generator's user count is the number of
entries attached to it, a generator with users is RUNNING, a target is present exactly while RETUNING, and an attached
entry is FORWARDED or JUDGING with no outcome fixed (R136, R138). -/
def Obligations.StepKeepsAttachments : Prop :=
  ∀ s t : State, s.excitationOk = true → step s = .next t → t.excitationOk = true

/-- The state right after power-on has every invariant that the steps keep. -/
def Obligations.ResetHasInvariants : Prop :=
  State.reset.outstandingOk = true ∧ State.reset.queuesOk = true ∧ State.reset.rangesOk = true
    ∧ State.reset.canonical = true ∧ State.reset.excitationOk = true
end

