-- ==== Sys2Proof/Laws/State.lean ====
section
/-! SUPPORT. What each plain update of the state leaves alone: one lemma for each field and update, true by `rfl`. -/

namespace Sys2Proof.Machine

@[simp] theorem State.modifyEntry_pending (tag : Half) (f : Entry → Entry) (s : State) :
    (s.modifyEntry tag f).pending = s.pending := rfl
@[simp] theorem State.modifyEntry_resetLow (tag : Half) (f : Entry → Entry) (s : State) :
    (s.modifyEntry tag f).resetLow = s.resetLow := rfl
@[simp] theorem State.modifyEntry_tables (tag : Half) (f : Entry → Entry) (s : State) :
    (s.modifyEntry tag f).tables = s.tables := rfl
@[simp] theorem State.modifyEntry_board (tag : Half) (f : Entry → Entry) (s : State) :
    (s.modifyEntry tag f).board = s.board := rfl
@[simp] theorem State.modifyEntry_lanes (tag : Half) (f : Entry → Entry) (s : State) :
    (s.modifyEntry tag f).lanes = s.lanes := rfl
@[simp] theorem State.modifyEntry_reductions (tag : Half) (f : Entry → Entry) (s : State) :
    (s.modifyEntry tag f).reductions = s.reductions := rfl
@[simp] theorem State.modifyEntry_raw (tag : Half) (f : Entry → Entry) (s : State) :
    (s.modifyEntry tag f).raw = s.raw := rfl
@[simp] theorem State.modifyEntry_netStates (tag : Half) (f : Entry → Entry) (s : State) :
    (s.modifyEntry tag f).netStates = s.netStates := rfl
@[simp] theorem State.modifyEntry_groups (tag : Half) (f : Entry → Entry) (s : State) :
    (s.modifyEntry tag f).groups = s.groups := rfl
@[simp] theorem State.modifyEntry_sigs (tag : Half) (f : Entry → Entry) (s : State) :
    (s.modifyEntry tag f).sigs = s.sigs := rfl
@[simp] theorem State.modifyEntry_gens (tag : Half) (f : Entry → Entry) (s : State) :
    (s.modifyEntry tag f).gens = s.gens := rfl
@[simp] theorem State.modifyEntry_tb (tag : Half) (f : Entry → Entry) (s : State) :
    (s.modifyEntry tag f).tb = s.tb := rfl
@[simp] theorem State.modifyEntry_reports (tag : Half) (f : Entry → Entry) (s : State) :
    (s.modifyEntry tag f).reports = s.reports := rfl
@[simp] theorem State.modifyEntry_link (tag : Half) (f : Entry → Entry) (s : State) :
    (s.modifyEntry tag f).link = s.link := rfl
@[simp] theorem State.modifyEntry_events (tag : Half) (f : Entry → Entry) (s : State) :
    (s.modifyEntry tag f).events = s.events := rfl
@[simp] theorem State.removeEntry_pending (tag : Half) (s : State) :
    (s.removeEntry tag).pending = s.pending := rfl
@[simp] theorem State.removeEntry_resetLow (tag : Half) (s : State) :
    (s.removeEntry tag).resetLow = s.resetLow := rfl
@[simp] theorem State.removeEntry_tables (tag : Half) (s : State) :
    (s.removeEntry tag).tables = s.tables := rfl
@[simp] theorem State.removeEntry_board (tag : Half) (s : State) :
    (s.removeEntry tag).board = s.board := rfl
@[simp] theorem State.removeEntry_lanes (tag : Half) (s : State) :
    (s.removeEntry tag).lanes = s.lanes := rfl
@[simp] theorem State.removeEntry_reductions (tag : Half) (s : State) :
    (s.removeEntry tag).reductions = s.reductions := rfl
@[simp] theorem State.removeEntry_raw (tag : Half) (s : State) :
    (s.removeEntry tag).raw = s.raw := rfl
@[simp] theorem State.removeEntry_netStates (tag : Half) (s : State) :
    (s.removeEntry tag).netStates = s.netStates := rfl
@[simp] theorem State.removeEntry_groups (tag : Half) (s : State) :
    (s.removeEntry tag).groups = s.groups := rfl
@[simp] theorem State.removeEntry_sigs (tag : Half) (s : State) :
    (s.removeEntry tag).sigs = s.sigs := rfl
@[simp] theorem State.removeEntry_gens (tag : Half) (s : State) :
    (s.removeEntry tag).gens = s.gens := rfl
@[simp] theorem State.removeEntry_tb (tag : Half) (s : State) :
    (s.removeEntry tag).tb = s.tb := rfl
@[simp] theorem State.removeEntry_reports (tag : Half) (s : State) :
    (s.removeEntry tag).reports = s.reports := rfl
@[simp] theorem State.removeEntry_link (tag : Half) (s : State) :
    (s.removeEntry tag).link = s.link := rfl
@[simp] theorem State.removeEntry_events (tag : Half) (s : State) :
    (s.removeEntry tag).events = s.events := rfl
@[simp] theorem State.modifyLane_pending (n : LaneId) (f : Lane → Lane) (s : State) :
    (s.modifyLane n f).pending = s.pending := rfl
@[simp] theorem State.modifyLane_resetLow (n : LaneId) (f : Lane → Lane) (s : State) :
    (s.modifyLane n f).resetLow = s.resetLow := rfl
@[simp] theorem State.modifyLane_tables (n : LaneId) (f : Lane → Lane) (s : State) :
    (s.modifyLane n f).tables = s.tables := rfl
@[simp] theorem State.modifyLane_board (n : LaneId) (f : Lane → Lane) (s : State) :
    (s.modifyLane n f).board = s.board := rfl
@[simp] theorem State.modifyLane_entries (n : LaneId) (f : Lane → Lane) (s : State) :
    (s.modifyLane n f).entries = s.entries := rfl
@[simp] theorem State.modifyLane_reductions (n : LaneId) (f : Lane → Lane) (s : State) :
    (s.modifyLane n f).reductions = s.reductions := rfl
@[simp] theorem State.modifyLane_raw (n : LaneId) (f : Lane → Lane) (s : State) :
    (s.modifyLane n f).raw = s.raw := rfl
@[simp] theorem State.modifyLane_netStates (n : LaneId) (f : Lane → Lane) (s : State) :
    (s.modifyLane n f).netStates = s.netStates := rfl
@[simp] theorem State.modifyLane_groups (n : LaneId) (f : Lane → Lane) (s : State) :
    (s.modifyLane n f).groups = s.groups := rfl
@[simp] theorem State.modifyLane_sigs (n : LaneId) (f : Lane → Lane) (s : State) :
    (s.modifyLane n f).sigs = s.sigs := rfl
@[simp] theorem State.modifyLane_gens (n : LaneId) (f : Lane → Lane) (s : State) :
    (s.modifyLane n f).gens = s.gens := rfl
@[simp] theorem State.modifyLane_tb (n : LaneId) (f : Lane → Lane) (s : State) :
    (s.modifyLane n f).tb = s.tb := rfl
@[simp] theorem State.modifyLane_reports (n : LaneId) (f : Lane → Lane) (s : State) :
    (s.modifyLane n f).reports = s.reports := rfl
@[simp] theorem State.modifyLane_link (n : LaneId) (f : Lane → Lane) (s : State) :
    (s.modifyLane n f).link = s.link := rfl
@[simp] theorem State.modifyLane_events (n : LaneId) (f : Lane → Lane) (s : State) :
    (s.modifyLane n f).events = s.events := rfl
@[simp] theorem State.setReduction_pending (n : LaneId) (r : Option Reduction) (s : State) :
    (s.setReduction n r).pending = s.pending := rfl
@[simp] theorem State.setReduction_resetLow (n : LaneId) (r : Option Reduction) (s : State) :
    (s.setReduction n r).resetLow = s.resetLow := rfl
@[simp] theorem State.setReduction_tables (n : LaneId) (r : Option Reduction) (s : State) :
    (s.setReduction n r).tables = s.tables := rfl
@[simp] theorem State.setReduction_board (n : LaneId) (r : Option Reduction) (s : State) :
    (s.setReduction n r).board = s.board := rfl
@[simp] theorem State.setReduction_entries (n : LaneId) (r : Option Reduction) (s : State) :
    (s.setReduction n r).entries = s.entries := rfl
@[simp] theorem State.setReduction_lanes (n : LaneId) (r : Option Reduction) (s : State) :
    (s.setReduction n r).lanes = s.lanes := rfl
@[simp] theorem State.setReduction_raw (n : LaneId) (r : Option Reduction) (s : State) :
    (s.setReduction n r).raw = s.raw := rfl
@[simp] theorem State.setReduction_netStates (n : LaneId) (r : Option Reduction) (s : State) :
    (s.setReduction n r).netStates = s.netStates := rfl
@[simp] theorem State.setReduction_groups (n : LaneId) (r : Option Reduction) (s : State) :
    (s.setReduction n r).groups = s.groups := rfl
@[simp] theorem State.setReduction_sigs (n : LaneId) (r : Option Reduction) (s : State) :
    (s.setReduction n r).sigs = s.sigs := rfl
@[simp] theorem State.setReduction_gens (n : LaneId) (r : Option Reduction) (s : State) :
    (s.setReduction n r).gens = s.gens := rfl
@[simp] theorem State.setReduction_tb (n : LaneId) (r : Option Reduction) (s : State) :
    (s.setReduction n r).tb = s.tb := rfl
@[simp] theorem State.setReduction_reports (n : LaneId) (r : Option Reduction) (s : State) :
    (s.setReduction n r).reports = s.reports := rfl
@[simp] theorem State.setReduction_link (n : LaneId) (r : Option Reduction) (s : State) :
    (s.setReduction n r).link = s.link := rfl
@[simp] theorem State.setReduction_events (n : LaneId) (r : Option Reduction) (s : State) :
    (s.setReduction n r).events = s.events := rfl
@[simp] theorem State.modifyGen_pending (g : GenId) (f : Generator → Generator) (s : State) :
    (s.modifyGen g f).pending = s.pending := rfl
@[simp] theorem State.modifyGen_resetLow (g : GenId) (f : Generator → Generator) (s : State) :
    (s.modifyGen g f).resetLow = s.resetLow := rfl
@[simp] theorem State.modifyGen_tables (g : GenId) (f : Generator → Generator) (s : State) :
    (s.modifyGen g f).tables = s.tables := rfl
@[simp] theorem State.modifyGen_board (g : GenId) (f : Generator → Generator) (s : State) :
    (s.modifyGen g f).board = s.board := rfl
@[simp] theorem State.modifyGen_entries (g : GenId) (f : Generator → Generator) (s : State) :
    (s.modifyGen g f).entries = s.entries := rfl
@[simp] theorem State.modifyGen_lanes (g : GenId) (f : Generator → Generator) (s : State) :
    (s.modifyGen g f).lanes = s.lanes := rfl
@[simp] theorem State.modifyGen_reductions (g : GenId) (f : Generator → Generator) (s : State) :
    (s.modifyGen g f).reductions = s.reductions := rfl
@[simp] theorem State.modifyGen_raw (g : GenId) (f : Generator → Generator) (s : State) :
    (s.modifyGen g f).raw = s.raw := rfl
@[simp] theorem State.modifyGen_netStates (g : GenId) (f : Generator → Generator) (s : State) :
    (s.modifyGen g f).netStates = s.netStates := rfl
@[simp] theorem State.modifyGen_groups (g : GenId) (f : Generator → Generator) (s : State) :
    (s.modifyGen g f).groups = s.groups := rfl
@[simp] theorem State.modifyGen_sigs (g : GenId) (f : Generator → Generator) (s : State) :
    (s.modifyGen g f).sigs = s.sigs := rfl
@[simp] theorem State.modifyGen_tb (g : GenId) (f : Generator → Generator) (s : State) :
    (s.modifyGen g f).tb = s.tb := rfl
@[simp] theorem State.modifyGen_reports (g : GenId) (f : Generator → Generator) (s : State) :
    (s.modifyGen g f).reports = s.reports := rfl
@[simp] theorem State.modifyGen_link (g : GenId) (f : Generator → Generator) (s : State) :
    (s.modifyGen g f).link = s.link := rfl
@[simp] theorem State.modifyGen_events (g : GenId) (f : Generator → Generator) (s : State) :
    (s.modifyGen g f).events = s.events := rfl
@[simp] theorem State.modifyNet_pending (slot net : Nat) (f : NetState → NetState) (s : State) :
    (s.modifyNet slot net f).pending = s.pending := rfl
@[simp] theorem State.modifyNet_resetLow (slot net : Nat) (f : NetState → NetState) (s : State) :
    (s.modifyNet slot net f).resetLow = s.resetLow := rfl
@[simp] theorem State.modifyNet_tables (slot net : Nat) (f : NetState → NetState) (s : State) :
    (s.modifyNet slot net f).tables = s.tables := rfl
@[simp] theorem State.modifyNet_board (slot net : Nat) (f : NetState → NetState) (s : State) :
    (s.modifyNet slot net f).board = s.board := rfl
@[simp] theorem State.modifyNet_entries (slot net : Nat) (f : NetState → NetState) (s : State) :
    (s.modifyNet slot net f).entries = s.entries := rfl
@[simp] theorem State.modifyNet_lanes (slot net : Nat) (f : NetState → NetState) (s : State) :
    (s.modifyNet slot net f).lanes = s.lanes := rfl
@[simp] theorem State.modifyNet_reductions (slot net : Nat) (f : NetState → NetState) (s : State) :
    (s.modifyNet slot net f).reductions = s.reductions := rfl
@[simp] theorem State.modifyNet_raw (slot net : Nat) (f : NetState → NetState) (s : State) :
    (s.modifyNet slot net f).raw = s.raw := rfl
@[simp] theorem State.modifyNet_groups (slot net : Nat) (f : NetState → NetState) (s : State) :
    (s.modifyNet slot net f).groups = s.groups := rfl
@[simp] theorem State.modifyNet_sigs (slot net : Nat) (f : NetState → NetState) (s : State) :
    (s.modifyNet slot net f).sigs = s.sigs := rfl
@[simp] theorem State.modifyNet_gens (slot net : Nat) (f : NetState → NetState) (s : State) :
    (s.modifyNet slot net f).gens = s.gens := rfl
@[simp] theorem State.modifyNet_tb (slot net : Nat) (f : NetState → NetState) (s : State) :
    (s.modifyNet slot net f).tb = s.tb := rfl
@[simp] theorem State.modifyNet_reports (slot net : Nat) (f : NetState → NetState) (s : State) :
    (s.modifyNet slot net f).reports = s.reports := rfl
@[simp] theorem State.modifyNet_link (slot net : Nat) (f : NetState → NetState) (s : State) :
    (s.modifyNet slot net f).link = s.link := rfl
@[simp] theorem State.modifyNet_events (slot net : Nat) (f : NetState → NetState) (s : State) :
    (s.modifyNet slot net f).events = s.events := rfl
@[simp] theorem State.setSignature_pending (net : Nat) (x : NetSignature) (s : State) :
    (s.setSignature net x).pending = s.pending := rfl
@[simp] theorem State.setSignature_resetLow (net : Nat) (x : NetSignature) (s : State) :
    (s.setSignature net x).resetLow = s.resetLow := rfl
@[simp] theorem State.setSignature_tables (net : Nat) (x : NetSignature) (s : State) :
    (s.setSignature net x).tables = s.tables := rfl
@[simp] theorem State.setSignature_board (net : Nat) (x : NetSignature) (s : State) :
    (s.setSignature net x).board = s.board := rfl
@[simp] theorem State.setSignature_entries (net : Nat) (x : NetSignature) (s : State) :
    (s.setSignature net x).entries = s.entries := rfl
@[simp] theorem State.setSignature_lanes (net : Nat) (x : NetSignature) (s : State) :
    (s.setSignature net x).lanes = s.lanes := rfl
@[simp] theorem State.setSignature_reductions (net : Nat) (x : NetSignature) (s : State) :
    (s.setSignature net x).reductions = s.reductions := rfl
@[simp] theorem State.setSignature_raw (net : Nat) (x : NetSignature) (s : State) :
    (s.setSignature net x).raw = s.raw := rfl
@[simp] theorem State.setSignature_netStates (net : Nat) (x : NetSignature) (s : State) :
    (s.setSignature net x).netStates = s.netStates := rfl
@[simp] theorem State.setSignature_groups (net : Nat) (x : NetSignature) (s : State) :
    (s.setSignature net x).groups = s.groups := rfl
@[simp] theorem State.setSignature_gens (net : Nat) (x : NetSignature) (s : State) :
    (s.setSignature net x).gens = s.gens := rfl
@[simp] theorem State.setSignature_tb (net : Nat) (x : NetSignature) (s : State) :
    (s.setSignature net x).tb = s.tb := rfl
@[simp] theorem State.setSignature_reports (net : Nat) (x : NetSignature) (s : State) :
    (s.setSignature net x).reports = s.reports := rfl
@[simp] theorem State.setSignature_link (net : Nat) (x : NetSignature) (s : State) :
    (s.setSignature net x).link = s.link := rfl
@[simp] theorem State.setSignature_events (net : Nat) (x : NetSignature) (s : State) :
    (s.setSignature net x).events = s.events := rfl
@[simp] theorem State.setOffset_pending (n : LaneId) (range : Nat) (z : Offset) (s : State) :
    (s.setOffset n range z).pending = s.pending := rfl
@[simp] theorem State.setOffset_resetLow (n : LaneId) (range : Nat) (z : Offset) (s : State) :
    (s.setOffset n range z).resetLow = s.resetLow := rfl
@[simp] theorem State.setOffset_board (n : LaneId) (range : Nat) (z : Offset) (s : State) :
    (s.setOffset n range z).board = s.board := rfl
@[simp] theorem State.setOffset_entries (n : LaneId) (range : Nat) (z : Offset) (s : State) :
    (s.setOffset n range z).entries = s.entries := rfl
@[simp] theorem State.setOffset_lanes (n : LaneId) (range : Nat) (z : Offset) (s : State) :
    (s.setOffset n range z).lanes = s.lanes := rfl
@[simp] theorem State.setOffset_reductions (n : LaneId) (range : Nat) (z : Offset) (s : State) :
    (s.setOffset n range z).reductions = s.reductions := rfl
@[simp] theorem State.setOffset_raw (n : LaneId) (range : Nat) (z : Offset) (s : State) :
    (s.setOffset n range z).raw = s.raw := rfl
@[simp] theorem State.setOffset_netStates (n : LaneId) (range : Nat) (z : Offset) (s : State) :
    (s.setOffset n range z).netStates = s.netStates := rfl
@[simp] theorem State.setOffset_groups (n : LaneId) (range : Nat) (z : Offset) (s : State) :
    (s.setOffset n range z).groups = s.groups := rfl
@[simp] theorem State.setOffset_sigs (n : LaneId) (range : Nat) (z : Offset) (s : State) :
    (s.setOffset n range z).sigs = s.sigs := rfl
@[simp] theorem State.setOffset_gens (n : LaneId) (range : Nat) (z : Offset) (s : State) :
    (s.setOffset n range z).gens = s.gens := rfl
@[simp] theorem State.setOffset_tb (n : LaneId) (range : Nat) (z : Offset) (s : State) :
    (s.setOffset n range z).tb = s.tb := rfl
@[simp] theorem State.setOffset_reports (n : LaneId) (range : Nat) (z : Offset) (s : State) :
    (s.setOffset n range z).reports = s.reports := rfl
@[simp] theorem State.setOffset_link (n : LaneId) (range : Nat) (z : Offset) (s : State) :
    (s.setOffset n range z).link = s.link := rfl
@[simp] theorem State.setOffset_events (n : LaneId) (range : Nat) (z : Offset) (s : State) :
    (s.setOffset n range z).events = s.events := rfl
@[simp] theorem State.setScan_pending (x : Scan) (s : State) :
    (s.setScan x).pending = s.pending := rfl
@[simp] theorem State.setScan_resetLow (x : Scan) (s : State) :
    (s.setScan x).resetLow = s.resetLow := rfl
@[simp] theorem State.setScan_tables (x : Scan) (s : State) :
    (s.setScan x).tables = s.tables := rfl
@[simp] theorem State.setScan_board (x : Scan) (s : State) :
    (s.setScan x).board = s.board := rfl
@[simp] theorem State.setScan_entries (x : Scan) (s : State) :
    (s.setScan x).entries = s.entries := rfl
@[simp] theorem State.setScan_lanes (x : Scan) (s : State) :
    (s.setScan x).lanes = s.lanes := rfl
@[simp] theorem State.setScan_reductions (x : Scan) (s : State) :
    (s.setScan x).reductions = s.reductions := rfl
@[simp] theorem State.setScan_raw (x : Scan) (s : State) :
    (s.setScan x).raw = s.raw := rfl
@[simp] theorem State.setScan_netStates (x : Scan) (s : State) :
    (s.setScan x).netStates = s.netStates := rfl
@[simp] theorem State.setScan_groups (x : Scan) (s : State) :
    (s.setScan x).groups = s.groups := rfl
@[simp] theorem State.setScan_gens (x : Scan) (s : State) :
    (s.setScan x).gens = s.gens := rfl
@[simp] theorem State.setScan_tb (x : Scan) (s : State) :
    (s.setScan x).tb = s.tb := rfl
@[simp] theorem State.setScan_reports (x : Scan) (s : State) :
    (s.setScan x).reports = s.reports := rfl
@[simp] theorem State.setScan_link (x : Scan) (s : State) :
    (s.setScan x).link = s.link := rfl
@[simp] theorem State.setScan_events (x : Scan) (s : State) :
    (s.setScan x).events = s.events := rfl
@[simp] theorem transmit_pending (f : UpFrame) (s : State) :
    (transmit f s).pending = s.pending := rfl
@[simp] theorem transmit_resetLow (f : UpFrame) (s : State) :
    (transmit f s).resetLow = s.resetLow := rfl
@[simp] theorem transmit_tables (f : UpFrame) (s : State) :
    (transmit f s).tables = s.tables := rfl
@[simp] theorem transmit_board (f : UpFrame) (s : State) :
    (transmit f s).board = s.board := rfl
@[simp] theorem transmit_entries (f : UpFrame) (s : State) :
    (transmit f s).entries = s.entries := rfl
@[simp] theorem transmit_lanes (f : UpFrame) (s : State) :
    (transmit f s).lanes = s.lanes := rfl
@[simp] theorem transmit_reductions (f : UpFrame) (s : State) :
    (transmit f s).reductions = s.reductions := rfl
@[simp] theorem transmit_raw (f : UpFrame) (s : State) :
    (transmit f s).raw = s.raw := rfl
@[simp] theorem transmit_netStates (f : UpFrame) (s : State) :
    (transmit f s).netStates = s.netStates := rfl
@[simp] theorem transmit_groups (f : UpFrame) (s : State) :
    (transmit f s).groups = s.groups := rfl
@[simp] theorem transmit_sigs (f : UpFrame) (s : State) :
    (transmit f s).sigs = s.sigs := rfl
@[simp] theorem transmit_gens (f : UpFrame) (s : State) :
    (transmit f s).gens = s.gens := rfl
@[simp] theorem transmit_tb (f : UpFrame) (s : State) :
    (transmit f s).tb = s.tb := rfl
@[simp] theorem transmit_reports (f : UpFrame) (s : State) :
    (transmit f s).reports = s.reports := rfl
@[simp] theorem transmit_events (f : UpFrame) (s : State) :
    (transmit f s).events = s.events := rfl
@[simp] theorem enterReply_pending (kind seq : Byte) (a : Answer) (s : State) :
    (enterReply kind seq a s).pending = s.pending := rfl
@[simp] theorem enterReply_resetLow (kind seq : Byte) (a : Answer) (s : State) :
    (enterReply kind seq a s).resetLow = s.resetLow := rfl
@[simp] theorem enterReply_tables (kind seq : Byte) (a : Answer) (s : State) :
    (enterReply kind seq a s).tables = s.tables := rfl
@[simp] theorem enterReply_board (kind seq : Byte) (a : Answer) (s : State) :
    (enterReply kind seq a s).board = s.board := rfl
@[simp] theorem enterReply_entries (kind seq : Byte) (a : Answer) (s : State) :
    (enterReply kind seq a s).entries = s.entries := rfl
@[simp] theorem enterReply_lanes (kind seq : Byte) (a : Answer) (s : State) :
    (enterReply kind seq a s).lanes = s.lanes := rfl
@[simp] theorem enterReply_reductions (kind seq : Byte) (a : Answer) (s : State) :
    (enterReply kind seq a s).reductions = s.reductions := rfl
@[simp] theorem enterReply_raw (kind seq : Byte) (a : Answer) (s : State) :
    (enterReply kind seq a s).raw = s.raw := rfl
@[simp] theorem enterReply_netStates (kind seq : Byte) (a : Answer) (s : State) :
    (enterReply kind seq a s).netStates = s.netStates := rfl
@[simp] theorem enterReply_groups (kind seq : Byte) (a : Answer) (s : State) :
    (enterReply kind seq a s).groups = s.groups := rfl
@[simp] theorem enterReply_sigs (kind seq : Byte) (a : Answer) (s : State) :
    (enterReply kind seq a s).sigs = s.sigs := rfl
@[simp] theorem enterReply_gens (kind seq : Byte) (a : Answer) (s : State) :
    (enterReply kind seq a s).gens = s.gens := rfl
@[simp] theorem enterReply_tb (kind seq : Byte) (a : Answer) (s : State) :
    (enterReply kind seq a s).tb = s.tb := rfl
@[simp] theorem enterReply_reports (kind seq : Byte) (a : Answer) (s : State) :
    (enterReply kind seq a s).reports = s.reports := rfl
@[simp] theorem enterReply_events (kind seq : Byte) (a : Answer) (s : State) :
    (enterReply kind seq a s).events = s.events := rfl
@[simp] theorem countLinkError_pending (s : State) :
    (countLinkError s).pending = s.pending := rfl
@[simp] theorem countLinkError_resetLow (s : State) :
    (countLinkError s).resetLow = s.resetLow := rfl
@[simp] theorem countLinkError_tables (s : State) :
    (countLinkError s).tables = s.tables := rfl
@[simp] theorem countLinkError_board (s : State) :
    (countLinkError s).board = s.board := rfl
@[simp] theorem countLinkError_entries (s : State) :
    (countLinkError s).entries = s.entries := rfl
@[simp] theorem countLinkError_lanes (s : State) :
    (countLinkError s).lanes = s.lanes := rfl
@[simp] theorem countLinkError_reductions (s : State) :
    (countLinkError s).reductions = s.reductions := rfl
@[simp] theorem countLinkError_raw (s : State) :
    (countLinkError s).raw = s.raw := rfl
@[simp] theorem countLinkError_netStates (s : State) :
    (countLinkError s).netStates = s.netStates := rfl
@[simp] theorem countLinkError_groups (s : State) :
    (countLinkError s).groups = s.groups := rfl
@[simp] theorem countLinkError_sigs (s : State) :
    (countLinkError s).sigs = s.sigs := rfl
@[simp] theorem countLinkError_gens (s : State) :
    (countLinkError s).gens = s.gens := rfl
@[simp] theorem countLinkError_tb (s : State) :
    (countLinkError s).tb = s.tb := rfl
@[simp] theorem countLinkError_reports (s : State) :
    (countLinkError s).reports = s.reports := rfl
@[simp] theorem countLinkError_events (s : State) :
    (countLinkError s).events = s.events := rfl
@[simp] theorem placeReport_pending (r : Report) (held : Bool) (s : State) :
    (placeReport r held s).pending = s.pending := rfl
@[simp] theorem placeReport_resetLow (r : Report) (held : Bool) (s : State) :
    (placeReport r held s).resetLow = s.resetLow := rfl
@[simp] theorem placeReport_tables (r : Report) (held : Bool) (s : State) :
    (placeReport r held s).tables = s.tables := rfl
@[simp] theorem placeReport_board (r : Report) (held : Bool) (s : State) :
    (placeReport r held s).board = s.board := rfl
@[simp] theorem placeReport_entries (r : Report) (held : Bool) (s : State) :
    (placeReport r held s).entries = s.entries := rfl
@[simp] theorem placeReport_lanes (r : Report) (held : Bool) (s : State) :
    (placeReport r held s).lanes = s.lanes := rfl
@[simp] theorem placeReport_reductions (r : Report) (held : Bool) (s : State) :
    (placeReport r held s).reductions = s.reductions := rfl
@[simp] theorem placeReport_raw (r : Report) (held : Bool) (s : State) :
    (placeReport r held s).raw = s.raw := rfl
@[simp] theorem placeReport_netStates (r : Report) (held : Bool) (s : State) :
    (placeReport r held s).netStates = s.netStates := rfl
@[simp] theorem placeReport_groups (r : Report) (held : Bool) (s : State) :
    (placeReport r held s).groups = s.groups := rfl
@[simp] theorem placeReport_sigs (r : Report) (held : Bool) (s : State) :
    (placeReport r held s).sigs = s.sigs := rfl
@[simp] theorem placeReport_gens (r : Report) (held : Bool) (s : State) :
    (placeReport r held s).gens = s.gens := rfl
@[simp] theorem placeReport_tb (r : Report) (held : Bool) (s : State) :
    (placeReport r held s).tb = s.tb := rfl
@[simp] theorem placeReport_link (r : Report) (held : Bool) (s : State) :
    (placeReport r held s).link = s.link := rfl
@[simp] theorem placeReport_events (r : Report) (held : Bool) (s : State) :
    (placeReport r held s).events = s.events := rfl
@[simp] theorem releaseReport_pending (id : Nat) (l : GroupLeader) (s : State) :
    (releaseReport id l s).pending = s.pending := rfl
@[simp] theorem releaseReport_resetLow (id : Nat) (l : GroupLeader) (s : State) :
    (releaseReport id l s).resetLow = s.resetLow := rfl
@[simp] theorem releaseReport_tables (id : Nat) (l : GroupLeader) (s : State) :
    (releaseReport id l s).tables = s.tables := rfl
@[simp] theorem releaseReport_board (id : Nat) (l : GroupLeader) (s : State) :
    (releaseReport id l s).board = s.board := rfl
@[simp] theorem releaseReport_entries (id : Nat) (l : GroupLeader) (s : State) :
    (releaseReport id l s).entries = s.entries := rfl
@[simp] theorem releaseReport_lanes (id : Nat) (l : GroupLeader) (s : State) :
    (releaseReport id l s).lanes = s.lanes := rfl
@[simp] theorem releaseReport_reductions (id : Nat) (l : GroupLeader) (s : State) :
    (releaseReport id l s).reductions = s.reductions := rfl
@[simp] theorem releaseReport_raw (id : Nat) (l : GroupLeader) (s : State) :
    (releaseReport id l s).raw = s.raw := rfl
@[simp] theorem releaseReport_netStates (id : Nat) (l : GroupLeader) (s : State) :
    (releaseReport id l s).netStates = s.netStates := rfl
@[simp] theorem releaseReport_groups (id : Nat) (l : GroupLeader) (s : State) :
    (releaseReport id l s).groups = s.groups := rfl
@[simp] theorem releaseReport_sigs (id : Nat) (l : GroupLeader) (s : State) :
    (releaseReport id l s).sigs = s.sigs := rfl
@[simp] theorem releaseReport_gens (id : Nat) (l : GroupLeader) (s : State) :
    (releaseReport id l s).gens = s.gens := rfl
@[simp] theorem releaseReport_tb (id : Nat) (l : GroupLeader) (s : State) :
    (releaseReport id l s).tb = s.tb := rfl
@[simp] theorem releaseReport_link (id : Nat) (l : GroupLeader) (s : State) :
    (releaseReport id l s).link = s.link := rfl
@[simp] theorem releaseReport_events (id : Nat) (l : GroupLeader) (s : State) :
    (releaseReport id l s).events = s.events := rfl
@[simp] theorem setIncomplete_pending (slot : Nat) (s : State) :
    (setIncomplete slot s).pending = s.pending := rfl
@[simp] theorem setIncomplete_resetLow (slot : Nat) (s : State) :
    (setIncomplete slot s).resetLow = s.resetLow := rfl
@[simp] theorem setIncomplete_tables (slot : Nat) (s : State) :
    (setIncomplete slot s).tables = s.tables := rfl
@[simp] theorem setIncomplete_board (slot : Nat) (s : State) :
    (setIncomplete slot s).board = s.board := rfl
@[simp] theorem setIncomplete_entries (slot : Nat) (s : State) :
    (setIncomplete slot s).entries = s.entries := rfl
@[simp] theorem setIncomplete_lanes (slot : Nat) (s : State) :
    (setIncomplete slot s).lanes = s.lanes := rfl
@[simp] theorem setIncomplete_reductions (slot : Nat) (s : State) :
    (setIncomplete slot s).reductions = s.reductions := rfl
@[simp] theorem setIncomplete_raw (slot : Nat) (s : State) :
    (setIncomplete slot s).raw = s.raw := rfl
@[simp] theorem setIncomplete_netStates (slot : Nat) (s : State) :
    (setIncomplete slot s).netStates = s.netStates := rfl
@[simp] theorem setIncomplete_sigs (slot : Nat) (s : State) :
    (setIncomplete slot s).sigs = s.sigs := rfl
@[simp] theorem setIncomplete_gens (slot : Nat) (s : State) :
    (setIncomplete slot s).gens = s.gens := rfl
@[simp] theorem setIncomplete_tb (slot : Nat) (s : State) :
    (setIncomplete slot s).tb = s.tb := rfl
@[simp] theorem setIncomplete_reports (slot : Nat) (s : State) :
    (setIncomplete slot s).reports = s.reports := rfl
@[simp] theorem setIncomplete_link (slot : Nat) (s : State) :
    (setIncomplete slot s).link = s.link := rfl
@[simp] theorem setIncomplete_events (slot : Nat) (s : State) :
    (setIncomplete slot s).events = s.events := rfl
@[simp] theorem setTurn_pending (side : Side) (s : State) :
    (setTurn side s).pending = s.pending := rfl
@[simp] theorem setTurn_resetLow (side : Side) (s : State) :
    (setTurn side s).resetLow = s.resetLow := rfl
@[simp] theorem setTurn_tables (side : Side) (s : State) :
    (setTurn side s).tables = s.tables := rfl
@[simp] theorem setTurn_board (side : Side) (s : State) :
    (setTurn side s).board = s.board := rfl
@[simp] theorem setTurn_entries (side : Side) (s : State) :
    (setTurn side s).entries = s.entries := rfl
@[simp] theorem setTurn_lanes (side : Side) (s : State) :
    (setTurn side s).lanes = s.lanes := rfl
@[simp] theorem setTurn_reductions (side : Side) (s : State) :
    (setTurn side s).reductions = s.reductions := rfl
@[simp] theorem setTurn_raw (side : Side) (s : State) :
    (setTurn side s).raw = s.raw := rfl
@[simp] theorem setTurn_netStates (side : Side) (s : State) :
    (setTurn side s).netStates = s.netStates := rfl
@[simp] theorem setTurn_groups (side : Side) (s : State) :
    (setTurn side s).groups = s.groups := rfl
@[simp] theorem setTurn_sigs (side : Side) (s : State) :
    (setTurn side s).sigs = s.sigs := rfl
@[simp] theorem setTurn_gens (side : Side) (s : State) :
    (setTurn side s).gens = s.gens := rfl
@[simp] theorem setTurn_tb (side : Side) (s : State) :
    (setTurn side s).tb = s.tb := rfl
@[simp] theorem setTurn_link (side : Side) (s : State) :
    (setTurn side s).link = s.link := rfl
@[simp] theorem setTurn_events (side : Side) (s : State) :
    (setTurn side s).events = s.events := rfl
@[simp] theorem closeAttempt_pending (n : LaneId) (s : State) :
    (closeAttempt n s).pending = s.pending := rfl
@[simp] theorem closeAttempt_resetLow (n : LaneId) (s : State) :
    (closeAttempt n s).resetLow = s.resetLow := rfl
@[simp] theorem closeAttempt_tables (n : LaneId) (s : State) :
    (closeAttempt n s).tables = s.tables := rfl
@[simp] theorem closeAttempt_board (n : LaneId) (s : State) :
    (closeAttempt n s).board = s.board := rfl
@[simp] theorem closeAttempt_entries (n : LaneId) (s : State) :
    (closeAttempt n s).entries = s.entries := rfl
@[simp] theorem closeAttempt_reductions (n : LaneId) (s : State) :
    (closeAttempt n s).reductions = s.reductions := rfl
@[simp] theorem closeAttempt_raw (n : LaneId) (s : State) :
    (closeAttempt n s).raw = s.raw := rfl
@[simp] theorem closeAttempt_netStates (n : LaneId) (s : State) :
    (closeAttempt n s).netStates = s.netStates := rfl
@[simp] theorem closeAttempt_groups (n : LaneId) (s : State) :
    (closeAttempt n s).groups = s.groups := rfl
@[simp] theorem closeAttempt_sigs (n : LaneId) (s : State) :
    (closeAttempt n s).sigs = s.sigs := rfl
@[simp] theorem closeAttempt_gens (n : LaneId) (s : State) :
    (closeAttempt n s).gens = s.gens := rfl
@[simp] theorem closeAttempt_tb (n : LaneId) (s : State) :
    (closeAttempt n s).tb = s.tb := rfl
@[simp] theorem closeAttempt_reports (n : LaneId) (s : State) :
    (closeAttempt n s).reports = s.reports := rfl
@[simp] theorem closeAttempt_link (n : LaneId) (s : State) :
    (closeAttempt n s).link = s.link := rfl
@[simp] theorem closeAttempt_events (n : LaneId) (s : State) :
    (closeAttempt n s).events = s.events := rfl
@[simp] theorem discardTraining_pending (s : State) :
    (discardTraining s).pending = s.pending := rfl
@[simp] theorem discardTraining_resetLow (s : State) :
    (discardTraining s).resetLow = s.resetLow := rfl
@[simp] theorem discardTraining_tables (s : State) :
    (discardTraining s).tables = s.tables := rfl
@[simp] theorem discardTraining_board (s : State) :
    (discardTraining s).board = s.board := rfl
@[simp] theorem discardTraining_entries (s : State) :
    (discardTraining s).entries = s.entries := rfl
@[simp] theorem discardTraining_reductions (s : State) :
    (discardTraining s).reductions = s.reductions := rfl
@[simp] theorem discardTraining_raw (s : State) :
    (discardTraining s).raw = s.raw := rfl
@[simp] theorem discardTraining_netStates (s : State) :
    (discardTraining s).netStates = s.netStates := rfl
@[simp] theorem discardTraining_groups (s : State) :
    (discardTraining s).groups = s.groups := rfl
@[simp] theorem discardTraining_sigs (s : State) :
    (discardTraining s).sigs = s.sigs := rfl
@[simp] theorem discardTraining_gens (s : State) :
    (discardTraining s).gens = s.gens := rfl
@[simp] theorem discardTraining_tb (s : State) :
    (discardTraining s).tb = s.tb := rfl
@[simp] theorem discardTraining_reports (s : State) :
    (discardTraining s).reports = s.reports := rfl
@[simp] theorem discardTraining_link (s : State) :
    (discardTraining s).link = s.link := rfl
@[simp] theorem discardTraining_events (s : State) :
    (discardTraining s).events = s.events := rfl
@[simp] theorem restartSettling_pending (s : State) :
    (restartSettling s).pending = s.pending := rfl
@[simp] theorem restartSettling_resetLow (s : State) :
    (restartSettling s).resetLow = s.resetLow := rfl
@[simp] theorem restartSettling_tables (s : State) :
    (restartSettling s).tables = s.tables := rfl
@[simp] theorem restartSettling_board (s : State) :
    (restartSettling s).board = s.board := rfl
@[simp] theorem restartSettling_entries (s : State) :
    (restartSettling s).entries = s.entries := rfl
@[simp] theorem restartSettling_lanes (s : State) :
    (restartSettling s).lanes = s.lanes := rfl
@[simp] theorem restartSettling_reductions (s : State) :
    (restartSettling s).reductions = s.reductions := rfl
@[simp] theorem restartSettling_raw (s : State) :
    (restartSettling s).raw = s.raw := rfl
@[simp] theorem restartSettling_netStates (s : State) :
    (restartSettling s).netStates = s.netStates := rfl
@[simp] theorem restartSettling_groups (s : State) :
    (restartSettling s).groups = s.groups := rfl
@[simp] theorem restartSettling_sigs (s : State) :
    (restartSettling s).sigs = s.sigs := rfl
@[simp] theorem restartSettling_tb (s : State) :
    (restartSettling s).tb = s.tb := rfl
@[simp] theorem restartSettling_reports (s : State) :
    (restartSettling s).reports = s.reports := rfl
@[simp] theorem restartSettling_link (s : State) :
    (restartSettling s).link = s.link := rfl
@[simp] theorem restartSettling_events (s : State) :
    (restartSettling s).events = s.events := rfl
@[simp] theorem startRetune_pending (g : GenId) (i : Nat) (s : State) :
    (startRetune g i s).pending = s.pending := rfl
@[simp] theorem startRetune_resetLow (g : GenId) (i : Nat) (s : State) :
    (startRetune g i s).resetLow = s.resetLow := rfl
@[simp] theorem startRetune_tables (g : GenId) (i : Nat) (s : State) :
    (startRetune g i s).tables = s.tables := rfl
@[simp] theorem startRetune_board (g : GenId) (i : Nat) (s : State) :
    (startRetune g i s).board = s.board := rfl
@[simp] theorem startRetune_entries (g : GenId) (i : Nat) (s : State) :
    (startRetune g i s).entries = s.entries := rfl
@[simp] theorem startRetune_lanes (g : GenId) (i : Nat) (s : State) :
    (startRetune g i s).lanes = s.lanes := rfl
@[simp] theorem startRetune_reductions (g : GenId) (i : Nat) (s : State) :
    (startRetune g i s).reductions = s.reductions := rfl
@[simp] theorem startRetune_raw (g : GenId) (i : Nat) (s : State) :
    (startRetune g i s).raw = s.raw := rfl
@[simp] theorem startRetune_netStates (g : GenId) (i : Nat) (s : State) :
    (startRetune g i s).netStates = s.netStates := rfl
@[simp] theorem startRetune_groups (g : GenId) (i : Nat) (s : State) :
    (startRetune g i s).groups = s.groups := rfl
@[simp] theorem startRetune_sigs (g : GenId) (i : Nat) (s : State) :
    (startRetune g i s).sigs = s.sigs := rfl
@[simp] theorem startRetune_tb (g : GenId) (i : Nat) (s : State) :
    (startRetune g i s).tb = s.tb := rfl
@[simp] theorem startRetune_reports (g : GenId) (i : Nat) (s : State) :
    (startRetune g i s).reports = s.reports := rfl
@[simp] theorem startRetune_link (g : GenId) (i : Nat) (s : State) :
    (startRetune g i s).link = s.link := rfl
@[simp] theorem startRetune_events (g : GenId) (i : Nat) (s : State) :
    (startRetune g i s).events = s.events := rfl
@[simp] theorem answerGroups_pending (s : State) :
    (answerGroups s).pending = s.pending := rfl
@[simp] theorem answerGroups_resetLow (s : State) :
    (answerGroups s).resetLow = s.resetLow := rfl
@[simp] theorem answerGroups_tables (s : State) :
    (answerGroups s).tables = s.tables := rfl
@[simp] theorem answerGroups_board (s : State) :
    (answerGroups s).board = s.board := rfl
@[simp] theorem answerGroups_entries (s : State) :
    (answerGroups s).entries = s.entries := rfl
@[simp] theorem answerGroups_lanes (s : State) :
    (answerGroups s).lanes = s.lanes := rfl
@[simp] theorem answerGroups_reductions (s : State) :
    (answerGroups s).reductions = s.reductions := rfl
@[simp] theorem answerGroups_raw (s : State) :
    (answerGroups s).raw = s.raw := rfl
@[simp] theorem answerGroups_netStates (s : State) :
    (answerGroups s).netStates = s.netStates := rfl
@[simp] theorem answerGroups_groups (s : State) :
    (answerGroups s).groups = s.groups := rfl
@[simp] theorem answerGroups_sigs (s : State) :
    (answerGroups s).sigs = s.sigs := rfl
@[simp] theorem answerGroups_gens (s : State) :
    (answerGroups s).gens = s.gens := rfl
@[simp] theorem answerGroups_tb (s : State) :
    (answerGroups s).tb = s.tb := rfl
@[simp] theorem answerGroups_reports (s : State) :
    (answerGroups s).reports = s.reports := rfl
@[simp] theorem answerGroups_events (s : State) :
    (answerGroups s).events = s.events := rfl
@[simp] theorem answerAllGroups_pending (flag : Nat → Bool) (s : State) :
    (answerAllGroups flag s).pending = s.pending := rfl
@[simp] theorem answerAllGroups_resetLow (flag : Nat → Bool) (s : State) :
    (answerAllGroups flag s).resetLow = s.resetLow := rfl
@[simp] theorem answerAllGroups_tables (flag : Nat → Bool) (s : State) :
    (answerAllGroups flag s).tables = s.tables := rfl
@[simp] theorem answerAllGroups_board (flag : Nat → Bool) (s : State) :
    (answerAllGroups flag s).board = s.board := rfl
@[simp] theorem answerAllGroups_entries (flag : Nat → Bool) (s : State) :
    (answerAllGroups flag s).entries = s.entries := rfl
@[simp] theorem answerAllGroups_lanes (flag : Nat → Bool) (s : State) :
    (answerAllGroups flag s).lanes = s.lanes := rfl
@[simp] theorem answerAllGroups_reductions (flag : Nat → Bool) (s : State) :
    (answerAllGroups flag s).reductions = s.reductions := rfl
@[simp] theorem answerAllGroups_raw (flag : Nat → Bool) (s : State) :
    (answerAllGroups flag s).raw = s.raw := rfl
@[simp] theorem answerAllGroups_netStates (flag : Nat → Bool) (s : State) :
    (answerAllGroups flag s).netStates = s.netStates := rfl
@[simp] theorem answerAllGroups_groups (flag : Nat → Bool) (s : State) :
    (answerAllGroups flag s).groups = s.groups := rfl
@[simp] theorem answerAllGroups_sigs (flag : Nat → Bool) (s : State) :
    (answerAllGroups flag s).sigs = s.sigs := rfl
@[simp] theorem answerAllGroups_gens (flag : Nat → Bool) (s : State) :
    (answerAllGroups flag s).gens = s.gens := rfl
@[simp] theorem answerAllGroups_tb (flag : Nat → Bool) (s : State) :
    (answerAllGroups flag s).tb = s.tb := rfl
@[simp] theorem answerAllGroups_reports (flag : Nat → Bool) (s : State) :
    (answerAllGroups flag s).reports = s.reports := rfl
@[simp] theorem answerAllGroups_events (flag : Nat → Bool) (s : State) :
    (answerAllGroups flag s).events = s.events := rfl
@[simp] theorem startAttn_pending (s : State) :
    (startAttn s).pending = s.pending := rfl
@[simp] theorem startAttn_resetLow (s : State) :
    (startAttn s).resetLow = s.resetLow := rfl
@[simp] theorem startAttn_tables (s : State) :
    (startAttn s).tables = s.tables := rfl
@[simp] theorem startAttn_board (s : State) :
    (startAttn s).board = s.board := rfl
@[simp] theorem startAttn_entries (s : State) :
    (startAttn s).entries = s.entries := rfl
@[simp] theorem startAttn_lanes (s : State) :
    (startAttn s).lanes = s.lanes := rfl
@[simp] theorem startAttn_reductions (s : State) :
    (startAttn s).reductions = s.reductions := rfl
@[simp] theorem startAttn_raw (s : State) :
    (startAttn s).raw = s.raw := rfl
@[simp] theorem startAttn_netStates (s : State) :
    (startAttn s).netStates = s.netStates := rfl
@[simp] theorem startAttn_groups (s : State) :
    (startAttn s).groups = s.groups := rfl
@[simp] theorem startAttn_sigs (s : State) :
    (startAttn s).sigs = s.sigs := rfl
@[simp] theorem startAttn_gens (s : State) :
    (startAttn s).gens = s.gens := rfl
@[simp] theorem startAttn_tb (s : State) :
    (startAttn s).tb = s.tb := rfl
@[simp] theorem startAttn_reports (s : State) :
    (startAttn s).reports = s.reports := rfl
@[simp] theorem startReport_pending (e : ReportEntry) (s : State) :
    (startReport e s).pending = s.pending := rfl
@[simp] theorem startReport_resetLow (e : ReportEntry) (s : State) :
    (startReport e s).resetLow = s.resetLow := rfl
@[simp] theorem startReport_tables (e : ReportEntry) (s : State) :
    (startReport e s).tables = s.tables := rfl
@[simp] theorem startReport_board (e : ReportEntry) (s : State) :
    (startReport e s).board = s.board := rfl
@[simp] theorem startReport_entries (e : ReportEntry) (s : State) :
    (startReport e s).entries = s.entries := rfl
@[simp] theorem startReport_lanes (e : ReportEntry) (s : State) :
    (startReport e s).lanes = s.lanes := rfl
@[simp] theorem startReport_reductions (e : ReportEntry) (s : State) :
    (startReport e s).reductions = s.reductions := rfl
@[simp] theorem startReport_raw (e : ReportEntry) (s : State) :
    (startReport e s).raw = s.raw := rfl
@[simp] theorem startReport_netStates (e : ReportEntry) (s : State) :
    (startReport e s).netStates = s.netStates := rfl
@[simp] theorem startReport_groups (e : ReportEntry) (s : State) :
    (startReport e s).groups = s.groups := rfl
@[simp] theorem startReport_sigs (e : ReportEntry) (s : State) :
    (startReport e s).sigs = s.sigs := rfl
@[simp] theorem startReport_gens (e : ReportEntry) (s : State) :
    (startReport e s).gens = s.gens := rfl
@[simp] theorem startReport_tb (e : ReportEntry) (s : State) :
    (startReport e s).tb = s.tb := rfl
@[simp] theorem startReport_events (e : ReportEntry) (s : State) :
    (startReport e s).events = s.events := rfl
@[simp] theorem freeTransmitter_pending (s : State) :
    (freeTransmitter s).pending = s.pending := rfl
@[simp] theorem freeTransmitter_resetLow (s : State) :
    (freeTransmitter s).resetLow = s.resetLow := rfl
@[simp] theorem freeTransmitter_tables (s : State) :
    (freeTransmitter s).tables = s.tables := rfl
@[simp] theorem freeTransmitter_board (s : State) :
    (freeTransmitter s).board = s.board := rfl
@[simp] theorem freeTransmitter_entries (s : State) :
    (freeTransmitter s).entries = s.entries := rfl
@[simp] theorem freeTransmitter_lanes (s : State) :
    (freeTransmitter s).lanes = s.lanes := rfl
@[simp] theorem freeTransmitter_reductions (s : State) :
    (freeTransmitter s).reductions = s.reductions := rfl
@[simp] theorem freeTransmitter_raw (s : State) :
    (freeTransmitter s).raw = s.raw := rfl
@[simp] theorem freeTransmitter_netStates (s : State) :
    (freeTransmitter s).netStates = s.netStates := rfl
@[simp] theorem freeTransmitter_groups (s : State) :
    (freeTransmitter s).groups = s.groups := rfl
@[simp] theorem freeTransmitter_sigs (s : State) :
    (freeTransmitter s).sigs = s.sigs := rfl
@[simp] theorem freeTransmitter_gens (s : State) :
    (freeTransmitter s).gens = s.gens := rfl
@[simp] theorem freeTransmitter_tb (s : State) :
    (freeTransmitter s).tb = s.tb := rfl
@[simp] theorem freeTransmitter_reports (s : State) :
    (freeTransmitter s).reports = s.reports := rfl
@[simp] theorem freeTransmitter_events (s : State) :
    (freeTransmitter s).events = s.events := rfl
@[simp] theorem dropReply_pending (s : State) :
    (dropReply s).pending = s.pending := rfl
@[simp] theorem dropReply_resetLow (s : State) :
    (dropReply s).resetLow = s.resetLow := rfl
@[simp] theorem dropReply_tables (s : State) :
    (dropReply s).tables = s.tables := rfl
@[simp] theorem dropReply_board (s : State) :
    (dropReply s).board = s.board := rfl
@[simp] theorem dropReply_entries (s : State) :
    (dropReply s).entries = s.entries := rfl
@[simp] theorem dropReply_lanes (s : State) :
    (dropReply s).lanes = s.lanes := rfl
@[simp] theorem dropReply_reductions (s : State) :
    (dropReply s).reductions = s.reductions := rfl
@[simp] theorem dropReply_raw (s : State) :
    (dropReply s).raw = s.raw := rfl
@[simp] theorem dropReply_netStates (s : State) :
    (dropReply s).netStates = s.netStates := rfl
@[simp] theorem dropReply_groups (s : State) :
    (dropReply s).groups = s.groups := rfl
@[simp] theorem dropReply_sigs (s : State) :
    (dropReply s).sigs = s.sigs := rfl
@[simp] theorem dropReply_gens (s : State) :
    (dropReply s).gens = s.gens := rfl
@[simp] theorem dropReply_tb (s : State) :
    (dropReply s).tb = s.tb := rfl
@[simp] theorem dropReply_reports (s : State) :
    (dropReply s).reports = s.reports := rfl
@[simp] theorem dropReply_events (s : State) :
    (dropReply s).events = s.events := rfl
@[simp] theorem dropReport_pending (s : State) :
    (dropReport s).pending = s.pending := rfl
@[simp] theorem dropReport_resetLow (s : State) :
    (dropReport s).resetLow = s.resetLow := rfl
@[simp] theorem dropReport_tables (s : State) :
    (dropReport s).tables = s.tables := rfl
@[simp] theorem dropReport_board (s : State) :
    (dropReport s).board = s.board := rfl
@[simp] theorem dropReport_entries (s : State) :
    (dropReport s).entries = s.entries := rfl
@[simp] theorem dropReport_lanes (s : State) :
    (dropReport s).lanes = s.lanes := rfl
@[simp] theorem dropReport_reductions (s : State) :
    (dropReport s).reductions = s.reductions := rfl
@[simp] theorem dropReport_raw (s : State) :
    (dropReport s).raw = s.raw := rfl
@[simp] theorem dropReport_netStates (s : State) :
    (dropReport s).netStates = s.netStates := rfl
@[simp] theorem dropReport_groups (s : State) :
    (dropReport s).groups = s.groups := rfl
@[simp] theorem dropReport_sigs (s : State) :
    (dropReport s).sigs = s.sigs := rfl
@[simp] theorem dropReport_gens (s : State) :
    (dropReport s).gens = s.gens := rfl
@[simp] theorem dropReport_tb (s : State) :
    (dropReport s).tb = s.tb := rfl
@[simp] theorem dropReport_link (s : State) :
    (dropReport s).link = s.link := rfl
@[simp] theorem dropReport_events (s : State) :
    (dropReport s).events = s.events := rfl
@[simp] theorem markTbFault_pending (s : State) :
    (markTbFault s).pending = s.pending := rfl
@[simp] theorem markTbFault_resetLow (s : State) :
    (markTbFault s).resetLow = s.resetLow := rfl
@[simp] theorem markTbFault_tables (s : State) :
    (markTbFault s).tables = s.tables := rfl
@[simp] theorem markTbFault_board (s : State) :
    (markTbFault s).board = s.board := rfl
@[simp] theorem markTbFault_lanes (s : State) :
    (markTbFault s).lanes = s.lanes := rfl
@[simp] theorem markTbFault_reductions (s : State) :
    (markTbFault s).reductions = s.reductions := rfl
@[simp] theorem markTbFault_raw (s : State) :
    (markTbFault s).raw = s.raw := rfl
@[simp] theorem markTbFault_netStates (s : State) :
    (markTbFault s).netStates = s.netStates := rfl
@[simp] theorem markTbFault_groups (s : State) :
    (markTbFault s).groups = s.groups := rfl
@[simp] theorem markTbFault_sigs (s : State) :
    (markTbFault s).sigs = s.sigs := rfl
@[simp] theorem markTbFault_gens (s : State) :
    (markTbFault s).gens = s.gens := rfl
@[simp] theorem markTbFault_tb (s : State) :
    (markTbFault s).tb = s.tb := rfl
@[simp] theorem markTbFault_reports (s : State) :
    (markTbFault s).reports = s.reports := rfl
@[simp] theorem markTbFault_link (s : State) :
    (markTbFault s).link = s.link := rfl
@[simp] theorem markTbFault_events (s : State) :
    (markTbFault s).events = s.events := rfl
@[simp] theorem endOrder_pending (n : LaneId) (s : State) :
    (endOrder n s).pending = s.pending := rfl
@[simp] theorem endOrder_resetLow (n : LaneId) (s : State) :
    (endOrder n s).resetLow = s.resetLow := rfl
@[simp] theorem endOrder_tables (n : LaneId) (s : State) :
    (endOrder n s).tables = s.tables := rfl
@[simp] theorem endOrder_board (n : LaneId) (s : State) :
    (endOrder n s).board = s.board := rfl
@[simp] theorem endOrder_entries (n : LaneId) (s : State) :
    (endOrder n s).entries = s.entries := rfl
@[simp] theorem endOrder_reductions (n : LaneId) (s : State) :
    (endOrder n s).reductions = s.reductions := rfl
@[simp] theorem endOrder_raw (n : LaneId) (s : State) :
    (endOrder n s).raw = s.raw := rfl
@[simp] theorem endOrder_netStates (n : LaneId) (s : State) :
    (endOrder n s).netStates = s.netStates := rfl
@[simp] theorem endOrder_groups (n : LaneId) (s : State) :
    (endOrder n s).groups = s.groups := rfl
@[simp] theorem endOrder_sigs (n : LaneId) (s : State) :
    (endOrder n s).sigs = s.sigs := rfl
@[simp] theorem endOrder_gens (n : LaneId) (s : State) :
    (endOrder n s).gens = s.gens := rfl
@[simp] theorem endOrder_tb (n : LaneId) (s : State) :
    (endOrder n s).tb = s.tb := rfl
@[simp] theorem endOrder_reports (n : LaneId) (s : State) :
    (endOrder n s).reports = s.reports := rfl
@[simp] theorem endOrder_link (n : LaneId) (s : State) :
    (endOrder n s).link = s.link := rfl
@[simp] theorem endOrder_events (n : LaneId) (s : State) :
    (endOrder n s).events = s.events := rfl
@[simp] theorem runClocks_pending (n : Nat) (s : State) :
    (runClocks n s).pending = s.pending := rfl
@[simp] theorem runClocks_resetLow (n : Nat) (s : State) :
    (runClocks n s).resetLow = s.resetLow := rfl
@[simp] theorem runClocks_tables (n : Nat) (s : State) :
    (runClocks n s).tables = s.tables := rfl
@[simp] theorem runClocks_board (n : Nat) (s : State) :
    (runClocks n s).board = s.board := rfl
@[simp] theorem runClocks_entries (n : Nat) (s : State) :
    (runClocks n s).entries = s.entries := rfl
@[simp] theorem runClocks_raw (n : Nat) (s : State) :
    (runClocks n s).raw = s.raw := rfl
@[simp] theorem runClocks_netStates (n : Nat) (s : State) :
    (runClocks n s).netStates = s.netStates := rfl
@[simp] theorem runClocks_groups (n : Nat) (s : State) :
    (runClocks n s).groups = s.groups := rfl
@[simp] theorem runClocks_sigs (n : Nat) (s : State) :
    (runClocks n s).sigs = s.sigs := rfl
@[simp] theorem runClocks_reports (n : Nat) (s : State) :
    (runClocks n s).reports = s.reports := rfl
@[simp] theorem runClocks_link (n : Nat) (s : State) :
    (runClocks n s).link = s.link := rfl
@[simp] theorem runClocks_events (n : Nat) (s : State) :
    (runClocks n s).events = s.events := rfl

end Sys2Proof.Machine
end

