-- ==== Sys2Proof/Laws/Frames.lean ====
section
/-! SUPPORT. What each shared operation leaves alone: the frame lemmas from the posting of an event up to the granting of
a place, one for each field. -/

namespace Sys2Proof.Machine

@[simp] theorem postEvent_pending (code : EventCode) (p : Nat) (s : State) :
    (postEvent code p s).pending = s.pending := by
  unfold postEvent; split <;> rfl

@[simp] theorem postEvent_resetLow (code : EventCode) (p : Nat) (s : State) :
    (postEvent code p s).resetLow = s.resetLow := by
  unfold postEvent; split <;> rfl

@[simp] theorem postEvent_tables (code : EventCode) (p : Nat) (s : State) :
    (postEvent code p s).tables = s.tables := by
  unfold postEvent; split <;> rfl

@[simp] theorem postEvent_board (code : EventCode) (p : Nat) (s : State) :
    (postEvent code p s).board = s.board := by
  unfold postEvent; split <;> rfl

@[simp] theorem postEvent_entries (code : EventCode) (p : Nat) (s : State) :
    (postEvent code p s).entries = s.entries := by
  unfold postEvent; split <;> rfl

@[simp] theorem postEvent_lanes (code : EventCode) (p : Nat) (s : State) :
    (postEvent code p s).lanes = s.lanes := by
  unfold postEvent; split <;> rfl

@[simp] theorem postEvent_reductions (code : EventCode) (p : Nat) (s : State) :
    (postEvent code p s).reductions = s.reductions := by
  unfold postEvent; split <;> rfl

@[simp] theorem postEvent_raw (code : EventCode) (p : Nat) (s : State) :
    (postEvent code p s).raw = s.raw := by
  unfold postEvent; split <;> rfl

@[simp] theorem postEvent_netStates (code : EventCode) (p : Nat) (s : State) :
    (postEvent code p s).netStates = s.netStates := by
  unfold postEvent; split <;> rfl

@[simp] theorem postEvent_groups (code : EventCode) (p : Nat) (s : State) :
    (postEvent code p s).groups = s.groups := by
  unfold postEvent; split <;> rfl

@[simp] theorem postEvent_sigs (code : EventCode) (p : Nat) (s : State) :
    (postEvent code p s).sigs = s.sigs := by
  unfold postEvent; split <;> rfl

@[simp] theorem postEvent_gens (code : EventCode) (p : Nat) (s : State) :
    (postEvent code p s).gens = s.gens := by
  unfold postEvent; split <;> rfl

@[simp] theorem postEvent_tb (code : EventCode) (p : Nat) (s : State) :
    (postEvent code p s).tb = s.tb := by
  unfold postEvent; split <;> rfl

@[simp] theorem postEvent_reports (code : EventCode) (p : Nat) (s : State) :
    (postEvent code p s).reports = s.reports := by
  unfold postEvent; split <;> rfl

@[simp] theorem postEvent_link (code : EventCode) (p : Nat) (s : State) :
    (postEvent code p s).link = s.link := by
  unfold postEvent; split <;> rfl

@[simp] theorem raiseNotice_pending (s : State) :
    (raiseNotice s).pending = s.pending := by
  unfold raiseNotice; split <;> rfl

@[simp] theorem raiseNotice_resetLow (s : State) :
    (raiseNotice s).resetLow = s.resetLow := by
  unfold raiseNotice; split <;> rfl

@[simp] theorem raiseNotice_tables (s : State) :
    (raiseNotice s).tables = s.tables := by
  unfold raiseNotice; split <;> rfl

@[simp] theorem raiseNotice_board (s : State) :
    (raiseNotice s).board = s.board := by
  unfold raiseNotice; split <;> rfl

@[simp] theorem raiseNotice_entries (s : State) :
    (raiseNotice s).entries = s.entries := by
  unfold raiseNotice; split <;> rfl

@[simp] theorem raiseNotice_lanes (s : State) :
    (raiseNotice s).lanes = s.lanes := by
  unfold raiseNotice; split <;> rfl

@[simp] theorem raiseNotice_reductions (s : State) :
    (raiseNotice s).reductions = s.reductions := by
  unfold raiseNotice; split <;> rfl

@[simp] theorem raiseNotice_raw (s : State) :
    (raiseNotice s).raw = s.raw := by
  unfold raiseNotice; split <;> rfl

@[simp] theorem raiseNotice_netStates (s : State) :
    (raiseNotice s).netStates = s.netStates := by
  unfold raiseNotice; split <;> rfl

@[simp] theorem raiseNotice_groups (s : State) :
    (raiseNotice s).groups = s.groups := by
  unfold raiseNotice; split <;> rfl

@[simp] theorem raiseNotice_sigs (s : State) :
    (raiseNotice s).sigs = s.sigs := by
  unfold raiseNotice; split <;> rfl

@[simp] theorem raiseNotice_gens (s : State) :
    (raiseNotice s).gens = s.gens := by
  unfold raiseNotice; split <;> rfl

@[simp] theorem raiseNotice_tb (s : State) :
    (raiseNotice s).tb = s.tb := by
  unfold raiseNotice; split <;> rfl

@[simp] theorem raiseNotice_reports (s : State) :
    (raiseNotice s).reports = s.reports := by
  unfold raiseNotice; split <;> rfl

@[simp] theorem raiseNotice_link (s : State) :
    (raiseNotice s).link = s.link := by
  unfold raiseNotice; split <;> rfl

@[simp] theorem chooseFrame_pending (s : State) :
    (chooseFrame s).pending = s.pending := by
  unfold chooseFrame; (repeat' split) <;> rfl

@[simp] theorem chooseFrame_resetLow (s : State) :
    (chooseFrame s).resetLow = s.resetLow := by
  unfold chooseFrame; (repeat' split) <;> rfl

@[simp] theorem chooseFrame_tables (s : State) :
    (chooseFrame s).tables = s.tables := by
  unfold chooseFrame; (repeat' split) <;> rfl

@[simp] theorem chooseFrame_board (s : State) :
    (chooseFrame s).board = s.board := by
  unfold chooseFrame; (repeat' split) <;> rfl

@[simp] theorem chooseFrame_entries (s : State) :
    (chooseFrame s).entries = s.entries := by
  unfold chooseFrame; (repeat' split) <;> rfl

@[simp] theorem chooseFrame_lanes (s : State) :
    (chooseFrame s).lanes = s.lanes := by
  unfold chooseFrame; (repeat' split) <;> rfl

@[simp] theorem chooseFrame_reductions (s : State) :
    (chooseFrame s).reductions = s.reductions := by
  unfold chooseFrame; (repeat' split) <;> rfl

@[simp] theorem chooseFrame_raw (s : State) :
    (chooseFrame s).raw = s.raw := by
  unfold chooseFrame; (repeat' split) <;> rfl

@[simp] theorem chooseFrame_netStates (s : State) :
    (chooseFrame s).netStates = s.netStates := by
  unfold chooseFrame; (repeat' split) <;> rfl

@[simp] theorem chooseFrame_groups (s : State) :
    (chooseFrame s).groups = s.groups := by
  unfold chooseFrame; (repeat' split) <;> rfl

@[simp] theorem chooseFrame_sigs (s : State) :
    (chooseFrame s).sigs = s.sigs := by
  unfold chooseFrame; (repeat' split) <;> rfl

@[simp] theorem chooseFrame_gens (s : State) :
    (chooseFrame s).gens = s.gens := by
  unfold chooseFrame; (repeat' split) <;> rfl

@[simp] theorem chooseFrame_tb (s : State) :
    (chooseFrame s).tb = s.tb := by
  unfold chooseFrame; (repeat' split) <;> rfl

@[simp] theorem upstreamChoice_pending (s : State) :
    (upstreamChoice s).pending = s.pending := by
  unfold upstreamChoice; (repeat' split) <;> simp

@[simp] theorem upstreamChoice_resetLow (s : State) :
    (upstreamChoice s).resetLow = s.resetLow := by
  unfold upstreamChoice; (repeat' split) <;> simp

@[simp] theorem upstreamChoice_tables (s : State) :
    (upstreamChoice s).tables = s.tables := by
  unfold upstreamChoice; (repeat' split) <;> simp

@[simp] theorem upstreamChoice_board (s : State) :
    (upstreamChoice s).board = s.board := by
  unfold upstreamChoice; (repeat' split) <;> simp

@[simp] theorem upstreamChoice_entries (s : State) :
    (upstreamChoice s).entries = s.entries := by
  unfold upstreamChoice; (repeat' split) <;> simp

@[simp] theorem upstreamChoice_lanes (s : State) :
    (upstreamChoice s).lanes = s.lanes := by
  unfold upstreamChoice; (repeat' split) <;> simp

@[simp] theorem upstreamChoice_reductions (s : State) :
    (upstreamChoice s).reductions = s.reductions := by
  unfold upstreamChoice; (repeat' split) <;> simp

@[simp] theorem upstreamChoice_raw (s : State) :
    (upstreamChoice s).raw = s.raw := by
  unfold upstreamChoice; (repeat' split) <;> simp

@[simp] theorem upstreamChoice_netStates (s : State) :
    (upstreamChoice s).netStates = s.netStates := by
  unfold upstreamChoice; (repeat' split) <;> simp

@[simp] theorem upstreamChoice_groups (s : State) :
    (upstreamChoice s).groups = s.groups := by
  unfold upstreamChoice; (repeat' split) <;> simp

@[simp] theorem upstreamChoice_sigs (s : State) :
    (upstreamChoice s).sigs = s.sigs := by
  unfold upstreamChoice; (repeat' split) <;> simp

@[simp] theorem upstreamChoice_gens (s : State) :
    (upstreamChoice s).gens = s.gens := by
  unfold upstreamChoice; (repeat' split) <;> simp

@[simp] theorem upstreamChoice_tb (s : State) :
    (upstreamChoice s).tb = s.tb := by
  unfold upstreamChoice; (repeat' split) <;> simp

@[simp] theorem conclude_pending (s : State) :
    (conclude s).pending = s.pending := by
  simp [conclude]

@[simp] theorem conclude_resetLow (s : State) :
    (conclude s).resetLow = s.resetLow := by
  simp [conclude]

@[simp] theorem conclude_tables (s : State) :
    (conclude s).tables = s.tables := by
  simp [conclude]

@[simp] theorem conclude_board (s : State) :
    (conclude s).board = s.board := by
  simp [conclude]

@[simp] theorem conclude_entries (s : State) :
    (conclude s).entries = s.entries := by
  simp [conclude]

@[simp] theorem conclude_lanes (s : State) :
    (conclude s).lanes = s.lanes := by
  simp [conclude]

@[simp] theorem conclude_reductions (s : State) :
    (conclude s).reductions = s.reductions := by
  simp [conclude]

@[simp] theorem conclude_raw (s : State) :
    (conclude s).raw = s.raw := by
  simp [conclude]

@[simp] theorem conclude_netStates (s : State) :
    (conclude s).netStates = s.netStates := by
  simp [conclude]

@[simp] theorem conclude_groups (s : State) :
    (conclude s).groups = s.groups := by
  simp [conclude]

@[simp] theorem conclude_sigs (s : State) :
    (conclude s).sigs = s.sigs := by
  simp [conclude]

@[simp] theorem conclude_gens (s : State) :
    (conclude s).gens = s.gens := by
  simp [conclude]

@[simp] theorem conclude_tb (s : State) :
    (conclude s).tb = s.tb := by
  simp [conclude]

@[simp] theorem wrapAfter_pending (n : Nat) (s : State) :
    (wrapAfter n s).pending = s.pending := by
  simp [wrapAfter]

@[simp] theorem wrapAfter_resetLow (n : Nat) (s : State) :
    (wrapAfter n s).resetLow = s.resetLow := by
  simp [wrapAfter]

@[simp] theorem wrapAfter_tables (n : Nat) (s : State) :
    (wrapAfter n s).tables = s.tables := by
  simp [wrapAfter]

@[simp] theorem wrapAfter_board (n : Nat) (s : State) :
    (wrapAfter n s).board = s.board := by
  simp [wrapAfter]

@[simp] theorem wrapAfter_entries (n : Nat) (s : State) :
    (wrapAfter n s).entries = s.entries := by
  simp [wrapAfter]

@[simp] theorem wrapAfter_raw (n : Nat) (s : State) :
    (wrapAfter n s).raw = s.raw := by
  simp [wrapAfter]

@[simp] theorem wrapAfter_netStates (n : Nat) (s : State) :
    (wrapAfter n s).netStates = s.netStates := by
  simp [wrapAfter]

@[simp] theorem wrapAfter_groups (n : Nat) (s : State) :
    (wrapAfter n s).groups = s.groups := by
  simp [wrapAfter]

@[simp] theorem wrapAfter_sigs (n : Nat) (s : State) :
    (wrapAfter n s).sigs = s.sigs := by
  simp [wrapAfter]

@[simp] theorem elapseFrom_pending (k n : Nat) (s : State) :
    (elapseFrom k n s).pending = s.pending := by
  induction k generalizing n s with
  | zero => rfl
  | succ k ih => simp only [elapseFrom]; split <;> simp [ih]

@[simp] theorem elapseFrom_resetLow (k n : Nat) (s : State) :
    (elapseFrom k n s).resetLow = s.resetLow := by
  induction k generalizing n s with
  | zero => rfl
  | succ k ih => simp only [elapseFrom]; split <;> simp [ih]

@[simp] theorem elapseFrom_tables (k n : Nat) (s : State) :
    (elapseFrom k n s).tables = s.tables := by
  induction k generalizing n s with
  | zero => rfl
  | succ k ih => simp only [elapseFrom]; split <;> simp [ih]

@[simp] theorem elapseFrom_board (k n : Nat) (s : State) :
    (elapseFrom k n s).board = s.board := by
  induction k generalizing n s with
  | zero => rfl
  | succ k ih => simp only [elapseFrom]; split <;> simp [ih]

@[simp] theorem elapseFrom_entries (k n : Nat) (s : State) :
    (elapseFrom k n s).entries = s.entries := by
  induction k generalizing n s with
  | zero => rfl
  | succ k ih => simp only [elapseFrom]; split <;> simp [ih]

@[simp] theorem elapseFrom_raw (k n : Nat) (s : State) :
    (elapseFrom k n s).raw = s.raw := by
  induction k generalizing n s with
  | zero => rfl
  | succ k ih => simp only [elapseFrom]; split <;> simp [ih]

@[simp] theorem elapseFrom_netStates (k n : Nat) (s : State) :
    (elapseFrom k n s).netStates = s.netStates := by
  induction k generalizing n s with
  | zero => rfl
  | succ k ih => simp only [elapseFrom]; split <;> simp [ih]

@[simp] theorem elapseFrom_groups (k n : Nat) (s : State) :
    (elapseFrom k n s).groups = s.groups := by
  induction k generalizing n s with
  | zero => rfl
  | succ k ih => simp only [elapseFrom]; split <;> simp [ih]

@[simp] theorem elapseFrom_sigs (k n : Nat) (s : State) :
    (elapseFrom k n s).sigs = s.sigs := by
  induction k generalizing n s with
  | zero => rfl
  | succ k ih => simp only [elapseFrom]; split <;> simp [ih]

@[simp] theorem elapse_pending (n : Nat) (s : State) :
    (elapse n s).pending = s.pending := by
  simp [elapse]

@[simp] theorem elapse_resetLow (n : Nat) (s : State) :
    (elapse n s).resetLow = s.resetLow := by
  simp [elapse]

@[simp] theorem elapse_tables (n : Nat) (s : State) :
    (elapse n s).tables = s.tables := by
  simp [elapse]

@[simp] theorem elapse_board (n : Nat) (s : State) :
    (elapse n s).board = s.board := by
  simp [elapse]

@[simp] theorem elapse_entries (n : Nat) (s : State) :
    (elapse n s).entries = s.entries := by
  simp [elapse]

@[simp] theorem elapse_raw (n : Nat) (s : State) :
    (elapse n s).raw = s.raw := by
  simp [elapse]

@[simp] theorem elapse_netStates (n : Nat) (s : State) :
    (elapse n s).netStates = s.netStates := by
  simp [elapse]

@[simp] theorem elapse_groups (n : Nat) (s : State) :
    (elapse n s).groups = s.groups := by
  simp [elapse]

@[simp] theorem elapse_sigs (n : Nat) (s : State) :
    (elapse n s).sigs = s.sigs := by
  simp [elapse]

@[simp] theorem raiseNet_pending (slot : Nat) (net : Option Nat) (v : Verdict) (s : State) :
    (raiseNet slot net v s).pending = s.pending := by
  unfold raiseNet; split <;> rfl

@[simp] theorem raiseNet_resetLow (slot : Nat) (net : Option Nat) (v : Verdict) (s : State) :
    (raiseNet slot net v s).resetLow = s.resetLow := by
  unfold raiseNet; split <;> rfl

@[simp] theorem raiseNet_tables (slot : Nat) (net : Option Nat) (v : Verdict) (s : State) :
    (raiseNet slot net v s).tables = s.tables := by
  unfold raiseNet; split <;> rfl

@[simp] theorem raiseNet_board (slot : Nat) (net : Option Nat) (v : Verdict) (s : State) :
    (raiseNet slot net v s).board = s.board := by
  unfold raiseNet; split <;> rfl

@[simp] theorem raiseNet_entries (slot : Nat) (net : Option Nat) (v : Verdict) (s : State) :
    (raiseNet slot net v s).entries = s.entries := by
  unfold raiseNet; split <;> rfl

@[simp] theorem raiseNet_lanes (slot : Nat) (net : Option Nat) (v : Verdict) (s : State) :
    (raiseNet slot net v s).lanes = s.lanes := by
  unfold raiseNet; split <;> rfl

@[simp] theorem raiseNet_reductions (slot : Nat) (net : Option Nat) (v : Verdict) (s : State) :
    (raiseNet slot net v s).reductions = s.reductions := by
  unfold raiseNet; split <;> rfl

@[simp] theorem raiseNet_raw (slot : Nat) (net : Option Nat) (v : Verdict) (s : State) :
    (raiseNet slot net v s).raw = s.raw := by
  unfold raiseNet; split <;> rfl

@[simp] theorem raiseNet_groups (slot : Nat) (net : Option Nat) (v : Verdict) (s : State) :
    (raiseNet slot net v s).groups = s.groups := by
  unfold raiseNet; split <;> rfl

@[simp] theorem raiseNet_sigs (slot : Nat) (net : Option Nat) (v : Verdict) (s : State) :
    (raiseNet slot net v s).sigs = s.sigs := by
  unfold raiseNet; split <;> rfl

@[simp] theorem raiseNet_gens (slot : Nat) (net : Option Nat) (v : Verdict) (s : State) :
    (raiseNet slot net v s).gens = s.gens := by
  unfold raiseNet; split <;> rfl

@[simp] theorem raiseNet_tb (slot : Nat) (net : Option Nat) (v : Verdict) (s : State) :
    (raiseNet slot net v s).tb = s.tb := by
  unfold raiseNet; split <;> rfl

@[simp] theorem raiseNet_reports (slot : Nat) (net : Option Nat) (v : Verdict) (s : State) :
    (raiseNet slot net v s).reports = s.reports := by
  unfold raiseNet; split <;> rfl

@[simp] theorem raiseNet_link (slot : Nat) (net : Option Nat) (v : Verdict) (s : State) :
    (raiseNet slot net v s).link = s.link := by
  unfold raiseNet; split <;> rfl

@[simp] theorem raiseNet_events (slot : Nat) (net : Option Nat) (v : Verdict) (s : State) :
    (raiseNet slot net v s).events = s.events := by
  unfold raiseNet; split <;> rfl

@[simp] theorem forward_pending (tag : Half) (s : State) :
    (forward tag s).pending = s.pending := by
  unfold forward; split <;> rfl

@[simp] theorem forward_resetLow (tag : Half) (s : State) :
    (forward tag s).resetLow = s.resetLow := by
  unfold forward; split <;> rfl

@[simp] theorem forward_tables (tag : Half) (s : State) :
    (forward tag s).tables = s.tables := by
  unfold forward; split <;> rfl

@[simp] theorem forward_board (tag : Half) (s : State) :
    (forward tag s).board = s.board := by
  unfold forward; split <;> rfl

@[simp] theorem forward_reductions (tag : Half) (s : State) :
    (forward tag s).reductions = s.reductions := by
  unfold forward; split <;> rfl

@[simp] theorem forward_raw (tag : Half) (s : State) :
    (forward tag s).raw = s.raw := by
  unfold forward; split <;> rfl

@[simp] theorem forward_netStates (tag : Half) (s : State) :
    (forward tag s).netStates = s.netStates := by
  unfold forward; split <;> rfl

@[simp] theorem forward_groups (tag : Half) (s : State) :
    (forward tag s).groups = s.groups := by
  unfold forward; split <;> rfl

@[simp] theorem forward_sigs (tag : Half) (s : State) :
    (forward tag s).sigs = s.sigs := by
  unfold forward; split <;> rfl

@[simp] theorem forward_gens (tag : Half) (s : State) :
    (forward tag s).gens = s.gens := by
  unfold forward; split <;> rfl

@[simp] theorem forward_tb (tag : Half) (s : State) :
    (forward tag s).tb = s.tb := by
  unfold forward; split <;> rfl

@[simp] theorem forward_reports (tag : Half) (s : State) :
    (forward tag s).reports = s.reports := by
  unfold forward; split <;> rfl

@[simp] theorem forward_link (tag : Half) (s : State) :
    (forward tag s).link = s.link := by
  unfold forward; split <;> rfl

@[simp] theorem forward_events (tag : Half) (s : State) :
    (forward tag s).events = s.events := by
  unfold forward; split <;> rfl

@[simp] theorem advanceHead_pending (n : LaneId) (s : State) :
    (advanceHead n s).pending = s.pending := by
  unfold advanceHead; (repeat' split) <;> simp

@[simp] theorem advanceHead_resetLow (n : LaneId) (s : State) :
    (advanceHead n s).resetLow = s.resetLow := by
  unfold advanceHead; (repeat' split) <;> simp

@[simp] theorem advanceHead_tables (n : LaneId) (s : State) :
    (advanceHead n s).tables = s.tables := by
  unfold advanceHead; (repeat' split) <;> simp

@[simp] theorem advanceHead_board (n : LaneId) (s : State) :
    (advanceHead n s).board = s.board := by
  unfold advanceHead; (repeat' split) <;> simp

@[simp] theorem advanceHead_reductions (n : LaneId) (s : State) :
    (advanceHead n s).reductions = s.reductions := by
  unfold advanceHead; (repeat' split) <;> simp

@[simp] theorem advanceHead_raw (n : LaneId) (s : State) :
    (advanceHead n s).raw = s.raw := by
  unfold advanceHead; (repeat' split) <;> simp

@[simp] theorem advanceHead_netStates (n : LaneId) (s : State) :
    (advanceHead n s).netStates = s.netStates := by
  unfold advanceHead; (repeat' split) <;> simp

@[simp] theorem advanceHead_groups (n : LaneId) (s : State) :
    (advanceHead n s).groups = s.groups := by
  unfold advanceHead; (repeat' split) <;> simp

@[simp] theorem advanceHead_sigs (n : LaneId) (s : State) :
    (advanceHead n s).sigs = s.sigs := by
  unfold advanceHead; (repeat' split) <;> simp

@[simp] theorem advanceHead_gens (n : LaneId) (s : State) :
    (advanceHead n s).gens = s.gens := by
  unfold advanceHead; (repeat' split) <;> simp

@[simp] theorem advanceHead_tb (n : LaneId) (s : State) :
    (advanceHead n s).tb = s.tb := by
  unfold advanceHead; (repeat' split) <;> simp

@[simp] theorem advanceHead_reports (n : LaneId) (s : State) :
    (advanceHead n s).reports = s.reports := by
  unfold advanceHead; (repeat' split) <;> simp

@[simp] theorem advanceHead_link (n : LaneId) (s : State) :
    (advanceHead n s).link = s.link := by
  unfold advanceHead; (repeat' split) <;> simp

@[simp] theorem advanceHead_events (n : LaneId) (s : State) :
    (advanceHead n s).events = s.events := by
  unfold advanceHead; (repeat' split) <;> simp

@[simp] theorem advanceHeads_pending (s : State) :
    (advanceHeads s).pending = s.pending := by
  simp [advanceHeads, allLanes]

@[simp] theorem advanceHeads_resetLow (s : State) :
    (advanceHeads s).resetLow = s.resetLow := by
  simp [advanceHeads, allLanes]

@[simp] theorem advanceHeads_tables (s : State) :
    (advanceHeads s).tables = s.tables := by
  simp [advanceHeads, allLanes]

@[simp] theorem advanceHeads_board (s : State) :
    (advanceHeads s).board = s.board := by
  simp [advanceHeads, allLanes]

@[simp] theorem advanceHeads_reductions (s : State) :
    (advanceHeads s).reductions = s.reductions := by
  simp [advanceHeads, allLanes]

@[simp] theorem advanceHeads_raw (s : State) :
    (advanceHeads s).raw = s.raw := by
  simp [advanceHeads, allLanes]

@[simp] theorem advanceHeads_netStates (s : State) :
    (advanceHeads s).netStates = s.netStates := by
  simp [advanceHeads, allLanes]

@[simp] theorem advanceHeads_groups (s : State) :
    (advanceHeads s).groups = s.groups := by
  simp [advanceHeads, allLanes]

@[simp] theorem advanceHeads_sigs (s : State) :
    (advanceHeads s).sigs = s.sigs := by
  simp [advanceHeads, allLanes]

@[simp] theorem advanceHeads_gens (s : State) :
    (advanceHeads s).gens = s.gens := by
  simp [advanceHeads, allLanes]

@[simp] theorem advanceHeads_tb (s : State) :
    (advanceHeads s).tb = s.tb := by
  simp [advanceHeads, allLanes]

@[simp] theorem advanceHeads_reports (s : State) :
    (advanceHeads s).reports = s.reports := by
  simp [advanceHeads, allLanes]

@[simp] theorem advanceHeads_link (s : State) :
    (advanceHeads s).link = s.link := by
  simp [advanceHeads, allLanes]

@[simp] theorem advanceHeads_events (s : State) :
    (advanceHeads s).events = s.events := by
  simp [advanceHeads, allLanes]

@[simp] theorem changeSource_pending (x : Source) (s : State) :
    (changeSource x s).pending = s.pending := by
  simp [changeSource]

@[simp] theorem changeSource_resetLow (x : Source) (s : State) :
    (changeSource x s).resetLow = s.resetLow := by
  simp [changeSource]

@[simp] theorem changeSource_tables (x : Source) (s : State) :
    (changeSource x s).tables = s.tables := by
  simp [changeSource]

@[simp] theorem changeSource_board (x : Source) (s : State) :
    (changeSource x s).board = s.board := by
  simp [changeSource]

@[simp] theorem changeSource_entries (x : Source) (s : State) :
    (changeSource x s).entries = s.entries := by
  simp [changeSource]

@[simp] theorem changeSource_reductions (x : Source) (s : State) :
    (changeSource x s).reductions = s.reductions := by
  simp [changeSource]

@[simp] theorem changeSource_raw (x : Source) (s : State) :
    (changeSource x s).raw = s.raw := by
  simp [changeSource]

@[simp] theorem changeSource_netStates (x : Source) (s : State) :
    (changeSource x s).netStates = s.netStates := by
  simp [changeSource]

@[simp] theorem changeSource_groups (x : Source) (s : State) :
    (changeSource x s).groups = s.groups := by
  simp [changeSource]

@[simp] theorem changeSource_sigs (x : Source) (s : State) :
    (changeSource x s).sigs = s.sigs := by
  simp [changeSource]

@[simp] theorem changeSource_reports (x : Source) (s : State) :
    (changeSource x s).reports = s.reports := by
  simp [changeSource]

@[simp] theorem changeSource_link (x : Source) (s : State) :
    (changeSource x s).link = s.link := by
  simp [changeSource]

@[simp] theorem checkSwitch_pending (s : State) :
    (checkSwitch s).pending = s.pending := by
  unfold checkSwitch; (repeat' split) <;> simp

@[simp] theorem checkSwitch_resetLow (s : State) :
    (checkSwitch s).resetLow = s.resetLow := by
  unfold checkSwitch; (repeat' split) <;> simp

@[simp] theorem checkSwitch_tables (s : State) :
    (checkSwitch s).tables = s.tables := by
  unfold checkSwitch; (repeat' split) <;> simp

@[simp] theorem checkSwitch_board (s : State) :
    (checkSwitch s).board = s.board := by
  unfold checkSwitch; (repeat' split) <;> simp

@[simp] theorem checkSwitch_entries (s : State) :
    (checkSwitch s).entries = s.entries := by
  unfold checkSwitch; (repeat' split) <;> simp

@[simp] theorem checkSwitch_reductions (s : State) :
    (checkSwitch s).reductions = s.reductions := by
  unfold checkSwitch; (repeat' split) <;> simp

@[simp] theorem checkSwitch_raw (s : State) :
    (checkSwitch s).raw = s.raw := by
  unfold checkSwitch; (repeat' split) <;> simp

@[simp] theorem checkSwitch_netStates (s : State) :
    (checkSwitch s).netStates = s.netStates := by
  unfold checkSwitch; (repeat' split) <;> simp

@[simp] theorem checkSwitch_groups (s : State) :
    (checkSwitch s).groups = s.groups := by
  unfold checkSwitch; (repeat' split) <;> simp

@[simp] theorem checkSwitch_sigs (s : State) :
    (checkSwitch s).sigs = s.sigs := by
  unfold checkSwitch; (repeat' split) <;> simp

@[simp] theorem checkSwitch_reports (s : State) :
    (checkSwitch s).reports = s.reports := by
  unfold checkSwitch; (repeat' split) <;> simp

@[simp] theorem checkSwitch_link (s : State) :
    (checkSwitch s).link = s.link := by
  unfold checkSwitch; (repeat' split) <;> simp

@[simp] theorem abandonSwitch_pending (p : Nat) (s : State) :
    (abandonSwitch p s).pending = s.pending := by
  simp [abandonSwitch]

@[simp] theorem abandonSwitch_resetLow (p : Nat) (s : State) :
    (abandonSwitch p s).resetLow = s.resetLow := by
  simp [abandonSwitch]

@[simp] theorem abandonSwitch_tables (p : Nat) (s : State) :
    (abandonSwitch p s).tables = s.tables := by
  simp [abandonSwitch]

@[simp] theorem abandonSwitch_board (p : Nat) (s : State) :
    (abandonSwitch p s).board = s.board := by
  simp [abandonSwitch]

@[simp] theorem abandonSwitch_entries (p : Nat) (s : State) :
    (abandonSwitch p s).entries = s.entries := by
  simp [abandonSwitch]

@[simp] theorem abandonSwitch_lanes (p : Nat) (s : State) :
    (abandonSwitch p s).lanes = s.lanes := by
  simp [abandonSwitch]

@[simp] theorem abandonSwitch_reductions (p : Nat) (s : State) :
    (abandonSwitch p s).reductions = s.reductions := by
  simp [abandonSwitch]

@[simp] theorem abandonSwitch_raw (p : Nat) (s : State) :
    (abandonSwitch p s).raw = s.raw := by
  simp [abandonSwitch]

@[simp] theorem abandonSwitch_netStates (p : Nat) (s : State) :
    (abandonSwitch p s).netStates = s.netStates := by
  simp [abandonSwitch]

@[simp] theorem abandonSwitch_groups (p : Nat) (s : State) :
    (abandonSwitch p s).groups = s.groups := by
  simp [abandonSwitch]

@[simp] theorem abandonSwitch_sigs (p : Nat) (s : State) :
    (abandonSwitch p s).sigs = s.sigs := by
  simp [abandonSwitch]

@[simp] theorem abandonSwitch_gens (p : Nat) (s : State) :
    (abandonSwitch p s).gens = s.gens := by
  simp [abandonSwitch]

@[simp] theorem abandonSwitch_reports (p : Nat) (s : State) :
    (abandonSwitch p s).reports = s.reports := by
  simp [abandonSwitch]

@[simp] theorem abandonSwitch_link (p : Nat) (s : State) :
    (abandonSwitch p s).link = s.link := by
  simp [abandonSwitch]

@[simp] theorem releaseGen_pending (tag : Half) (s : State) :
    (releaseGen tag s).pending = s.pending := by
  simp only [releaseGen]; (repeat' split) <;> simp

@[simp] theorem releaseGen_resetLow (tag : Half) (s : State) :
    (releaseGen tag s).resetLow = s.resetLow := by
  simp only [releaseGen]; (repeat' split) <;> simp

@[simp] theorem releaseGen_tables (tag : Half) (s : State) :
    (releaseGen tag s).tables = s.tables := by
  simp only [releaseGen]; (repeat' split) <;> simp

@[simp] theorem releaseGen_board (tag : Half) (s : State) :
    (releaseGen tag s).board = s.board := by
  simp only [releaseGen]; (repeat' split) <;> simp

@[simp] theorem releaseGen_reductions (tag : Half) (s : State) :
    (releaseGen tag s).reductions = s.reductions := by
  simp only [releaseGen]; (repeat' split) <;> simp

@[simp] theorem releaseGen_raw (tag : Half) (s : State) :
    (releaseGen tag s).raw = s.raw := by
  simp only [releaseGen]; (repeat' split) <;> simp

@[simp] theorem releaseGen_netStates (tag : Half) (s : State) :
    (releaseGen tag s).netStates = s.netStates := by
  simp only [releaseGen]; (repeat' split) <;> simp

@[simp] theorem releaseGen_groups (tag : Half) (s : State) :
    (releaseGen tag s).groups = s.groups := by
  simp only [releaseGen]; (repeat' split) <;> simp

@[simp] theorem releaseGen_sigs (tag : Half) (s : State) :
    (releaseGen tag s).sigs = s.sigs := by
  simp only [releaseGen]; (repeat' split) <;> simp

@[simp] theorem releaseGen_reports (tag : Half) (s : State) :
    (releaseGen tag s).reports = s.reports := by
  simp only [releaseGen]; (repeat' split) <;> simp

@[simp] theorem releaseGen_link (tag : Half) (s : State) :
    (releaseGen tag s).link = s.link := by
  simp only [releaseGen]; (repeat' split) <;> simp

@[simp] theorem attach_pending (tag : Half) (g : GenId) (s : State) :
    (attach tag g s).pending = s.pending := by
  simp [attach]

@[simp] theorem attach_resetLow (tag : Half) (g : GenId) (s : State) :
    (attach tag g s).resetLow = s.resetLow := by
  simp [attach]

@[simp] theorem attach_tables (tag : Half) (g : GenId) (s : State) :
    (attach tag g s).tables = s.tables := by
  simp [attach]

@[simp] theorem attach_board (tag : Half) (g : GenId) (s : State) :
    (attach tag g s).board = s.board := by
  simp [attach]

@[simp] theorem attach_reductions (tag : Half) (g : GenId) (s : State) :
    (attach tag g s).reductions = s.reductions := by
  simp [attach]

@[simp] theorem attach_raw (tag : Half) (g : GenId) (s : State) :
    (attach tag g s).raw = s.raw := by
  simp [attach]

@[simp] theorem attach_netStates (tag : Half) (g : GenId) (s : State) :
    (attach tag g s).netStates = s.netStates := by
  simp [attach]

@[simp] theorem attach_groups (tag : Half) (g : GenId) (s : State) :
    (attach tag g s).groups = s.groups := by
  simp [attach]

@[simp] theorem attach_sigs (tag : Half) (g : GenId) (s : State) :
    (attach tag g s).sigs = s.sigs := by
  simp [attach]

@[simp] theorem attach_tb (tag : Half) (g : GenId) (s : State) :
    (attach tag g s).tb = s.tb := by
  simp [attach]

@[simp] theorem attach_reports (tag : Half) (g : GenId) (s : State) :
    (attach tag g s).reports = s.reports := by
  simp [attach]

@[simp] theorem attach_link (tag : Half) (g : GenId) (s : State) :
    (attach tag g s).link = s.link := by
  simp [attach]

@[simp] theorem attach_events (tag : Half) (g : GenId) (s : State) :
    (attach tag g s).events = s.events := by
  simp [attach]

@[simp] theorem serveEntry_pending (e : Entry) (later : List Entry) (s : State) :
    (serveEntry e later s).pending = s.pending := by
  unfold serveEntry; (repeat' split) <;> simp

@[simp] theorem serveEntry_resetLow (e : Entry) (later : List Entry) (s : State) :
    (serveEntry e later s).resetLow = s.resetLow := by
  unfold serveEntry; (repeat' split) <;> simp

@[simp] theorem serveEntry_tables (e : Entry) (later : List Entry) (s : State) :
    (serveEntry e later s).tables = s.tables := by
  unfold serveEntry; (repeat' split) <;> simp

@[simp] theorem serveEntry_board (e : Entry) (later : List Entry) (s : State) :
    (serveEntry e later s).board = s.board := by
  unfold serveEntry; (repeat' split) <;> simp

@[simp] theorem serveEntry_reductions (e : Entry) (later : List Entry) (s : State) :
    (serveEntry e later s).reductions = s.reductions := by
  unfold serveEntry; (repeat' split) <;> simp

@[simp] theorem serveEntry_raw (e : Entry) (later : List Entry) (s : State) :
    (serveEntry e later s).raw = s.raw := by
  unfold serveEntry; (repeat' split) <;> simp

@[simp] theorem serveEntry_netStates (e : Entry) (later : List Entry) (s : State) :
    (serveEntry e later s).netStates = s.netStates := by
  unfold serveEntry; (repeat' split) <;> simp

@[simp] theorem serveEntry_groups (e : Entry) (later : List Entry) (s : State) :
    (serveEntry e later s).groups = s.groups := by
  unfold serveEntry; (repeat' split) <;> simp

@[simp] theorem serveEntry_sigs (e : Entry) (later : List Entry) (s : State) :
    (serveEntry e later s).sigs = s.sigs := by
  unfold serveEntry; (repeat' split) <;> simp

@[simp] theorem serveEntry_tb (e : Entry) (later : List Entry) (s : State) :
    (serveEntry e later s).tb = s.tb := by
  unfold serveEntry; (repeat' split) <;> simp

@[simp] theorem serveEntry_reports (e : Entry) (later : List Entry) (s : State) :
    (serveEntry e later s).reports = s.reports := by
  unfold serveEntry; (repeat' split) <;> simp

@[simp] theorem serveEntry_link (e : Entry) (later : List Entry) (s : State) :
    (serveEntry e later s).link = s.link := by
  unfold serveEntry; (repeat' split) <;> simp

@[simp] theorem serveEntry_events (e : Entry) (later : List Entry) (s : State) :
    (serveEntry e later s).events = s.events := by
  unfold serveEntry; (repeat' split) <;> simp

@[simp] theorem serveAll_pending (es : List Entry) (s : State) :
    (serveAll es s).pending = s.pending := by
  induction es generalizing s with
  | nil => rfl
  | cons e later ih => simp [serveAll, ih]

@[simp] theorem serveAll_resetLow (es : List Entry) (s : State) :
    (serveAll es s).resetLow = s.resetLow := by
  induction es generalizing s with
  | nil => rfl
  | cons e later ih => simp [serveAll, ih]

@[simp] theorem serveAll_tables (es : List Entry) (s : State) :
    (serveAll es s).tables = s.tables := by
  induction es generalizing s with
  | nil => rfl
  | cons e later ih => simp [serveAll, ih]

@[simp] theorem serveAll_board (es : List Entry) (s : State) :
    (serveAll es s).board = s.board := by
  induction es generalizing s with
  | nil => rfl
  | cons e later ih => simp [serveAll, ih]

@[simp] theorem serveAll_reductions (es : List Entry) (s : State) :
    (serveAll es s).reductions = s.reductions := by
  induction es generalizing s with
  | nil => rfl
  | cons e later ih => simp [serveAll, ih]

@[simp] theorem serveAll_raw (es : List Entry) (s : State) :
    (serveAll es s).raw = s.raw := by
  induction es generalizing s with
  | nil => rfl
  | cons e later ih => simp [serveAll, ih]

@[simp] theorem serveAll_netStates (es : List Entry) (s : State) :
    (serveAll es s).netStates = s.netStates := by
  induction es generalizing s with
  | nil => rfl
  | cons e later ih => simp [serveAll, ih]

@[simp] theorem serveAll_groups (es : List Entry) (s : State) :
    (serveAll es s).groups = s.groups := by
  induction es generalizing s with
  | nil => rfl
  | cons e later ih => simp [serveAll, ih]

@[simp] theorem serveAll_sigs (es : List Entry) (s : State) :
    (serveAll es s).sigs = s.sigs := by
  induction es generalizing s with
  | nil => rfl
  | cons e later ih => simp [serveAll, ih]

@[simp] theorem serveAll_tb (es : List Entry) (s : State) :
    (serveAll es s).tb = s.tb := by
  induction es generalizing s with
  | nil => rfl
  | cons e later ih => simp [serveAll, ih]

@[simp] theorem serveAll_reports (es : List Entry) (s : State) :
    (serveAll es s).reports = s.reports := by
  induction es generalizing s with
  | nil => rfl
  | cons e later ih => simp [serveAll, ih]

@[simp] theorem serveAll_link (es : List Entry) (s : State) :
    (serveAll es s).link = s.link := by
  induction es generalizing s with
  | nil => rfl
  | cons e later ih => simp [serveAll, ih]

@[simp] theorem serveAll_events (es : List Entry) (s : State) :
    (serveAll es s).events = s.events := by
  induction es generalizing s with
  | nil => rfl
  | cons e later ih => simp [serveAll, ih]

@[simp] theorem arbiterPass_pending (s : State) :
    (arbiterPass s).pending = s.pending := by
  unfold arbiterPass; split <;> simp

@[simp] theorem arbiterPass_resetLow (s : State) :
    (arbiterPass s).resetLow = s.resetLow := by
  unfold arbiterPass; split <;> simp

@[simp] theorem arbiterPass_tables (s : State) :
    (arbiterPass s).tables = s.tables := by
  unfold arbiterPass; split <;> simp

@[simp] theorem arbiterPass_board (s : State) :
    (arbiterPass s).board = s.board := by
  unfold arbiterPass; split <;> simp

@[simp] theorem arbiterPass_reductions (s : State) :
    (arbiterPass s).reductions = s.reductions := by
  unfold arbiterPass; split <;> simp

@[simp] theorem arbiterPass_raw (s : State) :
    (arbiterPass s).raw = s.raw := by
  unfold arbiterPass; split <;> simp

@[simp] theorem arbiterPass_netStates (s : State) :
    (arbiterPass s).netStates = s.netStates := by
  unfold arbiterPass; split <;> simp

@[simp] theorem arbiterPass_groups (s : State) :
    (arbiterPass s).groups = s.groups := by
  unfold arbiterPass; split <;> simp

@[simp] theorem arbiterPass_sigs (s : State) :
    (arbiterPass s).sigs = s.sigs := by
  unfold arbiterPass; split <;> simp

@[simp] theorem arbiterPass_tb (s : State) :
    (arbiterPass s).tb = s.tb := by
  unfold arbiterPass; split <;> simp

@[simp] theorem arbiterPass_reports (s : State) :
    (arbiterPass s).reports = s.reports := by
  unfold arbiterPass; split <;> simp

@[simp] theorem arbiterPass_link (s : State) :
    (arbiterPass s).link = s.link := by
  unfold arbiterPass; split <;> simp

@[simp] theorem arbiterPass_events (s : State) :
    (arbiterPass s).events = s.events := by
  unfold arbiterPass; split <;> simp

@[simp] theorem arbiterAfter_pending (before s : State) :
    (arbiterAfter before s).pending = s.pending := by
  unfold arbiterAfter; split <;> simp

@[simp] theorem arbiterAfter_resetLow (before s : State) :
    (arbiterAfter before s).resetLow = s.resetLow := by
  unfold arbiterAfter; split <;> simp

@[simp] theorem arbiterAfter_tables (before s : State) :
    (arbiterAfter before s).tables = s.tables := by
  unfold arbiterAfter; split <;> simp

@[simp] theorem arbiterAfter_board (before s : State) :
    (arbiterAfter before s).board = s.board := by
  unfold arbiterAfter; split <;> simp

@[simp] theorem arbiterAfter_reductions (before s : State) :
    (arbiterAfter before s).reductions = s.reductions := by
  unfold arbiterAfter; split <;> simp

@[simp] theorem arbiterAfter_raw (before s : State) :
    (arbiterAfter before s).raw = s.raw := by
  unfold arbiterAfter; split <;> simp

@[simp] theorem arbiterAfter_netStates (before s : State) :
    (arbiterAfter before s).netStates = s.netStates := by
  unfold arbiterAfter; split <;> simp

@[simp] theorem arbiterAfter_groups (before s : State) :
    (arbiterAfter before s).groups = s.groups := by
  unfold arbiterAfter; split <;> simp

@[simp] theorem arbiterAfter_sigs (before s : State) :
    (arbiterAfter before s).sigs = s.sigs := by
  unfold arbiterAfter; split <;> simp

@[simp] theorem arbiterAfter_tb (before s : State) :
    (arbiterAfter before s).tb = s.tb := by
  unfold arbiterAfter; split <;> simp

@[simp] theorem arbiterAfter_reports (before s : State) :
    (arbiterAfter before s).reports = s.reports := by
  unfold arbiterAfter; split <;> simp

@[simp] theorem arbiterAfter_link (before s : State) :
    (arbiterAfter before s).link = s.link := by
  unfold arbiterAfter; split <;> simp

@[simp] theorem arbiterAfter_events (before s : State) :
    (arbiterAfter before s).events = s.events := by
  unfold arbiterAfter; split <;> simp

@[simp] theorem retireFixed_pending (tag : Half) (s : State) :
    (retireFixed tag s).pending = s.pending := by
  unfold retireFixed; (repeat' split) <;> simp

@[simp] theorem retireFixed_resetLow (tag : Half) (s : State) :
    (retireFixed tag s).resetLow = s.resetLow := by
  unfold retireFixed; (repeat' split) <;> simp

@[simp] theorem retireFixed_tables (tag : Half) (s : State) :
    (retireFixed tag s).tables = s.tables := by
  unfold retireFixed; (repeat' split) <;> simp

@[simp] theorem retireFixed_board (tag : Half) (s : State) :
    (retireFixed tag s).board = s.board := by
  unfold retireFixed; (repeat' split) <;> simp

@[simp] theorem retireFixed_lanes (tag : Half) (s : State) :
    (retireFixed tag s).lanes = s.lanes := by
  unfold retireFixed; (repeat' split) <;> simp

@[simp] theorem retireFixed_reductions (tag : Half) (s : State) :
    (retireFixed tag s).reductions = s.reductions := by
  unfold retireFixed; (repeat' split) <;> simp

@[simp] theorem retireFixed_raw (tag : Half) (s : State) :
    (retireFixed tag s).raw = s.raw := by
  unfold retireFixed; (repeat' split) <;> simp

@[simp] theorem retireFixed_netStates (tag : Half) (s : State) :
    (retireFixed tag s).netStates = s.netStates := by
  unfold retireFixed; (repeat' split) <;> simp

@[simp] theorem retireFixed_groups (tag : Half) (s : State) :
    (retireFixed tag s).groups = s.groups := by
  unfold retireFixed; (repeat' split) <;> simp

@[simp] theorem retireFixed_sigs (tag : Half) (s : State) :
    (retireFixed tag s).sigs = s.sigs := by
  unfold retireFixed; (repeat' split) <;> simp

@[simp] theorem retireFixed_gens (tag : Half) (s : State) :
    (retireFixed tag s).gens = s.gens := by
  unfold retireFixed; (repeat' split) <;> simp

@[simp] theorem retireFixed_tb (tag : Half) (s : State) :
    (retireFixed tag s).tb = s.tb := by
  unfold retireFixed; (repeat' split) <;> simp

@[simp] theorem retireFixed_link (tag : Half) (s : State) :
    (retireFixed tag s).link = s.link := by
  unfold retireFixed; (repeat' split) <;> simp

@[simp] theorem retireFixed_events (tag : Half) (s : State) :
    (retireFixed tag s).events = s.events := by
  unfold retireFixed; (repeat' split) <;> simp

/-- What a function of the state leaves alone, a fold of it over a list leaves alone. -/
theorem foldl_keeps {α β : Type} (g : State → β) (f : State → α → State)
    (h : ∀ s a, g (f s a) = g s) (l : List α) (s : State) : g (l.foldl f s) = g s := by
  induction l generalizing s with
  | nil => rfl
  | cons a l ih => rw [List.foldl_cons, ih, h]

@[simp] theorem fixEntries_pending (p : Entry → Bool) (o : FixedOutcome) (s : State) :
    (fixEntries p o s).pending = s.pending := by
  simp [fixEntries, foldl_keeps State.pending]

@[simp] theorem fixEntries_resetLow (p : Entry → Bool) (o : FixedOutcome) (s : State) :
    (fixEntries p o s).resetLow = s.resetLow := by
  simp [fixEntries, foldl_keeps State.resetLow]

@[simp] theorem fixEntries_tables (p : Entry → Bool) (o : FixedOutcome) (s : State) :
    (fixEntries p o s).tables = s.tables := by
  simp [fixEntries, foldl_keeps State.tables]

@[simp] theorem fixEntries_board (p : Entry → Bool) (o : FixedOutcome) (s : State) :
    (fixEntries p o s).board = s.board := by
  simp [fixEntries, foldl_keeps State.board]

@[simp] theorem fixEntries_reductions (p : Entry → Bool) (o : FixedOutcome) (s : State) :
    (fixEntries p o s).reductions = s.reductions := by
  simp [fixEntries, foldl_keeps State.reductions]

@[simp] theorem fixEntries_raw (p : Entry → Bool) (o : FixedOutcome) (s : State) :
    (fixEntries p o s).raw = s.raw := by
  simp [fixEntries, foldl_keeps State.raw]

@[simp] theorem fixEntries_netStates (p : Entry → Bool) (o : FixedOutcome) (s : State) :
    (fixEntries p o s).netStates = s.netStates := by
  simp [fixEntries, foldl_keeps State.netStates]

@[simp] theorem fixEntries_groups (p : Entry → Bool) (o : FixedOutcome) (s : State) :
    (fixEntries p o s).groups = s.groups := by
  simp [fixEntries, foldl_keeps State.groups]

@[simp] theorem fixEntries_sigs (p : Entry → Bool) (o : FixedOutcome) (s : State) :
    (fixEntries p o s).sigs = s.sigs := by
  simp [fixEntries, foldl_keeps State.sigs]

@[simp] theorem fixEntries_link (p : Entry → Bool) (o : FixedOutcome) (s : State) :
    (fixEntries p o s).link = s.link := by
  simp [fixEntries, foldl_keeps State.link]

@[simp] theorem skipEntry_pending (tag : Half) (s : State) :
    (skipEntry tag s).pending = s.pending := by
  simp [skipEntry]

@[simp] theorem skipEntry_resetLow (tag : Half) (s : State) :
    (skipEntry tag s).resetLow = s.resetLow := by
  simp [skipEntry]

@[simp] theorem skipEntry_tables (tag : Half) (s : State) :
    (skipEntry tag s).tables = s.tables := by
  simp [skipEntry]

@[simp] theorem skipEntry_board (tag : Half) (s : State) :
    (skipEntry tag s).board = s.board := by
  simp [skipEntry]

@[simp] theorem skipEntry_reductions (tag : Half) (s : State) :
    (skipEntry tag s).reductions = s.reductions := by
  simp [skipEntry]

@[simp] theorem skipEntry_raw (tag : Half) (s : State) :
    (skipEntry tag s).raw = s.raw := by
  simp [skipEntry]

@[simp] theorem skipEntry_netStates (tag : Half) (s : State) :
    (skipEntry tag s).netStates = s.netStates := by
  simp [skipEntry]

@[simp] theorem skipEntry_groups (tag : Half) (s : State) :
    (skipEntry tag s).groups = s.groups := by
  simp [skipEntry]

@[simp] theorem skipEntry_sigs (tag : Half) (s : State) :
    (skipEntry tag s).sigs = s.sigs := by
  simp [skipEntry]

@[simp] theorem skipEntry_link (tag : Half) (s : State) :
    (skipEntry tag s).link = s.link := by
  simp [skipEntry]

@[simp] theorem closeEntry_pending (e : Entry) (s : State) :
    (closeEntry e s).pending = s.pending := by
  simp [closeEntry]

@[simp] theorem closeEntry_resetLow (e : Entry) (s : State) :
    (closeEntry e s).resetLow = s.resetLow := by
  simp [closeEntry]

@[simp] theorem closeEntry_tables (e : Entry) (s : State) :
    (closeEntry e s).tables = s.tables := by
  simp [closeEntry]

@[simp] theorem closeEntry_board (e : Entry) (s : State) :
    (closeEntry e s).board = s.board := by
  simp [closeEntry]

@[simp] theorem closeEntry_reductions (e : Entry) (s : State) :
    (closeEntry e s).reductions = s.reductions := by
  simp [closeEntry]

@[simp] theorem closeEntry_raw (e : Entry) (s : State) :
    (closeEntry e s).raw = s.raw := by
  simp [closeEntry]

@[simp] theorem closeEntry_netStates (e : Entry) (s : State) :
    (closeEntry e s).netStates = s.netStates := by
  simp [closeEntry]

@[simp] theorem closeEntry_groups (e : Entry) (s : State) :
    (closeEntry e s).groups = s.groups := by
  simp [closeEntry]

@[simp] theorem closeEntry_sigs (e : Entry) (s : State) :
    (closeEntry e s).sigs = s.sigs := by
  simp [closeEntry]

@[simp] theorem closeEntry_reports (e : Entry) (s : State) :
    (closeEntry e s).reports = s.reports := by
  simp [closeEntry]

@[simp] theorem closeEntry_link (e : Entry) (s : State) :
    (closeEntry e s).link = s.link := by
  simp [closeEntry]

@[simp] theorem takeMergesFrom_pending (rs : List MergeRequest) (s : State) :
    (takeMergesFrom rs s).pending = s.pending := by
  induction rs generalizing s with
  | nil => rfl
  | cons r rest ih => simp only [takeMergesFrom]; split <;> simp [ih]

@[simp] theorem takeMergesFrom_resetLow (rs : List MergeRequest) (s : State) :
    (takeMergesFrom rs s).resetLow = s.resetLow := by
  induction rs generalizing s with
  | nil => rfl
  | cons r rest ih => simp only [takeMergesFrom]; split <;> simp [ih]

@[simp] theorem takeMergesFrom_tables (rs : List MergeRequest) (s : State) :
    (takeMergesFrom rs s).tables = s.tables := by
  induction rs generalizing s with
  | nil => rfl
  | cons r rest ih => simp only [takeMergesFrom]; split <;> simp [ih]

@[simp] theorem takeMergesFrom_board (rs : List MergeRequest) (s : State) :
    (takeMergesFrom rs s).board = s.board := by
  induction rs generalizing s with
  | nil => rfl
  | cons r rest ih => simp only [takeMergesFrom]; split <;> simp [ih]

@[simp] theorem takeMergesFrom_entries (rs : List MergeRequest) (s : State) :
    (takeMergesFrom rs s).entries = s.entries := by
  induction rs generalizing s with
  | nil => rfl
  | cons r rest ih => simp only [takeMergesFrom]; split <;> simp [ih]

@[simp] theorem takeMergesFrom_lanes (rs : List MergeRequest) (s : State) :
    (takeMergesFrom rs s).lanes = s.lanes := by
  induction rs generalizing s with
  | nil => rfl
  | cons r rest ih => simp only [takeMergesFrom]; split <;> simp [ih]

@[simp] theorem takeMergesFrom_reductions (rs : List MergeRequest) (s : State) :
    (takeMergesFrom rs s).reductions = s.reductions := by
  induction rs generalizing s with
  | nil => rfl
  | cons r rest ih => simp only [takeMergesFrom]; split <;> simp [ih]

@[simp] theorem takeMergesFrom_raw (rs : List MergeRequest) (s : State) :
    (takeMergesFrom rs s).raw = s.raw := by
  induction rs generalizing s with
  | nil => rfl
  | cons r rest ih => simp only [takeMergesFrom]; split <;> simp [ih]

@[simp] theorem takeMergesFrom_netStates (rs : List MergeRequest) (s : State) :
    (takeMergesFrom rs s).netStates = s.netStates := by
  induction rs generalizing s with
  | nil => rfl
  | cons r rest ih => simp only [takeMergesFrom]; split <;> simp [ih]

@[simp] theorem takeMergesFrom_sigs (rs : List MergeRequest) (s : State) :
    (takeMergesFrom rs s).sigs = s.sigs := by
  induction rs generalizing s with
  | nil => rfl
  | cons r rest ih => simp only [takeMergesFrom]; split <;> simp [ih]

@[simp] theorem takeMergesFrom_gens (rs : List MergeRequest) (s : State) :
    (takeMergesFrom rs s).gens = s.gens := by
  induction rs generalizing s with
  | nil => rfl
  | cons r rest ih => simp only [takeMergesFrom]; split <;> simp [ih]

@[simp] theorem takeMergesFrom_tb (rs : List MergeRequest) (s : State) :
    (takeMergesFrom rs s).tb = s.tb := by
  induction rs generalizing s with
  | nil => rfl
  | cons r rest ih => simp only [takeMergesFrom]; split <;> simp [ih]

@[simp] theorem takeMergesFrom_link (rs : List MergeRequest) (s : State) :
    (takeMergesFrom rs s).link = s.link := by
  induction rs generalizing s with
  | nil => rfl
  | cons r rest ih => simp only [takeMergesFrom]; split <;> simp [ih]

@[simp] theorem takeMergesFrom_events (rs : List MergeRequest) (s : State) :
    (takeMergesFrom rs s).events = s.events := by
  induction rs generalizing s with
  | nil => rfl
  | cons r rest ih => simp only [takeMergesFrom]; split <;> simp [ih]

@[simp] theorem takeMerges_pending (s : State) :
    (takeMerges s).pending = s.pending := by
  unfold takeMerges; split <;> simp

@[simp] theorem takeMerges_resetLow (s : State) :
    (takeMerges s).resetLow = s.resetLow := by
  unfold takeMerges; split <;> simp

@[simp] theorem takeMerges_tables (s : State) :
    (takeMerges s).tables = s.tables := by
  unfold takeMerges; split <;> simp

@[simp] theorem takeMerges_board (s : State) :
    (takeMerges s).board = s.board := by
  unfold takeMerges; split <;> simp

@[simp] theorem takeMerges_entries (s : State) :
    (takeMerges s).entries = s.entries := by
  unfold takeMerges; split <;> simp

@[simp] theorem takeMerges_lanes (s : State) :
    (takeMerges s).lanes = s.lanes := by
  unfold takeMerges; split <;> simp

@[simp] theorem takeMerges_reductions (s : State) :
    (takeMerges s).reductions = s.reductions := by
  unfold takeMerges; split <;> simp

@[simp] theorem takeMerges_raw (s : State) :
    (takeMerges s).raw = s.raw := by
  unfold takeMerges; split <;> simp

@[simp] theorem takeMerges_netStates (s : State) :
    (takeMerges s).netStates = s.netStates := by
  unfold takeMerges; split <;> simp

@[simp] theorem takeMerges_sigs (s : State) :
    (takeMerges s).sigs = s.sigs := by
  unfold takeMerges; split <;> simp

@[simp] theorem takeMerges_gens (s : State) :
    (takeMerges s).gens = s.gens := by
  unfold takeMerges; split <;> simp

@[simp] theorem takeMerges_tb (s : State) :
    (takeMerges s).tb = s.tb := by
  unfold takeMerges; split <;> simp

@[simp] theorem takeMerges_link (s : State) :
    (takeMerges s).link = s.link := by
  unfold takeMerges; split <;> simp

@[simp] theorem takeMerges_events (s : State) :
    (takeMerges s).events = s.events := by
  unfold takeMerges; split <;> simp

@[simp] theorem queueMerge_pending (r : MergeRequest) (s : State) :
    (queueMerge r s).pending = s.pending := by
  simp [queueMerge]

@[simp] theorem queueMerge_resetLow (r : MergeRequest) (s : State) :
    (queueMerge r s).resetLow = s.resetLow := by
  simp [queueMerge]

@[simp] theorem queueMerge_tables (r : MergeRequest) (s : State) :
    (queueMerge r s).tables = s.tables := by
  simp [queueMerge]

@[simp] theorem queueMerge_board (r : MergeRequest) (s : State) :
    (queueMerge r s).board = s.board := by
  simp [queueMerge]

@[simp] theorem queueMerge_entries (r : MergeRequest) (s : State) :
    (queueMerge r s).entries = s.entries := by
  simp [queueMerge]

@[simp] theorem queueMerge_lanes (r : MergeRequest) (s : State) :
    (queueMerge r s).lanes = s.lanes := by
  simp [queueMerge]

@[simp] theorem queueMerge_reductions (r : MergeRequest) (s : State) :
    (queueMerge r s).reductions = s.reductions := by
  simp [queueMerge]

@[simp] theorem queueMerge_raw (r : MergeRequest) (s : State) :
    (queueMerge r s).raw = s.raw := by
  simp [queueMerge]

@[simp] theorem queueMerge_netStates (r : MergeRequest) (s : State) :
    (queueMerge r s).netStates = s.netStates := by
  simp [queueMerge]

@[simp] theorem queueMerge_sigs (r : MergeRequest) (s : State) :
    (queueMerge r s).sigs = s.sigs := by
  simp [queueMerge]

@[simp] theorem queueMerge_gens (r : MergeRequest) (s : State) :
    (queueMerge r s).gens = s.gens := by
  simp [queueMerge]

@[simp] theorem queueMerge_tb (r : MergeRequest) (s : State) :
    (queueMerge r s).tb = s.tb := by
  simp [queueMerge]

@[simp] theorem queueMerge_events (r : MergeRequest) (s : State) :
    (queueMerge r s).events = s.events := by
  simp [queueMerge]

@[simp] theorem dropMerge_pending (slot : Nat) (s : State) :
    (dropMerge slot s).pending = s.pending := by
  simp [dropMerge]

@[simp] theorem dropMerge_resetLow (slot : Nat) (s : State) :
    (dropMerge slot s).resetLow = s.resetLow := by
  simp [dropMerge]

@[simp] theorem dropMerge_tables (slot : Nat) (s : State) :
    (dropMerge slot s).tables = s.tables := by
  simp [dropMerge]

@[simp] theorem dropMerge_board (slot : Nat) (s : State) :
    (dropMerge slot s).board = s.board := by
  simp [dropMerge]

@[simp] theorem dropMerge_entries (slot : Nat) (s : State) :
    (dropMerge slot s).entries = s.entries := by
  simp [dropMerge]

@[simp] theorem dropMerge_lanes (slot : Nat) (s : State) :
    (dropMerge slot s).lanes = s.lanes := by
  simp [dropMerge]

@[simp] theorem dropMerge_reductions (slot : Nat) (s : State) :
    (dropMerge slot s).reductions = s.reductions := by
  simp [dropMerge]

@[simp] theorem dropMerge_raw (slot : Nat) (s : State) :
    (dropMerge slot s).raw = s.raw := by
  simp [dropMerge]

@[simp] theorem dropMerge_netStates (slot : Nat) (s : State) :
    (dropMerge slot s).netStates = s.netStates := by
  simp [dropMerge]

@[simp] theorem dropMerge_sigs (slot : Nat) (s : State) :
    (dropMerge slot s).sigs = s.sigs := by
  simp [dropMerge]

@[simp] theorem dropMerge_gens (slot : Nat) (s : State) :
    (dropMerge slot s).gens = s.gens := by
  simp [dropMerge]

@[simp] theorem dropMerge_tb (slot : Nat) (s : State) :
    (dropMerge slot s).tb = s.tb := by
  simp [dropMerge]

@[simp] theorem dropMerge_reports (slot : Nat) (s : State) :
    (dropMerge slot s).reports = s.reports := by
  simp [dropMerge]

@[simp] theorem dropMerge_link (slot : Nat) (s : State) :
    (dropMerge slot s).link = s.link := by
  simp [dropMerge]

@[simp] theorem relabelMember_pending (w : Walk) (n : Nat) (s : State) :
    (relabelMember w n s).pending = s.pending := by
  simp [relabelMember]

@[simp] theorem relabelMember_resetLow (w : Walk) (n : Nat) (s : State) :
    (relabelMember w n s).resetLow = s.resetLow := by
  simp [relabelMember]

@[simp] theorem relabelMember_tables (w : Walk) (n : Nat) (s : State) :
    (relabelMember w n s).tables = s.tables := by
  simp [relabelMember]

@[simp] theorem relabelMember_board (w : Walk) (n : Nat) (s : State) :
    (relabelMember w n s).board = s.board := by
  simp [relabelMember]

@[simp] theorem relabelMember_entries (w : Walk) (n : Nat) (s : State) :
    (relabelMember w n s).entries = s.entries := by
  simp [relabelMember]

@[simp] theorem relabelMember_lanes (w : Walk) (n : Nat) (s : State) :
    (relabelMember w n s).lanes = s.lanes := by
  simp [relabelMember]

@[simp] theorem relabelMember_reductions (w : Walk) (n : Nat) (s : State) :
    (relabelMember w n s).reductions = s.reductions := by
  simp [relabelMember]

@[simp] theorem relabelMember_raw (w : Walk) (n : Nat) (s : State) :
    (relabelMember w n s).raw = s.raw := by
  simp [relabelMember]

@[simp] theorem relabelMember_sigs (w : Walk) (n : Nat) (s : State) :
    (relabelMember w n s).sigs = s.sigs := by
  simp [relabelMember]

@[simp] theorem relabelMember_gens (w : Walk) (n : Nat) (s : State) :
    (relabelMember w n s).gens = s.gens := by
  simp [relabelMember]

@[simp] theorem relabelMember_tb (w : Walk) (n : Nat) (s : State) :
    (relabelMember w n s).tb = s.tb := by
  simp [relabelMember]

@[simp] theorem relabelMember_reports (w : Walk) (n : Nat) (s : State) :
    (relabelMember w n s).reports = s.reports := by
  simp [relabelMember]

@[simp] theorem relabelMember_link (w : Walk) (n : Nat) (s : State) :
    (relabelMember w n s).link = s.link := by
  simp [relabelMember]

@[simp] theorem relabelMember_events (w : Walk) (n : Nat) (s : State) :
    (relabelMember w n s).events = s.events := by
  simp [relabelMember]

@[simp] theorem joinGroups_pending (w : Walk) (s : State) :
    (joinGroups w s).pending = s.pending := by
  simp [joinGroups]

@[simp] theorem joinGroups_resetLow (w : Walk) (s : State) :
    (joinGroups w s).resetLow = s.resetLow := by
  simp [joinGroups]

@[simp] theorem joinGroups_tables (w : Walk) (s : State) :
    (joinGroups w s).tables = s.tables := by
  simp [joinGroups]

@[simp] theorem joinGroups_board (w : Walk) (s : State) :
    (joinGroups w s).board = s.board := by
  simp [joinGroups]

@[simp] theorem joinGroups_entries (w : Walk) (s : State) :
    (joinGroups w s).entries = s.entries := by
  simp [joinGroups]

@[simp] theorem joinGroups_lanes (w : Walk) (s : State) :
    (joinGroups w s).lanes = s.lanes := by
  simp [joinGroups]

@[simp] theorem joinGroups_reductions (w : Walk) (s : State) :
    (joinGroups w s).reductions = s.reductions := by
  simp [joinGroups]

@[simp] theorem joinGroups_raw (w : Walk) (s : State) :
    (joinGroups w s).raw = s.raw := by
  simp [joinGroups]

@[simp] theorem joinGroups_groups (w : Walk) (s : State) :
    (joinGroups w s).groups = s.groups := by
  simp [joinGroups]

@[simp] theorem joinGroups_sigs (w : Walk) (s : State) :
    (joinGroups w s).sigs = s.sigs := by
  simp [joinGroups]

@[simp] theorem joinGroups_gens (w : Walk) (s : State) :
    (joinGroups w s).gens = s.gens := by
  simp [joinGroups]

@[simp] theorem joinGroups_tb (w : Walk) (s : State) :
    (joinGroups w s).tb = s.tb := by
  simp [joinGroups]

@[simp] theorem joinGroups_reports (w : Walk) (s : State) :
    (joinGroups w s).reports = s.reports := by
  simp [joinGroups]

@[simp] theorem joinGroups_link (w : Walk) (s : State) :
    (joinGroups w s).link = s.link := by
  simp [joinGroups]

@[simp] theorem joinGroups_events (w : Walk) (s : State) :
    (joinGroups w s).events = s.events := by
  simp [joinGroups]

@[simp] theorem endWalk_pending (w : Walk) (s : State) :
    (endWalk w s).pending = s.pending := by
  simp [endWalk]

@[simp] theorem endWalk_resetLow (w : Walk) (s : State) :
    (endWalk w s).resetLow = s.resetLow := by
  simp [endWalk]

@[simp] theorem endWalk_tables (w : Walk) (s : State) :
    (endWalk w s).tables = s.tables := by
  simp [endWalk]

@[simp] theorem endWalk_board (w : Walk) (s : State) :
    (endWalk w s).board = s.board := by
  simp [endWalk]

@[simp] theorem endWalk_entries (w : Walk) (s : State) :
    (endWalk w s).entries = s.entries := by
  simp [endWalk]

@[simp] theorem endWalk_lanes (w : Walk) (s : State) :
    (endWalk w s).lanes = s.lanes := by
  simp [endWalk]

@[simp] theorem endWalk_reductions (w : Walk) (s : State) :
    (endWalk w s).reductions = s.reductions := by
  simp [endWalk]

@[simp] theorem endWalk_raw (w : Walk) (s : State) :
    (endWalk w s).raw = s.raw := by
  simp [endWalk]

@[simp] theorem endWalk_sigs (w : Walk) (s : State) :
    (endWalk w s).sigs = s.sigs := by
  simp [endWalk]

@[simp] theorem endWalk_gens (w : Walk) (s : State) :
    (endWalk w s).gens = s.gens := by
  simp [endWalk]

@[simp] theorem endWalk_tb (w : Walk) (s : State) :
    (endWalk w s).tb = s.tb := by
  simp [endWalk]

@[simp] theorem endWalk_events (w : Walk) (s : State) :
    (endWalk w s).events = s.events := by
  simp [endWalk]

@[simp] theorem foldl_releaseReport_pending (l : List MergeRequest) (s : State) :
    (l.foldl (fun s r => releaseReport r.report .unresolved s) s).pending = s.pending :=
  foldl_keeps State.pending (fun s r => releaseReport r.report .unresolved s) (fun _ _ => rfl) l s

@[simp] theorem foldl_setIncomplete_pending (l : List MergeRequest) (s : State) :
    (l.foldl (fun s r => setIncomplete r.slot s) s).pending = s.pending :=
  foldl_keeps State.pending (fun s r => setIncomplete r.slot s) (fun _ _ => rfl) l s

@[simp] theorem foldl_releaseReport_resetLow (l : List MergeRequest) (s : State) :
    (l.foldl (fun s r => releaseReport r.report .unresolved s) s).resetLow = s.resetLow :=
  foldl_keeps State.resetLow (fun s r => releaseReport r.report .unresolved s) (fun _ _ => rfl) l s

@[simp] theorem foldl_setIncomplete_resetLow (l : List MergeRequest) (s : State) :
    (l.foldl (fun s r => setIncomplete r.slot s) s).resetLow = s.resetLow :=
  foldl_keeps State.resetLow (fun s r => setIncomplete r.slot s) (fun _ _ => rfl) l s

@[simp] theorem foldl_releaseReport_tables (l : List MergeRequest) (s : State) :
    (l.foldl (fun s r => releaseReport r.report .unresolved s) s).tables = s.tables :=
  foldl_keeps State.tables (fun s r => releaseReport r.report .unresolved s) (fun _ _ => rfl) l s

@[simp] theorem foldl_setIncomplete_tables (l : List MergeRequest) (s : State) :
    (l.foldl (fun s r => setIncomplete r.slot s) s).tables = s.tables :=
  foldl_keeps State.tables (fun s r => setIncomplete r.slot s) (fun _ _ => rfl) l s

@[simp] theorem foldl_releaseReport_board (l : List MergeRequest) (s : State) :
    (l.foldl (fun s r => releaseReport r.report .unresolved s) s).board = s.board :=
  foldl_keeps State.board (fun s r => releaseReport r.report .unresolved s) (fun _ _ => rfl) l s

@[simp] theorem foldl_setIncomplete_board (l : List MergeRequest) (s : State) :
    (l.foldl (fun s r => setIncomplete r.slot s) s).board = s.board :=
  foldl_keeps State.board (fun s r => setIncomplete r.slot s) (fun _ _ => rfl) l s

@[simp] theorem foldl_releaseReport_entries (l : List MergeRequest) (s : State) :
    (l.foldl (fun s r => releaseReport r.report .unresolved s) s).entries = s.entries :=
  foldl_keeps State.entries (fun s r => releaseReport r.report .unresolved s) (fun _ _ => rfl) l s

@[simp] theorem foldl_setIncomplete_entries (l : List MergeRequest) (s : State) :
    (l.foldl (fun s r => setIncomplete r.slot s) s).entries = s.entries :=
  foldl_keeps State.entries (fun s r => setIncomplete r.slot s) (fun _ _ => rfl) l s

@[simp] theorem foldl_releaseReport_lanes (l : List MergeRequest) (s : State) :
    (l.foldl (fun s r => releaseReport r.report .unresolved s) s).lanes = s.lanes :=
  foldl_keeps State.lanes (fun s r => releaseReport r.report .unresolved s) (fun _ _ => rfl) l s

@[simp] theorem foldl_setIncomplete_lanes (l : List MergeRequest) (s : State) :
    (l.foldl (fun s r => setIncomplete r.slot s) s).lanes = s.lanes :=
  foldl_keeps State.lanes (fun s r => setIncomplete r.slot s) (fun _ _ => rfl) l s

@[simp] theorem foldl_releaseReport_reductions (l : List MergeRequest) (s : State) :
    (l.foldl (fun s r => releaseReport r.report .unresolved s) s).reductions = s.reductions :=
  foldl_keeps State.reductions (fun s r => releaseReport r.report .unresolved s) (fun _ _ => rfl) l s

@[simp] theorem foldl_setIncomplete_reductions (l : List MergeRequest) (s : State) :
    (l.foldl (fun s r => setIncomplete r.slot s) s).reductions = s.reductions :=
  foldl_keeps State.reductions (fun s r => setIncomplete r.slot s) (fun _ _ => rfl) l s

@[simp] theorem foldl_releaseReport_raw (l : List MergeRequest) (s : State) :
    (l.foldl (fun s r => releaseReport r.report .unresolved s) s).raw = s.raw :=
  foldl_keeps State.raw (fun s r => releaseReport r.report .unresolved s) (fun _ _ => rfl) l s

@[simp] theorem foldl_setIncomplete_raw (l : List MergeRequest) (s : State) :
    (l.foldl (fun s r => setIncomplete r.slot s) s).raw = s.raw :=
  foldl_keeps State.raw (fun s r => setIncomplete r.slot s) (fun _ _ => rfl) l s

@[simp] theorem foldl_releaseReport_netStates (l : List MergeRequest) (s : State) :
    (l.foldl (fun s r => releaseReport r.report .unresolved s) s).netStates = s.netStates :=
  foldl_keeps State.netStates (fun s r => releaseReport r.report .unresolved s) (fun _ _ => rfl) l s

@[simp] theorem foldl_setIncomplete_netStates (l : List MergeRequest) (s : State) :
    (l.foldl (fun s r => setIncomplete r.slot s) s).netStates = s.netStates :=
  foldl_keeps State.netStates (fun s r => setIncomplete r.slot s) (fun _ _ => rfl) l s

@[simp] theorem foldl_releaseReport_groups (l : List MergeRequest) (s : State) :
    (l.foldl (fun s r => releaseReport r.report .unresolved s) s).groups = s.groups :=
  foldl_keeps State.groups (fun s r => releaseReport r.report .unresolved s) (fun _ _ => rfl) l s

@[simp] theorem foldl_releaseReport_sigs (l : List MergeRequest) (s : State) :
    (l.foldl (fun s r => releaseReport r.report .unresolved s) s).sigs = s.sigs :=
  foldl_keeps State.sigs (fun s r => releaseReport r.report .unresolved s) (fun _ _ => rfl) l s

@[simp] theorem foldl_setIncomplete_sigs (l : List MergeRequest) (s : State) :
    (l.foldl (fun s r => setIncomplete r.slot s) s).sigs = s.sigs :=
  foldl_keeps State.sigs (fun s r => setIncomplete r.slot s) (fun _ _ => rfl) l s

@[simp] theorem foldl_releaseReport_gens (l : List MergeRequest) (s : State) :
    (l.foldl (fun s r => releaseReport r.report .unresolved s) s).gens = s.gens :=
  foldl_keeps State.gens (fun s r => releaseReport r.report .unresolved s) (fun _ _ => rfl) l s

@[simp] theorem foldl_setIncomplete_gens (l : List MergeRequest) (s : State) :
    (l.foldl (fun s r => setIncomplete r.slot s) s).gens = s.gens :=
  foldl_keeps State.gens (fun s r => setIncomplete r.slot s) (fun _ _ => rfl) l s

@[simp] theorem foldl_releaseReport_tb (l : List MergeRequest) (s : State) :
    (l.foldl (fun s r => releaseReport r.report .unresolved s) s).tb = s.tb :=
  foldl_keeps State.tb (fun s r => releaseReport r.report .unresolved s) (fun _ _ => rfl) l s

@[simp] theorem foldl_setIncomplete_tb (l : List MergeRequest) (s : State) :
    (l.foldl (fun s r => setIncomplete r.slot s) s).tb = s.tb :=
  foldl_keeps State.tb (fun s r => setIncomplete r.slot s) (fun _ _ => rfl) l s

@[simp] theorem foldl_setIncomplete_reports (l : List MergeRequest) (s : State) :
    (l.foldl (fun s r => setIncomplete r.slot s) s).reports = s.reports :=
  foldl_keeps State.reports (fun s r => setIncomplete r.slot s) (fun _ _ => rfl) l s

@[simp] theorem foldl_releaseReport_link (l : List MergeRequest) (s : State) :
    (l.foldl (fun s r => releaseReport r.report .unresolved s) s).link = s.link :=
  foldl_keeps State.link (fun s r => releaseReport r.report .unresolved s) (fun _ _ => rfl) l s

@[simp] theorem foldl_setIncomplete_link (l : List MergeRequest) (s : State) :
    (l.foldl (fun s r => setIncomplete r.slot s) s).link = s.link :=
  foldl_keeps State.link (fun s r => setIncomplete r.slot s) (fun _ _ => rfl) l s

@[simp] theorem foldl_releaseReport_events (l : List MergeRequest) (s : State) :
    (l.foldl (fun s r => releaseReport r.report .unresolved s) s).events = s.events :=
  foldl_keeps State.events (fun s r => releaseReport r.report .unresolved s) (fun _ _ => rfl) l s

@[simp] theorem foldl_setIncomplete_events (l : List MergeRequest) (s : State) :
    (l.foldl (fun s r => setIncomplete r.slot s) s).events = s.events :=
  foldl_keeps State.events (fun s r => setIncomplete r.slot s) (fun _ _ => rfl) l s

@[simp] theorem clearGroups_pending (s : State) : (clearGroups s).pending = s.pending := by
  simp [clearGroups]

@[simp] theorem clearGroups_resetLow (s : State) : (clearGroups s).resetLow = s.resetLow := by
  simp [clearGroups]

@[simp] theorem clearGroups_tables (s : State) : (clearGroups s).tables = s.tables := by
  simp [clearGroups]

@[simp] theorem clearGroups_board (s : State) : (clearGroups s).board = s.board := by
  simp [clearGroups]

@[simp] theorem clearGroups_entries (s : State) : (clearGroups s).entries = s.entries := by
  simp [clearGroups]

@[simp] theorem clearGroups_lanes (s : State) : (clearGroups s).lanes = s.lanes := by
  simp [clearGroups]

@[simp] theorem clearGroups_reductions (s : State) : (clearGroups s).reductions = s.reductions := by
  simp [clearGroups]

@[simp] theorem clearGroups_raw (s : State) : (clearGroups s).raw = s.raw := by
  simp [clearGroups]

@[simp] theorem clearGroups_sigs (s : State) : (clearGroups s).sigs = s.sigs := by
  simp [clearGroups]

@[simp] theorem clearGroups_gens (s : State) : (clearGroups s).gens = s.gens := by
  simp [clearGroups]

@[simp] theorem clearGroups_tb (s : State) : (clearGroups s).tb = s.tb := by
  simp [clearGroups]

@[simp] theorem clearGroups_link (s : State) : (clearGroups s).link = s.link := by
  simp [clearGroups]

@[simp] theorem clearGroups_events (s : State) : (clearGroups s).events = s.events := by
  simp [clearGroups]

@[simp] theorem startScan_pending (s : State) :
    (startScan s).pending = s.pending := rfl

@[simp] theorem startScan_resetLow (s : State) :
    (startScan s).resetLow = s.resetLow := rfl

@[simp] theorem startScan_tables (s : State) :
    (startScan s).tables = s.tables := rfl

@[simp] theorem startScan_board (s : State) :
    (startScan s).board = s.board := rfl

@[simp] theorem startScan_entries (s : State) :
    (startScan s).entries = s.entries := rfl

@[simp] theorem startScan_lanes (s : State) :
    (startScan s).lanes = s.lanes := rfl

@[simp] theorem startScan_reductions (s : State) :
    (startScan s).reductions = s.reductions := rfl

@[simp] theorem startScan_raw (s : State) :
    (startScan s).raw = s.raw := rfl

@[simp] theorem startScan_netStates (s : State) :
    (startScan s).netStates = s.netStates := rfl

@[simp] theorem startScan_groups (s : State) :
    (startScan s).groups = s.groups := rfl

@[simp] theorem startScan_gens (s : State) :
    (startScan s).gens = s.gens := rfl

@[simp] theorem startScan_tb (s : State) :
    (startScan s).tb = s.tb := rfl

@[simp] theorem startScan_reports (s : State) :
    (startScan s).reports = s.reports := rfl

@[simp] theorem startScan_link (s : State) :
    (startScan s).link = s.link := rfl

@[simp] theorem startScan_events (s : State) :
    (startScan s).events = s.events := rfl

@[simp] theorem requestScan_pending (s : State) :
    (requestScan s).pending = s.pending := by
  unfold requestScan; split <;> rfl

@[simp] theorem requestScan_resetLow (s : State) :
    (requestScan s).resetLow = s.resetLow := by
  unfold requestScan; split <;> rfl

@[simp] theorem requestScan_tables (s : State) :
    (requestScan s).tables = s.tables := by
  unfold requestScan; split <;> rfl

@[simp] theorem requestScan_board (s : State) :
    (requestScan s).board = s.board := by
  unfold requestScan; split <;> rfl

@[simp] theorem requestScan_entries (s : State) :
    (requestScan s).entries = s.entries := by
  unfold requestScan; split <;> rfl

@[simp] theorem requestScan_lanes (s : State) :
    (requestScan s).lanes = s.lanes := by
  unfold requestScan; split <;> rfl

@[simp] theorem requestScan_reductions (s : State) :
    (requestScan s).reductions = s.reductions := by
  unfold requestScan; split <;> rfl

@[simp] theorem requestScan_raw (s : State) :
    (requestScan s).raw = s.raw := by
  unfold requestScan; split <;> rfl

@[simp] theorem requestScan_netStates (s : State) :
    (requestScan s).netStates = s.netStates := by
  unfold requestScan; split <;> rfl

@[simp] theorem requestScan_groups (s : State) :
    (requestScan s).groups = s.groups := by
  unfold requestScan; split <;> rfl

@[simp] theorem requestScan_gens (s : State) :
    (requestScan s).gens = s.gens := by
  unfold requestScan; split <;> rfl

@[simp] theorem requestScan_tb (s : State) :
    (requestScan s).tb = s.tb := by
  unfold requestScan; split <;> rfl

@[simp] theorem requestScan_reports (s : State) :
    (requestScan s).reports = s.reports := by
  unfold requestScan; split <;> rfl

@[simp] theorem requestScan_link (s : State) :
    (requestScan s).link = s.link := by
  unfold requestScan; split <;> rfl

@[simp] theorem requestScan_events (s : State) :
    (requestScan s).events = s.events := by
  unfold requestScan; split <;> rfl

@[simp] theorem endScan_pending (s : State) :
    (endScan s).pending = s.pending := by
  unfold endScan; split <;> rfl

@[simp] theorem endScan_resetLow (s : State) :
    (endScan s).resetLow = s.resetLow := by
  unfold endScan; split <;> rfl

@[simp] theorem endScan_tables (s : State) :
    (endScan s).tables = s.tables := by
  unfold endScan; split <;> rfl

@[simp] theorem endScan_board (s : State) :
    (endScan s).board = s.board := by
  unfold endScan; split <;> rfl

@[simp] theorem endScan_entries (s : State) :
    (endScan s).entries = s.entries := by
  unfold endScan; split <;> rfl

@[simp] theorem endScan_lanes (s : State) :
    (endScan s).lanes = s.lanes := by
  unfold endScan; split <;> rfl

@[simp] theorem endScan_reductions (s : State) :
    (endScan s).reductions = s.reductions := by
  unfold endScan; split <;> rfl

@[simp] theorem endScan_raw (s : State) :
    (endScan s).raw = s.raw := by
  unfold endScan; split <;> rfl

@[simp] theorem endScan_netStates (s : State) :
    (endScan s).netStates = s.netStates := by
  unfold endScan; split <;> rfl

@[simp] theorem endScan_groups (s : State) :
    (endScan s).groups = s.groups := by
  unfold endScan; split <;> rfl

@[simp] theorem endScan_gens (s : State) :
    (endScan s).gens = s.gens := by
  unfold endScan; split <;> rfl

@[simp] theorem endScan_tb (s : State) :
    (endScan s).tb = s.tb := by
  unfold endScan; split <;> rfl

@[simp] theorem endScan_reports (s : State) :
    (endScan s).reports = s.reports := by
  unfold endScan; split <;> rfl

@[simp] theorem endScan_link (s : State) :
    (endScan s).link = s.link := by
  unfold endScan; split <;> rfl

@[simp] theorem endScan_events (s : State) :
    (endScan s).events = s.events := by
  unfold endScan; split <;> rfl

@[simp] theorem moveScan_pending (i : Nat) (s : State) :
    (moveScan i s).pending = s.pending := by
  unfold moveScan; split <;> simp

@[simp] theorem moveScan_resetLow (i : Nat) (s : State) :
    (moveScan i s).resetLow = s.resetLow := by
  unfold moveScan; split <;> simp

@[simp] theorem moveScan_tables (i : Nat) (s : State) :
    (moveScan i s).tables = s.tables := by
  unfold moveScan; split <;> simp

@[simp] theorem moveScan_board (i : Nat) (s : State) :
    (moveScan i s).board = s.board := by
  unfold moveScan; split <;> simp

@[simp] theorem moveScan_entries (i : Nat) (s : State) :
    (moveScan i s).entries = s.entries := by
  unfold moveScan; split <;> simp

@[simp] theorem moveScan_lanes (i : Nat) (s : State) :
    (moveScan i s).lanes = s.lanes := by
  unfold moveScan; split <;> simp

@[simp] theorem moveScan_reductions (i : Nat) (s : State) :
    (moveScan i s).reductions = s.reductions := by
  unfold moveScan; split <;> simp

@[simp] theorem moveScan_raw (i : Nat) (s : State) :
    (moveScan i s).raw = s.raw := by
  unfold moveScan; split <;> simp

@[simp] theorem moveScan_netStates (i : Nat) (s : State) :
    (moveScan i s).netStates = s.netStates := by
  unfold moveScan; split <;> simp

@[simp] theorem moveScan_groups (i : Nat) (s : State) :
    (moveScan i s).groups = s.groups := by
  unfold moveScan; split <;> simp

@[simp] theorem moveScan_gens (i : Nat) (s : State) :
    (moveScan i s).gens = s.gens := by
  unfold moveScan; split <;> simp

@[simp] theorem moveScan_tb (i : Nat) (s : State) :
    (moveScan i s).tb = s.tb := by
  unfold moveScan; split <;> simp

@[simp] theorem moveScan_reports (i : Nat) (s : State) :
    (moveScan i s).reports = s.reports := by
  unfold moveScan; split <;> simp

@[simp] theorem moveScan_link (i : Nat) (s : State) :
    (moveScan i s).link = s.link := by
  unfold moveScan; split <;> simp

@[simp] theorem moveScan_events (i : Nat) (s : State) :
    (moveScan i s).events = s.events := by
  unfold moveScan; split <;> simp

@[simp] theorem removeDeferred_pending (i : Nat) (s : State) :
    (removeDeferred i s).pending = s.pending := by
  unfold removeDeferred; (repeat' split) <;> simp

@[simp] theorem removeDeferred_resetLow (i : Nat) (s : State) :
    (removeDeferred i s).resetLow = s.resetLow := by
  unfold removeDeferred; (repeat' split) <;> simp

@[simp] theorem removeDeferred_tables (i : Nat) (s : State) :
    (removeDeferred i s).tables = s.tables := by
  unfold removeDeferred; (repeat' split) <;> simp

@[simp] theorem removeDeferred_board (i : Nat) (s : State) :
    (removeDeferred i s).board = s.board := by
  unfold removeDeferred; (repeat' split) <;> simp

@[simp] theorem removeDeferred_entries (i : Nat) (s : State) :
    (removeDeferred i s).entries = s.entries := by
  unfold removeDeferred; (repeat' split) <;> simp

@[simp] theorem removeDeferred_lanes (i : Nat) (s : State) :
    (removeDeferred i s).lanes = s.lanes := by
  unfold removeDeferred; (repeat' split) <;> simp

@[simp] theorem removeDeferred_reductions (i : Nat) (s : State) :
    (removeDeferred i s).reductions = s.reductions := by
  unfold removeDeferred; (repeat' split) <;> simp

@[simp] theorem removeDeferred_raw (i : Nat) (s : State) :
    (removeDeferred i s).raw = s.raw := by
  unfold removeDeferred; (repeat' split) <;> simp

@[simp] theorem removeDeferred_netStates (i : Nat) (s : State) :
    (removeDeferred i s).netStates = s.netStates := by
  unfold removeDeferred; (repeat' split) <;> simp

@[simp] theorem removeDeferred_groups (i : Nat) (s : State) :
    (removeDeferred i s).groups = s.groups := by
  unfold removeDeferred; (repeat' split) <;> simp

@[simp] theorem removeDeferred_gens (i : Nat) (s : State) :
    (removeDeferred i s).gens = s.gens := by
  unfold removeDeferred; (repeat' split) <;> simp

@[simp] theorem removeDeferred_tb (i : Nat) (s : State) :
    (removeDeferred i s).tb = s.tb := by
  unfold removeDeferred; (repeat' split) <;> simp

@[simp] theorem removeDeferred_reports (i : Nat) (s : State) :
    (removeDeferred i s).reports = s.reports := by
  unfold removeDeferred; (repeat' split) <;> simp

@[simp] theorem removeDeferred_link (i : Nat) (s : State) :
    (removeDeferred i s).link = s.link := by
  unfold removeDeferred; (repeat' split) <;> simp

@[simp] theorem removeDeferred_events (i : Nat) (s : State) :
    (removeDeferred i s).events = s.events := by
  unfold removeDeferred; (repeat' split) <;> simp

@[simp] theorem judgeDeferred_pending (i : Nat) (d : DeferredEntry) (ref : Nat) (s : State) :
    (judgeDeferred i d ref s).pending = s.pending := by
  simp only [judgeDeferred]; split <;> simp

@[simp] theorem judgeDeferred_resetLow (i : Nat) (d : DeferredEntry) (ref : Nat) (s : State) :
    (judgeDeferred i d ref s).resetLow = s.resetLow := by
  simp only [judgeDeferred]; split <;> simp

@[simp] theorem judgeDeferred_tables (i : Nat) (d : DeferredEntry) (ref : Nat) (s : State) :
    (judgeDeferred i d ref s).tables = s.tables := by
  simp only [judgeDeferred]; split <;> simp

@[simp] theorem judgeDeferred_board (i : Nat) (d : DeferredEntry) (ref : Nat) (s : State) :
    (judgeDeferred i d ref s).board = s.board := by
  simp only [judgeDeferred]; split <;> simp

@[simp] theorem judgeDeferred_entries (i : Nat) (d : DeferredEntry) (ref : Nat) (s : State) :
    (judgeDeferred i d ref s).entries = s.entries := by
  simp only [judgeDeferred]; split <;> simp

@[simp] theorem judgeDeferred_lanes (i : Nat) (d : DeferredEntry) (ref : Nat) (s : State) :
    (judgeDeferred i d ref s).lanes = s.lanes := by
  simp only [judgeDeferred]; split <;> simp

@[simp] theorem judgeDeferred_reductions (i : Nat) (d : DeferredEntry) (ref : Nat) (s : State) :
    (judgeDeferred i d ref s).reductions = s.reductions := by
  simp only [judgeDeferred]; split <;> simp

@[simp] theorem judgeDeferred_raw (i : Nat) (d : DeferredEntry) (ref : Nat) (s : State) :
    (judgeDeferred i d ref s).raw = s.raw := by
  simp only [judgeDeferred]; split <;> simp

@[simp] theorem judgeDeferred_groups (i : Nat) (d : DeferredEntry) (ref : Nat) (s : State) :
    (judgeDeferred i d ref s).groups = s.groups := by
  simp only [judgeDeferred]; split <;> simp

@[simp] theorem judgeDeferred_gens (i : Nat) (d : DeferredEntry) (ref : Nat) (s : State) :
    (judgeDeferred i d ref s).gens = s.gens := by
  simp only [judgeDeferred]; split <;> simp

@[simp] theorem judgeDeferred_tb (i : Nat) (d : DeferredEntry) (ref : Nat) (s : State) :
    (judgeDeferred i d ref s).tb = s.tb := by
  simp only [judgeDeferred]; split <;> simp

@[simp] theorem judgeDeferred_link (i : Nat) (d : DeferredEntry) (ref : Nat) (s : State) :
    (judgeDeferred i d ref s).link = s.link := by
  simp only [judgeDeferred]; split <;> simp

@[simp] theorem judgeDeferred_events (i : Nat) (d : DeferredEntry) (ref : Nat) (s : State) :
    (judgeDeferred i d ref s).events = s.events := by
  simp only [judgeDeferred]; split <;> simp

@[simp] theorem examineEntry_pending (s : State) :
    (examineEntry s).pending = s.pending := by
  unfold examineEntry; (repeat' split) <;> simp

@[simp] theorem examineEntry_resetLow (s : State) :
    (examineEntry s).resetLow = s.resetLow := by
  unfold examineEntry; (repeat' split) <;> simp

@[simp] theorem examineEntry_tables (s : State) :
    (examineEntry s).tables = s.tables := by
  unfold examineEntry; (repeat' split) <;> simp

@[simp] theorem examineEntry_board (s : State) :
    (examineEntry s).board = s.board := by
  unfold examineEntry; (repeat' split) <;> simp

@[simp] theorem examineEntry_entries (s : State) :
    (examineEntry s).entries = s.entries := by
  unfold examineEntry; (repeat' split) <;> simp

@[simp] theorem examineEntry_lanes (s : State) :
    (examineEntry s).lanes = s.lanes := by
  unfold examineEntry; (repeat' split) <;> simp

@[simp] theorem examineEntry_reductions (s : State) :
    (examineEntry s).reductions = s.reductions := by
  unfold examineEntry; (repeat' split) <;> simp

@[simp] theorem examineEntry_raw (s : State) :
    (examineEntry s).raw = s.raw := by
  unfold examineEntry; (repeat' split) <;> simp

@[simp] theorem examineEntry_groups (s : State) :
    (examineEntry s).groups = s.groups := by
  unfold examineEntry; (repeat' split) <;> simp

@[simp] theorem examineEntry_gens (s : State) :
    (examineEntry s).gens = s.gens := by
  unfold examineEntry; (repeat' split) <;> simp

@[simp] theorem examineEntry_tb (s : State) :
    (examineEntry s).tb = s.tb := by
  unfold examineEntry; (repeat' split) <;> simp

@[simp] theorem examineEntry_link (s : State) :
    (examineEntry s).link = s.link := by
  unfold examineEntry; (repeat' split) <;> simp

@[simp] theorem examineEntry_events (s : State) :
    (examineEntry s).events = s.events := by
  unfold examineEntry; (repeat' split) <;> simp

@[simp] theorem scanOne_pending (s : State) :
    (scanOne s).pending = s.pending := by
  unfold scanOne; split <;> simp

@[simp] theorem scanOne_resetLow (s : State) :
    (scanOne s).resetLow = s.resetLow := by
  unfold scanOne; split <;> simp

@[simp] theorem scanOne_tables (s : State) :
    (scanOne s).tables = s.tables := by
  unfold scanOne; split <;> simp

@[simp] theorem scanOne_board (s : State) :
    (scanOne s).board = s.board := by
  unfold scanOne; split <;> simp

@[simp] theorem scanOne_entries (s : State) :
    (scanOne s).entries = s.entries := by
  unfold scanOne; split <;> simp

@[simp] theorem scanOne_lanes (s : State) :
    (scanOne s).lanes = s.lanes := by
  unfold scanOne; split <;> simp

@[simp] theorem scanOne_reductions (s : State) :
    (scanOne s).reductions = s.reductions := by
  unfold scanOne; split <;> simp

@[simp] theorem scanOne_raw (s : State) :
    (scanOne s).raw = s.raw := by
  unfold scanOne; split <;> simp

@[simp] theorem scanOne_groups (s : State) :
    (scanOne s).groups = s.groups := by
  unfold scanOne; split <;> simp

@[simp] theorem scanOne_gens (s : State) :
    (scanOne s).gens = s.gens := by
  unfold scanOne; split <;> simp

@[simp] theorem scanOne_tb (s : State) :
    (scanOne s).tb = s.tb := by
  unfold scanOne; split <;> simp

@[simp] theorem scanOne_link (s : State) :
    (scanOne s).link = s.link := by
  unfold scanOne; split <;> simp

@[simp] theorem scanOne_events (s : State) :
    (scanOne s).events = s.events := by
  unfold scanOne; split <;> simp

@[simp] theorem runScan_pending (k : Nat) (s : State) : (runScan k s).pending = s.pending := by
  induction k generalizing s with
  | zero => rfl
  | succ k ih => simp only [runScan]; split <;> simp [ih]

@[simp] theorem runScan_resetLow (k : Nat) (s : State) : (runScan k s).resetLow = s.resetLow := by
  induction k generalizing s with
  | zero => rfl
  | succ k ih => simp only [runScan]; split <;> simp [ih]

@[simp] theorem runScan_tables (k : Nat) (s : State) : (runScan k s).tables = s.tables := by
  induction k generalizing s with
  | zero => rfl
  | succ k ih => simp only [runScan]; split <;> simp [ih]

@[simp] theorem runScan_board (k : Nat) (s : State) : (runScan k s).board = s.board := by
  induction k generalizing s with
  | zero => rfl
  | succ k ih => simp only [runScan]; split <;> simp [ih]

@[simp] theorem runScan_entries (k : Nat) (s : State) : (runScan k s).entries = s.entries := by
  induction k generalizing s with
  | zero => rfl
  | succ k ih => simp only [runScan]; split <;> simp [ih]

@[simp] theorem runScan_lanes (k : Nat) (s : State) : (runScan k s).lanes = s.lanes := by
  induction k generalizing s with
  | zero => rfl
  | succ k ih => simp only [runScan]; split <;> simp [ih]

@[simp] theorem runScan_reductions (k : Nat) (s : State) : (runScan k s).reductions = s.reductions := by
  induction k generalizing s with
  | zero => rfl
  | succ k ih => simp only [runScan]; split <;> simp [ih]

@[simp] theorem runScan_raw (k : Nat) (s : State) : (runScan k s).raw = s.raw := by
  induction k generalizing s with
  | zero => rfl
  | succ k ih => simp only [runScan]; split <;> simp [ih]

@[simp] theorem runScan_groups (k : Nat) (s : State) : (runScan k s).groups = s.groups := by
  induction k generalizing s with
  | zero => rfl
  | succ k ih => simp only [runScan]; split <;> simp [ih]

@[simp] theorem runScan_gens (k : Nat) (s : State) : (runScan k s).gens = s.gens := by
  induction k generalizing s with
  | zero => rfl
  | succ k ih => simp only [runScan]; split <;> simp [ih]

@[simp] theorem runScan_tb (k : Nat) (s : State) : (runScan k s).tb = s.tb := by
  induction k generalizing s with
  | zero => rfl
  | succ k ih => simp only [runScan]; split <;> simp [ih]

@[simp] theorem runScan_link (k : Nat) (s : State) : (runScan k s).link = s.link := by
  induction k generalizing s with
  | zero => rfl
  | succ k ih => simp only [runScan]; split <;> simp [ih]

@[simp] theorem runScan_events (k : Nat) (s : State) : (runScan k s).events = s.events := by
  induction k generalizing s with
  | zero => rfl
  | succ k ih => simp only [runScan]; split <;> simp [ih]

@[simp] theorem resumeScan_pending (s : State) :
    (resumeScan s).pending = s.pending := by
  simp [resumeScan]

@[simp] theorem resumeScan_resetLow (s : State) :
    (resumeScan s).resetLow = s.resetLow := by
  simp [resumeScan]

@[simp] theorem resumeScan_tables (s : State) :
    (resumeScan s).tables = s.tables := by
  simp [resumeScan]

@[simp] theorem resumeScan_board (s : State) :
    (resumeScan s).board = s.board := by
  simp [resumeScan]

@[simp] theorem resumeScan_entries (s : State) :
    (resumeScan s).entries = s.entries := by
  simp [resumeScan]

@[simp] theorem resumeScan_lanes (s : State) :
    (resumeScan s).lanes = s.lanes := by
  simp [resumeScan]

@[simp] theorem resumeScan_reductions (s : State) :
    (resumeScan s).reductions = s.reductions := by
  simp [resumeScan]

@[simp] theorem resumeScan_raw (s : State) :
    (resumeScan s).raw = s.raw := by
  simp [resumeScan]

@[simp] theorem resumeScan_groups (s : State) :
    (resumeScan s).groups = s.groups := by
  simp [resumeScan]

@[simp] theorem resumeScan_gens (s : State) :
    (resumeScan s).gens = s.gens := by
  simp [resumeScan]

@[simp] theorem resumeScan_tb (s : State) :
    (resumeScan s).tb = s.tb := by
  simp [resumeScan]

@[simp] theorem resumeScan_link (s : State) :
    (resumeScan s).link = s.link := by
  simp [resumeScan]

@[simp] theorem resumeScan_events (s : State) :
    (resumeScan s).events = s.events := by
  simp [resumeScan]

@[simp] theorem expireDue_pending (s : State) : (expireDue s).pending = s.pending := by
  simp [expireDue, foldl_keeps State.pending]

@[simp] theorem expireDue_resetLow (s : State) : (expireDue s).resetLow = s.resetLow := by
  simp [expireDue, foldl_keeps State.resetLow]

@[simp] theorem expireDue_tables (s : State) : (expireDue s).tables = s.tables := by
  simp [expireDue, foldl_keeps State.tables]

@[simp] theorem expireDue_board (s : State) : (expireDue s).board = s.board := by
  simp [expireDue, foldl_keeps State.board]

@[simp] theorem expireDue_entries (s : State) : (expireDue s).entries = s.entries := by
  simp [expireDue, foldl_keeps State.entries]

@[simp] theorem expireDue_lanes (s : State) : (expireDue s).lanes = s.lanes := by
  simp [expireDue, foldl_keeps State.lanes]

@[simp] theorem expireDue_reductions (s : State) : (expireDue s).reductions = s.reductions := by
  simp [expireDue, foldl_keeps State.reductions]

@[simp] theorem expireDue_raw (s : State) : (expireDue s).raw = s.raw := by
  simp [expireDue, foldl_keeps State.raw]

@[simp] theorem expireDue_netStates (s : State) : (expireDue s).netStates = s.netStates := by
  simp [expireDue, foldl_keeps State.netStates]

@[simp] theorem expireDue_groups (s : State) : (expireDue s).groups = s.groups := by
  simp [expireDue, foldl_keeps State.groups]

@[simp] theorem expireDue_gens (s : State) : (expireDue s).gens = s.gens := by
  simp [expireDue, foldl_keeps State.gens]

@[simp] theorem expireDue_tb (s : State) : (expireDue s).tb = s.tb := by
  simp [expireDue, foldl_keeps State.tb]

@[simp] theorem expireDue_reports (s : State) : (expireDue s).reports = s.reports := by
  simp [expireDue, foldl_keeps State.reports]

@[simp] theorem expireDue_link (s : State) : (expireDue s).link = s.link := by
  simp [expireDue, foldl_keeps State.link]

@[simp] theorem placeExpired_pending (s : State) :
    (placeExpired s).pending = s.pending := by
  unfold placeExpired; (repeat' split) <;> simp

@[simp] theorem placeExpired_resetLow (s : State) :
    (placeExpired s).resetLow = s.resetLow := by
  unfold placeExpired; (repeat' split) <;> simp

@[simp] theorem placeExpired_tables (s : State) :
    (placeExpired s).tables = s.tables := by
  unfold placeExpired; (repeat' split) <;> simp

@[simp] theorem placeExpired_board (s : State) :
    (placeExpired s).board = s.board := by
  unfold placeExpired; (repeat' split) <;> simp

@[simp] theorem placeExpired_entries (s : State) :
    (placeExpired s).entries = s.entries := by
  unfold placeExpired; (repeat' split) <;> simp

@[simp] theorem placeExpired_lanes (s : State) :
    (placeExpired s).lanes = s.lanes := by
  unfold placeExpired; (repeat' split) <;> simp

@[simp] theorem placeExpired_reductions (s : State) :
    (placeExpired s).reductions = s.reductions := by
  unfold placeExpired; (repeat' split) <;> simp

@[simp] theorem placeExpired_raw (s : State) :
    (placeExpired s).raw = s.raw := by
  unfold placeExpired; (repeat' split) <;> simp

@[simp] theorem placeExpired_netStates (s : State) :
    (placeExpired s).netStates = s.netStates := by
  unfold placeExpired; (repeat' split) <;> simp

@[simp] theorem placeExpired_groups (s : State) :
    (placeExpired s).groups = s.groups := by
  unfold placeExpired; (repeat' split) <;> simp

@[simp] theorem placeExpired_gens (s : State) :
    (placeExpired s).gens = s.gens := by
  unfold placeExpired; (repeat' split) <;> simp

@[simp] theorem placeExpired_tb (s : State) :
    (placeExpired s).tb = s.tb := by
  unfold placeExpired; (repeat' split) <;> simp

@[simp] theorem placeExpired_link (s : State) :
    (placeExpired s).link = s.link := by
  unfold placeExpired; (repeat' split) <;> simp

@[simp] theorem placeExpired_events (s : State) :
    (placeExpired s).events = s.events := by
  unfold placeExpired; (repeat' split) <;> simp

/-- What a step leaves alone, its repetition leaves alone. -/
theorem repeat_keeps {β : Type} (g : State → β) (f : State → State)
    (h : ∀ s, g (f s) = g s) (k : Nat) (s : State) : g (Nat.repeat f k s) = g s := by
  induction k with
  | zero => rfl
  | succ k ih => rw [Nat.repeat, h, ih]

@[simp] theorem placeAllExpired_pending (s : State) : (placeAllExpired s).pending = s.pending := by
  simp [placeAllExpired, repeat_keeps State.pending]

@[simp] theorem placeAllExpired_resetLow (s : State) : (placeAllExpired s).resetLow = s.resetLow := by
  simp [placeAllExpired, repeat_keeps State.resetLow]

@[simp] theorem placeAllExpired_tables (s : State) : (placeAllExpired s).tables = s.tables := by
  simp [placeAllExpired, repeat_keeps State.tables]

@[simp] theorem placeAllExpired_board (s : State) : (placeAllExpired s).board = s.board := by
  simp [placeAllExpired, repeat_keeps State.board]

@[simp] theorem placeAllExpired_entries (s : State) : (placeAllExpired s).entries = s.entries := by
  simp [placeAllExpired, repeat_keeps State.entries]

@[simp] theorem placeAllExpired_lanes (s : State) : (placeAllExpired s).lanes = s.lanes := by
  simp [placeAllExpired, repeat_keeps State.lanes]

@[simp] theorem placeAllExpired_reductions (s : State) : (placeAllExpired s).reductions = s.reductions := by
  simp [placeAllExpired, repeat_keeps State.reductions]

@[simp] theorem placeAllExpired_raw (s : State) : (placeAllExpired s).raw = s.raw := by
  simp [placeAllExpired, repeat_keeps State.raw]

@[simp] theorem placeAllExpired_netStates (s : State) : (placeAllExpired s).netStates = s.netStates := by
  simp [placeAllExpired, repeat_keeps State.netStates]

@[simp] theorem placeAllExpired_groups (s : State) : (placeAllExpired s).groups = s.groups := by
  simp [placeAllExpired, repeat_keeps State.groups]

@[simp] theorem placeAllExpired_gens (s : State) : (placeAllExpired s).gens = s.gens := by
  simp [placeAllExpired, repeat_keeps State.gens]

@[simp] theorem placeAllExpired_tb (s : State) : (placeAllExpired s).tb = s.tb := by
  simp [placeAllExpired, repeat_keeps State.tb]

@[simp] theorem placeAllExpired_link (s : State) : (placeAllExpired s).link = s.link := by
  simp [placeAllExpired, repeat_keeps State.link]

@[simp] theorem placeAllExpired_events (s : State) : (placeAllExpired s).events = s.events := by
  simp [placeAllExpired, repeat_keeps State.events]

@[simp] theorem freezeReference_pending (net ref : Nat) (s : State) :
    (freezeReference net ref s).pending = s.pending := by
  simp [freezeReference]

@[simp] theorem freezeReference_resetLow (net ref : Nat) (s : State) :
    (freezeReference net ref s).resetLow = s.resetLow := by
  simp [freezeReference]

@[simp] theorem freezeReference_tables (net ref : Nat) (s : State) :
    (freezeReference net ref s).tables = s.tables := by
  simp [freezeReference]

@[simp] theorem freezeReference_board (net ref : Nat) (s : State) :
    (freezeReference net ref s).board = s.board := by
  simp [freezeReference]

@[simp] theorem freezeReference_entries (net ref : Nat) (s : State) :
    (freezeReference net ref s).entries = s.entries := by
  simp [freezeReference]

@[simp] theorem freezeReference_lanes (net ref : Nat) (s : State) :
    (freezeReference net ref s).lanes = s.lanes := by
  simp [freezeReference]

@[simp] theorem freezeReference_reductions (net ref : Nat) (s : State) :
    (freezeReference net ref s).reductions = s.reductions := by
  simp [freezeReference]

@[simp] theorem freezeReference_raw (net ref : Nat) (s : State) :
    (freezeReference net ref s).raw = s.raw := by
  simp [freezeReference]

@[simp] theorem freezeReference_netStates (net ref : Nat) (s : State) :
    (freezeReference net ref s).netStates = s.netStates := by
  simp [freezeReference]

@[simp] theorem freezeReference_groups (net ref : Nat) (s : State) :
    (freezeReference net ref s).groups = s.groups := by
  simp [freezeReference]

@[simp] theorem freezeReference_gens (net ref : Nat) (s : State) :
    (freezeReference net ref s).gens = s.gens := by
  simp [freezeReference]

@[simp] theorem freezeReference_tb (net ref : Nat) (s : State) :
    (freezeReference net ref s).tb = s.tb := by
  simp [freezeReference]

@[simp] theorem freezeReference_reports (net ref : Nat) (s : State) :
    (freezeReference net ref s).reports = s.reports := by
  simp [freezeReference]

@[simp] theorem freezeReference_link (net ref : Nat) (s : State) :
    (freezeReference net ref s).link = s.link := by
  simp [freezeReference]

@[simp] theorem deferValue_pending (x : SignatureValue) (b : Bool) (s : State) :
    (deferValue x b s).1.pending = s.pending := by
  unfold deferValue; (repeat' split) <;> simp

@[simp] theorem takeSignature_pending (x : SignatureValue) (s : State) :
    (takeSignature x s).1.pending = s.pending := by
  simp only [takeSignature]; (repeat' split) <;> simp

@[simp] theorem deferValue_resetLow (x : SignatureValue) (b : Bool) (s : State) :
    (deferValue x b s).1.resetLow = s.resetLow := by
  unfold deferValue; (repeat' split) <;> simp

@[simp] theorem takeSignature_resetLow (x : SignatureValue) (s : State) :
    (takeSignature x s).1.resetLow = s.resetLow := by
  simp only [takeSignature]; (repeat' split) <;> simp

@[simp] theorem deferValue_tables (x : SignatureValue) (b : Bool) (s : State) :
    (deferValue x b s).1.tables = s.tables := by
  unfold deferValue; (repeat' split) <;> simp

@[simp] theorem takeSignature_tables (x : SignatureValue) (s : State) :
    (takeSignature x s).1.tables = s.tables := by
  simp only [takeSignature]; (repeat' split) <;> simp

@[simp] theorem deferValue_board (x : SignatureValue) (b : Bool) (s : State) :
    (deferValue x b s).1.board = s.board := by
  unfold deferValue; (repeat' split) <;> simp

@[simp] theorem takeSignature_board (x : SignatureValue) (s : State) :
    (takeSignature x s).1.board = s.board := by
  simp only [takeSignature]; (repeat' split) <;> simp

@[simp] theorem deferValue_entries (x : SignatureValue) (b : Bool) (s : State) :
    (deferValue x b s).1.entries = s.entries := by
  unfold deferValue; (repeat' split) <;> simp

@[simp] theorem takeSignature_entries (x : SignatureValue) (s : State) :
    (takeSignature x s).1.entries = s.entries := by
  simp only [takeSignature]; (repeat' split) <;> simp

@[simp] theorem deferValue_lanes (x : SignatureValue) (b : Bool) (s : State) :
    (deferValue x b s).1.lanes = s.lanes := by
  unfold deferValue; (repeat' split) <;> simp

@[simp] theorem takeSignature_lanes (x : SignatureValue) (s : State) :
    (takeSignature x s).1.lanes = s.lanes := by
  simp only [takeSignature]; (repeat' split) <;> simp

@[simp] theorem deferValue_reductions (x : SignatureValue) (b : Bool) (s : State) :
    (deferValue x b s).1.reductions = s.reductions := by
  unfold deferValue; (repeat' split) <;> simp

@[simp] theorem takeSignature_reductions (x : SignatureValue) (s : State) :
    (takeSignature x s).1.reductions = s.reductions := by
  simp only [takeSignature]; (repeat' split) <;> simp

@[simp] theorem deferValue_raw (x : SignatureValue) (b : Bool) (s : State) :
    (deferValue x b s).1.raw = s.raw := by
  unfold deferValue; (repeat' split) <;> simp

@[simp] theorem takeSignature_raw (x : SignatureValue) (s : State) :
    (takeSignature x s).1.raw = s.raw := by
  simp only [takeSignature]; (repeat' split) <;> simp

@[simp] theorem deferValue_netStates (x : SignatureValue) (b : Bool) (s : State) :
    (deferValue x b s).1.netStates = s.netStates := by
  unfold deferValue; (repeat' split) <;> simp

@[simp] theorem takeSignature_netStates (x : SignatureValue) (s : State) :
    (takeSignature x s).1.netStates = s.netStates := by
  simp only [takeSignature]; (repeat' split) <;> simp

@[simp] theorem deferValue_groups (x : SignatureValue) (b : Bool) (s : State) :
    (deferValue x b s).1.groups = s.groups := by
  unfold deferValue; (repeat' split) <;> simp

@[simp] theorem takeSignature_groups (x : SignatureValue) (s : State) :
    (takeSignature x s).1.groups = s.groups := by
  simp only [takeSignature]; (repeat' split) <;> simp

@[simp] theorem deferValue_gens (x : SignatureValue) (b : Bool) (s : State) :
    (deferValue x b s).1.gens = s.gens := by
  unfold deferValue; (repeat' split) <;> simp

@[simp] theorem takeSignature_gens (x : SignatureValue) (s : State) :
    (takeSignature x s).1.gens = s.gens := by
  simp only [takeSignature]; (repeat' split) <;> simp

@[simp] theorem deferValue_tb (x : SignatureValue) (b : Bool) (s : State) :
    (deferValue x b s).1.tb = s.tb := by
  unfold deferValue; (repeat' split) <;> simp

@[simp] theorem takeSignature_tb (x : SignatureValue) (s : State) :
    (takeSignature x s).1.tb = s.tb := by
  simp only [takeSignature]; (repeat' split) <;> simp

@[simp] theorem deferValue_reports (x : SignatureValue) (b : Bool) (s : State) :
    (deferValue x b s).1.reports = s.reports := by
  unfold deferValue; (repeat' split) <;> simp

@[simp] theorem takeSignature_reports (x : SignatureValue) (s : State) :
    (takeSignature x s).1.reports = s.reports := by
  simp only [takeSignature]; (repeat' split) <;> simp

@[simp] theorem deferValue_link (x : SignatureValue) (b : Bool) (s : State) :
    (deferValue x b s).1.link = s.link := by
  unfold deferValue; (repeat' split) <;> simp

@[simp] theorem takeSignature_link (x : SignatureValue) (s : State) :
    (takeSignature x s).1.link = s.link := by
  simp only [takeSignature]; (repeat' split) <;> simp

@[simp] theorem clearSignatures_pending (s : State) :
    (clearSignatures s).pending = s.pending := rfl

@[simp] theorem clearSignatures_resetLow (s : State) :
    (clearSignatures s).resetLow = s.resetLow := rfl

@[simp] theorem clearSignatures_tables (s : State) :
    (clearSignatures s).tables = s.tables := rfl

@[simp] theorem clearSignatures_board (s : State) :
    (clearSignatures s).board = s.board := rfl

@[simp] theorem clearSignatures_entries (s : State) :
    (clearSignatures s).entries = s.entries := rfl

@[simp] theorem clearSignatures_lanes (s : State) :
    (clearSignatures s).lanes = s.lanes := rfl

@[simp] theorem clearSignatures_reductions (s : State) :
    (clearSignatures s).reductions = s.reductions := rfl

@[simp] theorem clearSignatures_raw (s : State) :
    (clearSignatures s).raw = s.raw := rfl

@[simp] theorem clearSignatures_netStates (s : State) :
    (clearSignatures s).netStates = s.netStates := rfl

@[simp] theorem clearSignatures_groups (s : State) :
    (clearSignatures s).groups = s.groups := rfl

@[simp] theorem clearSignatures_gens (s : State) :
    (clearSignatures s).gens = s.gens := rfl

@[simp] theorem clearSignatures_tb (s : State) :
    (clearSignatures s).tb = s.tb := rfl

@[simp] theorem clearSignatures_reports (s : State) :
    (clearSignatures s).reports = s.reports := rfl

@[simp] theorem clearSignatures_link (s : State) :
    (clearSignatures s).link = s.link := rfl

@[simp] theorem clearSignatures_events (s : State) :
    (clearSignatures s).events = s.events := rfl

@[simp] theorem reportShort_pending (e : Entry) (t : Terminal) (s : State) :
    (reportShort e t s).pending = s.pending := by
  simp only [reportShort]; split <;> simp

@[simp] theorem reportShort_resetLow (e : Entry) (t : Terminal) (s : State) :
    (reportShort e t s).resetLow = s.resetLow := by
  simp only [reportShort]; split <;> simp

@[simp] theorem reportShort_tables (e : Entry) (t : Terminal) (s : State) :
    (reportShort e t s).tables = s.tables := by
  simp only [reportShort]; split <;> simp

@[simp] theorem reportShort_board (e : Entry) (t : Terminal) (s : State) :
    (reportShort e t s).board = s.board := by
  simp only [reportShort]; split <;> simp

@[simp] theorem reportShort_entries (e : Entry) (t : Terminal) (s : State) :
    (reportShort e t s).entries = s.entries := by
  simp only [reportShort]; split <;> simp

@[simp] theorem reportShort_lanes (e : Entry) (t : Terminal) (s : State) :
    (reportShort e t s).lanes = s.lanes := by
  simp only [reportShort]; split <;> simp

@[simp] theorem reportShort_reductions (e : Entry) (t : Terminal) (s : State) :
    (reportShort e t s).reductions = s.reductions := by
  simp only [reportShort]; split <;> simp

@[simp] theorem reportShort_raw (e : Entry) (t : Terminal) (s : State) :
    (reportShort e t s).raw = s.raw := by
  simp only [reportShort]; split <;> simp

@[simp] theorem reportShort_sigs (e : Entry) (t : Terminal) (s : State) :
    (reportShort e t s).sigs = s.sigs := by
  simp only [reportShort]; split <;> simp

@[simp] theorem reportShort_gens (e : Entry) (t : Terminal) (s : State) :
    (reportShort e t s).gens = s.gens := by
  simp only [reportShort]; split <;> simp

@[simp] theorem reportShort_tb (e : Entry) (t : Terminal) (s : State) :
    (reportShort e t s).tb = s.tb := by
  simp only [reportShort]; split <;> simp

@[simp] theorem reportVerdict_pending (e : Entry) (t : Terminal) (s : State) :
    (reportVerdict e t s).pending = s.pending := by
  simp only [reportVerdict]; split <;> simp

@[simp] theorem reportVerdict_resetLow (e : Entry) (t : Terminal) (s : State) :
    (reportVerdict e t s).resetLow = s.resetLow := by
  simp only [reportVerdict]; split <;> simp

@[simp] theorem reportVerdict_board (e : Entry) (t : Terminal) (s : State) :
    (reportVerdict e t s).board = s.board := by
  simp only [reportVerdict]; split <;> simp

@[simp] theorem reportVerdict_entries (e : Entry) (t : Terminal) (s : State) :
    (reportVerdict e t s).entries = s.entries := by
  simp only [reportVerdict]; split <;> simp

@[simp] theorem reportVerdict_lanes (e : Entry) (t : Terminal) (s : State) :
    (reportVerdict e t s).lanes = s.lanes := by
  simp only [reportVerdict]; split <;> simp

@[simp] theorem reportVerdict_reductions (e : Entry) (t : Terminal) (s : State) :
    (reportVerdict e t s).reductions = s.reductions := by
  simp only [reportVerdict]; split <;> simp

@[simp] theorem reportVerdict_raw (e : Entry) (t : Terminal) (s : State) :
    (reportVerdict e t s).raw = s.raw := by
  simp only [reportVerdict]; split <;> simp

@[simp] theorem reportVerdict_groups (e : Entry) (t : Terminal) (s : State) :
    (reportVerdict e t s).groups = s.groups := by
  simp only [reportVerdict]; split <;> simp

@[simp] theorem reportVerdict_sigs (e : Entry) (t : Terminal) (s : State) :
    (reportVerdict e t s).sigs = s.sigs := by
  simp only [reportVerdict]; split <;> simp

@[simp] theorem reportVerdict_gens (e : Entry) (t : Terminal) (s : State) :
    (reportVerdict e t s).gens = s.gens := by
  simp only [reportVerdict]; split <;> simp

@[simp] theorem reportVerdict_tb (e : Entry) (t : Terminal) (s : State) :
    (reportVerdict e t s).tb = s.tb := by
  simp only [reportVerdict]; split <;> simp

@[simp] theorem reportVerdict_link (e : Entry) (t : Terminal) (s : State) :
    (reportVerdict e t s).link = s.link := by
  simp only [reportVerdict]; split <;> simp

@[simp] theorem reportVerdict_events (e : Entry) (t : Terminal) (s : State) :
    (reportVerdict e t s).events = s.events := by
  simp only [reportVerdict]; split <;> simp

@[simp] theorem retire_pending (e : Entry) (t : Terminal) (s : State) :
    (retire e t s).pending = s.pending := by
  simp only [retire]; split <;> simp

@[simp] theorem retire_resetLow (e : Entry) (t : Terminal) (s : State) :
    (retire e t s).resetLow = s.resetLow := by
  simp only [retire]; split <;> simp

@[simp] theorem retire_board (e : Entry) (t : Terminal) (s : State) :
    (retire e t s).board = s.board := by
  simp only [retire]; split <;> simp

@[simp] theorem retire_reductions (e : Entry) (t : Terminal) (s : State) :
    (retire e t s).reductions = s.reductions := by
  simp only [retire]; split <;> simp

@[simp] theorem retire_raw (e : Entry) (t : Terminal) (s : State) :
    (retire e t s).raw = s.raw := by
  simp only [retire]; split <;> simp

@[simp] theorem retire_sigs (e : Entry) (t : Terminal) (s : State) :
    (retire e t s).sigs = s.sigs := by
  simp only [retire]; split <;> simp

@[simp] theorem retireSignature_pending (e : Entry) (v : Nat) (b : Bool) (s : State) :
    (retireSignature e v b s).pending = s.pending := by
  simp only [retireSignature]; split <;> simp

@[simp] theorem retireSignature_resetLow (e : Entry) (v : Nat) (b : Bool) (s : State) :
    (retireSignature e v b s).resetLow = s.resetLow := by
  simp only [retireSignature]; split <;> simp

@[simp] theorem retireSignature_tables (e : Entry) (v : Nat) (b : Bool) (s : State) :
    (retireSignature e v b s).tables = s.tables := by
  simp only [retireSignature]; split <;> simp

@[simp] theorem retireSignature_board (e : Entry) (v : Nat) (b : Bool) (s : State) :
    (retireSignature e v b s).board = s.board := by
  simp only [retireSignature]; split <;> simp

@[simp] theorem retireSignature_reductions (e : Entry) (v : Nat) (b : Bool) (s : State) :
    (retireSignature e v b s).reductions = s.reductions := by
  simp only [retireSignature]; split <;> simp

@[simp] theorem retireSignature_raw (e : Entry) (v : Nat) (b : Bool) (s : State) :
    (retireSignature e v b s).raw = s.raw := by
  simp only [retireSignature]; split <;> simp

@[simp] theorem retireSignature_groups (e : Entry) (v : Nat) (b : Bool) (s : State) :
    (retireSignature e v b s).groups = s.groups := by
  simp only [retireSignature]; split <;> simp

@[simp] theorem retireSignature_link (e : Entry) (v : Nat) (b : Bool) (s : State) :
    (retireSignature e v b s).link = s.link := by
  simp only [retireSignature]; split <;> simp

@[simp] theorem carryOut_pending (e : Entry) (d : Decision) (s : State) :
    (carryOut e d s).pending = s.pending := by
  cases d <;> simp [carryOut]

@[simp] theorem carryOut_resetLow (e : Entry) (d : Decision) (s : State) :
    (carryOut e d s).resetLow = s.resetLow := by
  cases d <;> simp [carryOut]

@[simp] theorem carryOut_board (e : Entry) (d : Decision) (s : State) :
    (carryOut e d s).board = s.board := by
  cases d <;> simp [carryOut]

@[simp] theorem carryOut_reductions (e : Entry) (d : Decision) (s : State) :
    (carryOut e d s).reductions = s.reductions := by
  cases d <;> simp [carryOut]

@[simp] theorem carryOut_raw (e : Entry) (d : Decision) (s : State) :
    (carryOut e d s).raw = s.raw := by
  cases d <;> simp [carryOut]

@[simp] theorem decideEntry_pending (tag : Half) (s : State) :
    (decideEntry tag s).pending = s.pending := by
  unfold decideEntry; (repeat' split) <;> simp

@[simp] theorem decideEntry_resetLow (tag : Half) (s : State) :
    (decideEntry tag s).resetLow = s.resetLow := by
  unfold decideEntry; (repeat' split) <;> simp

@[simp] theorem decideEntry_board (tag : Half) (s : State) :
    (decideEntry tag s).board = s.board := by
  unfold decideEntry; (repeat' split) <;> simp

@[simp] theorem decideEntry_reductions (tag : Half) (s : State) :
    (decideEntry tag s).reductions = s.reductions := by
  unfold decideEntry; (repeat' split) <;> simp

@[simp] theorem decideEntry_raw (tag : Half) (s : State) :
    (decideEntry tag s).raw = s.raw := by
  unfold decideEntry; (repeat' split) <;> simp

@[simp] theorem tryDecide_pending (tag : Half) (s : State) :
    (tryDecide tag s).pending = s.pending := by
  unfold tryDecide; split <;> simp

@[simp] theorem tryDecide_resetLow (tag : Half) (s : State) :
    (tryDecide tag s).resetLow = s.resetLow := by
  unfold tryDecide; split <;> simp

@[simp] theorem tryDecide_board (tag : Half) (s : State) :
    (tryDecide tag s).board = s.board := by
  unfold tryDecide; split <;> simp

@[simp] theorem tryDecide_reductions (tag : Half) (s : State) :
    (tryDecide tag s).reductions = s.reductions := by
  unfold tryDecide; split <;> simp

@[simp] theorem tryDecide_raw (tag : Half) (s : State) :
    (tryDecide tag s).raw = s.raw := by
  unfold tryDecide; split <;> simp

@[simp] theorem captureRaw_pending (e : Entry) (z : Offset) (f : BurstFrame) (s : State) :
    (captureRaw e z f s).pending = s.pending := by
  unfold captureRaw; (repeat' split) <;> simp

@[simp] theorem captureRaw_resetLow (e : Entry) (z : Offset) (f : BurstFrame) (s : State) :
    (captureRaw e z f s).resetLow = s.resetLow := by
  unfold captureRaw; (repeat' split) <;> simp

@[simp] theorem captureRaw_tables (e : Entry) (z : Offset) (f : BurstFrame) (s : State) :
    (captureRaw e z f s).tables = s.tables := by
  unfold captureRaw; (repeat' split) <;> simp

@[simp] theorem captureRaw_board (e : Entry) (z : Offset) (f : BurstFrame) (s : State) :
    (captureRaw e z f s).board = s.board := by
  unfold captureRaw; (repeat' split) <;> simp

@[simp] theorem captureRaw_entries (e : Entry) (z : Offset) (f : BurstFrame) (s : State) :
    (captureRaw e z f s).entries = s.entries := by
  unfold captureRaw; (repeat' split) <;> simp

@[simp] theorem captureRaw_lanes (e : Entry) (z : Offset) (f : BurstFrame) (s : State) :
    (captureRaw e z f s).lanes = s.lanes := by
  unfold captureRaw; (repeat' split) <;> simp

@[simp] theorem captureRaw_reductions (e : Entry) (z : Offset) (f : BurstFrame) (s : State) :
    (captureRaw e z f s).reductions = s.reductions := by
  unfold captureRaw; (repeat' split) <;> simp

@[simp] theorem captureRaw_netStates (e : Entry) (z : Offset) (f : BurstFrame) (s : State) :
    (captureRaw e z f s).netStates = s.netStates := by
  unfold captureRaw; (repeat' split) <;> simp

@[simp] theorem captureRaw_groups (e : Entry) (z : Offset) (f : BurstFrame) (s : State) :
    (captureRaw e z f s).groups = s.groups := by
  unfold captureRaw; (repeat' split) <;> simp

@[simp] theorem captureRaw_sigs (e : Entry) (z : Offset) (f : BurstFrame) (s : State) :
    (captureRaw e z f s).sigs = s.sigs := by
  unfold captureRaw; (repeat' split) <;> simp

@[simp] theorem captureRaw_gens (e : Entry) (z : Offset) (f : BurstFrame) (s : State) :
    (captureRaw e z f s).gens = s.gens := by
  unfold captureRaw; (repeat' split) <;> simp

@[simp] theorem captureRaw_tb (e : Entry) (z : Offset) (f : BurstFrame) (s : State) :
    (captureRaw e z f s).tb = s.tb := by
  unfold captureRaw; (repeat' split) <;> simp

@[simp] theorem captureRaw_reports (e : Entry) (z : Offset) (f : BurstFrame) (s : State) :
    (captureRaw e z f s).reports = s.reports := by
  unfold captureRaw; (repeat' split) <;> simp

@[simp] theorem captureRaw_link (e : Entry) (z : Offset) (f : BurstFrame) (s : State) :
    (captureRaw e z f s).link = s.link := by
  unfold captureRaw; (repeat' split) <;> simp

@[simp] theorem startReduction_pending (e : Entry) (st : StepRecord) (f : BurstFrame) (s : State) :
    (startReduction e st f s).pending = s.pending := by
  simp [startReduction]

@[simp] theorem startReduction_resetLow (e : Entry) (st : StepRecord) (f : BurstFrame) (s : State) :
    (startReduction e st f s).resetLow = s.resetLow := by
  simp [startReduction]

@[simp] theorem startReduction_tables (e : Entry) (st : StepRecord) (f : BurstFrame) (s : State) :
    (startReduction e st f s).tables = s.tables := by
  simp [startReduction]

@[simp] theorem startReduction_board (e : Entry) (st : StepRecord) (f : BurstFrame) (s : State) :
    (startReduction e st f s).board = s.board := by
  simp [startReduction]

@[simp] theorem startReduction_entries (e : Entry) (st : StepRecord) (f : BurstFrame) (s : State) :
    (startReduction e st f s).entries = s.entries := by
  simp [startReduction]

@[simp] theorem startReduction_lanes (e : Entry) (st : StepRecord) (f : BurstFrame) (s : State) :
    (startReduction e st f s).lanes = s.lanes := by
  simp [startReduction]

@[simp] theorem startReduction_netStates (e : Entry) (st : StepRecord) (f : BurstFrame) (s : State) :
    (startReduction e st f s).netStates = s.netStates := by
  simp [startReduction]

@[simp] theorem startReduction_groups (e : Entry) (st : StepRecord) (f : BurstFrame) (s : State) :
    (startReduction e st f s).groups = s.groups := by
  simp [startReduction]

@[simp] theorem startReduction_sigs (e : Entry) (st : StepRecord) (f : BurstFrame) (s : State) :
    (startReduction e st f s).sigs = s.sigs := by
  simp [startReduction]

@[simp] theorem startReduction_gens (e : Entry) (st : StepRecord) (f : BurstFrame) (s : State) :
    (startReduction e st f s).gens = s.gens := by
  simp [startReduction]

@[simp] theorem startReduction_tb (e : Entry) (st : StepRecord) (f : BurstFrame) (s : State) :
    (startReduction e st f s).tb = s.tb := by
  simp [startReduction]

@[simp] theorem startReduction_reports (e : Entry) (st : StepRecord) (f : BurstFrame) (s : State) :
    (startReduction e st f s).reports = s.reports := by
  simp [startReduction]

@[simp] theorem startReduction_link (e : Entry) (st : StepRecord) (f : BurstFrame) (s : State) :
    (startReduction e st f s).link = s.link := by
  simp [startReduction]

@[simp] theorem endAttempt_pending (n : LaneId) (tag : Half) (how : AttemptEnd) (s : State) :
    (endAttempt n tag how s).pending = s.pending := by
  simp only [endAttempt]; (repeat' split) <;> simp

@[simp] theorem endAttempt_resetLow (n : LaneId) (tag : Half) (how : AttemptEnd) (s : State) :
    (endAttempt n tag how s).resetLow = s.resetLow := by
  simp only [endAttempt]; (repeat' split) <;> simp

@[simp] theorem endAttempt_board (n : LaneId) (tag : Half) (how : AttemptEnd) (s : State) :
    (endAttempt n tag how s).board = s.board := by
  simp only [endAttempt]; (repeat' split) <;> simp

@[simp] theorem takeAnswer_pending (n : LaneId) (a : AttemptId) (how : AttemptEnd) (s : State) :
    (takeAnswer n a how s).pending = s.pending := by
  simp only [takeAnswer]; (repeat' split) <;> simp

@[simp] theorem takeAnswer_resetLow (n : LaneId) (a : AttemptId) (how : AttemptEnd) (s : State) :
    (takeAnswer n a how s).resetLow = s.resetLow := by
  simp only [takeAnswer]; (repeat' split) <;> simp

@[simp] theorem takeAnswer_board (n : LaneId) (a : AttemptId) (how : AttemptEnd) (s : State) :
    (takeAnswer n a how s).board = s.board := by
  simp only [takeAnswer]; (repeat' split) <;> simp

@[simp] theorem expireAttempt_pending (n : LaneId) (s : State) :
    (expireAttempt n s).pending = s.pending := by
  unfold expireAttempt; (repeat' split) <;> simp

@[simp] theorem expireAttempt_resetLow (n : LaneId) (s : State) :
    (expireAttempt n s).resetLow = s.resetLow := by
  unfold expireAttempt; (repeat' split) <;> simp

@[simp] theorem expireAttempt_board (n : LaneId) (s : State) :
    (expireAttempt n s).board = s.board := by
  unfold expireAttempt; (repeat' split) <;> simp

@[simp] theorem completeReduction_pending (n : LaneId) (s : State) :
    (completeReduction n s).pending = s.pending := by
  simp only [completeReduction]; (repeat' split) <;> simp

@[simp] theorem completeReduction_resetLow (n : LaneId) (s : State) :
    (completeReduction n s).resetLow = s.resetLow := by
  simp only [completeReduction]; (repeat' split) <;> simp

@[simp] theorem completeReduction_board (n : LaneId) (s : State) :
    (completeReduction n s).board = s.board := by
  simp only [completeReduction]; (repeat' split) <;> simp

@[simp] theorem completeReduction_raw (n : LaneId) (s : State) :
    (completeReduction n s).raw = s.raw := by
  simp only [completeReduction]; (repeat' split) <;> simp

@[simp] theorem loseLanes_pending (lost : LaneId → Bool) (o : FixedOutcome) (s : State) :
    (loseLanes lost o s).pending = s.pending := by
  simp only [loseLanes, fixEntries_pending]
  exact foldl_keeps State.pending _ (fun s a => by split <;> rfl) _ _

@[simp] theorem loseLanes_resetLow (lost : LaneId → Bool) (o : FixedOutcome) (s : State) :
    (loseLanes lost o s).resetLow = s.resetLow := by
  simp only [loseLanes, fixEntries_resetLow]
  exact foldl_keeps State.resetLow _ (fun s a => by split <;> rfl) _ _

@[simp] theorem loseLanes_tables (lost : LaneId → Bool) (o : FixedOutcome) (s : State) :
    (loseLanes lost o s).tables = s.tables := by
  simp only [loseLanes, fixEntries_tables]
  exact foldl_keeps State.tables _ (fun s a => by split <;> rfl) _ _

@[simp] theorem loseLanes_board (lost : LaneId → Bool) (o : FixedOutcome) (s : State) :
    (loseLanes lost o s).board = s.board := by
  simp only [loseLanes, fixEntries_board]
  exact foldl_keeps State.board _ (fun s a => by split <;> rfl) _ _

@[simp] theorem loseLanes_raw (lost : LaneId → Bool) (o : FixedOutcome) (s : State) :
    (loseLanes lost o s).raw = s.raw := by
  simp only [loseLanes, fixEntries_raw]
  exact foldl_keeps State.raw _ (fun s a => by split <;> rfl) _ _

@[simp] theorem loseLanes_netStates (lost : LaneId → Bool) (o : FixedOutcome) (s : State) :
    (loseLanes lost o s).netStates = s.netStates := by
  simp only [loseLanes, fixEntries_netStates]
  exact foldl_keeps State.netStates _ (fun s a => by split <;> rfl) _ _

@[simp] theorem loseLanes_groups (lost : LaneId → Bool) (o : FixedOutcome) (s : State) :
    (loseLanes lost o s).groups = s.groups := by
  simp only [loseLanes, fixEntries_groups]
  exact foldl_keeps State.groups _ (fun s a => by split <;> rfl) _ _

@[simp] theorem loseLanes_sigs (lost : LaneId → Bool) (o : FixedOutcome) (s : State) :
    (loseLanes lost o s).sigs = s.sigs := by
  simp only [loseLanes, fixEntries_sigs]
  exact foldl_keeps State.sigs _ (fun s a => by split <;> rfl) _ _

@[simp] theorem loseLanes_link (lost : LaneId → Bool) (o : FixedOutcome) (s : State) :
    (loseLanes lost o s).link = s.link := by
  simp only [loseLanes, fixEntries_link]
  exact foldl_keeps State.link _ (fun s a => by split <;> rfl) _ _

@[simp] theorem offerEntry_pending (tag : Half) (s : State) :
    (offerEntry tag s).pending = s.pending := by
  unfold offerEntry; (repeat' split) <;> simp

@[simp] theorem offerEntry_resetLow (tag : Half) (s : State) :
    (offerEntry tag s).resetLow = s.resetLow := by
  unfold offerEntry; (repeat' split) <;> simp

@[simp] theorem offerEntry_board (tag : Half) (s : State) :
    (offerEntry tag s).board = s.board := by
  unfold offerEntry; (repeat' split) <;> simp

@[simp] theorem offerEntry_reductions (tag : Half) (s : State) :
    (offerEntry tag s).reductions = s.reductions := by
  unfold offerEntry; (repeat' split) <;> simp

@[simp] theorem offerEntry_raw (tag : Half) (s : State) :
    (offerEntry tag s).raw = s.raw := by
  unfold offerEntry; (repeat' split) <;> simp

@[simp] theorem offerEntries_pending (tags : List Half) (s : State) :
    (offerEntries tags s).pending = s.pending := by
  induction tags generalizing s with
  | nil => rfl
  | cons t rest ih => simp only [offerEntries]; split <;> simp [ih]

@[simp] theorem offerEntries_resetLow (tags : List Half) (s : State) :
    (offerEntries tags s).resetLow = s.resetLow := by
  induction tags generalizing s with
  | nil => rfl
  | cons t rest ih => simp only [offerEntries]; split <;> simp [ih]

@[simp] theorem offerEntries_board (tags : List Half) (s : State) :
    (offerEntries tags s).board = s.board := by
  induction tags generalizing s with
  | nil => rfl
  | cons t rest ih => simp only [offerEntries]; split <;> simp [ih]

@[simp] theorem offerEntries_reductions (tags : List Half) (s : State) :
    (offerEntries tags s).reductions = s.reductions := by
  induction tags generalizing s with
  | nil => rfl
  | cons t rest ih => simp only [offerEntries]; split <;> simp [ih]

@[simp] theorem offerEntries_raw (tags : List Half) (s : State) :
    (offerEntries tags s).raw = s.raw := by
  induction tags generalizing s with
  | nil => rfl
  | cons t rest ih => simp only [offerEntries]; split <;> simp [ih]

@[simp] theorem offerSignature_pending (s : State) :
    (offerSignature s).pending = s.pending := by
  unfold offerSignature; (repeat' split) <;> simp

@[simp] theorem offerSignature_resetLow (s : State) :
    (offerSignature s).resetLow = s.resetLow := by
  unfold offerSignature; (repeat' split) <;> simp

@[simp] theorem offerSignature_tables (s : State) :
    (offerSignature s).tables = s.tables := by
  unfold offerSignature; (repeat' split) <;> simp

@[simp] theorem offerSignature_board (s : State) :
    (offerSignature s).board = s.board := by
  unfold offerSignature; (repeat' split) <;> simp

@[simp] theorem offerSignature_entries (s : State) :
    (offerSignature s).entries = s.entries := by
  unfold offerSignature; (repeat' split) <;> simp

@[simp] theorem offerSignature_lanes (s : State) :
    (offerSignature s).lanes = s.lanes := by
  unfold offerSignature; (repeat' split) <;> simp

@[simp] theorem offerSignature_reductions (s : State) :
    (offerSignature s).reductions = s.reductions := by
  unfold offerSignature; (repeat' split) <;> simp

@[simp] theorem offerSignature_raw (s : State) :
    (offerSignature s).raw = s.raw := by
  unfold offerSignature; (repeat' split) <;> simp

@[simp] theorem offerSignature_groups (s : State) :
    (offerSignature s).groups = s.groups := by
  unfold offerSignature; (repeat' split) <;> simp

@[simp] theorem offerSignature_gens (s : State) :
    (offerSignature s).gens = s.gens := by
  unfold offerSignature; (repeat' split) <;> simp

@[simp] theorem offerSignature_tb (s : State) :
    (offerSignature s).tb = s.tb := by
  unfold offerSignature; (repeat' split) <;> simp

@[simp] theorem offerSignature_link (s : State) :
    (offerSignature s).link = s.link := by
  unfold offerSignature; (repeat' split) <;> simp

@[simp] theorem offerSignature_events (s : State) :
    (offerSignature s).events = s.events := by
  unfold offerSignature; (repeat' split) <;> simp

@[simp] theorem offerSide_pending (side : Side) (s : State) :
    (offerSide side s).pending = s.pending := by
  cases side <;> simp [offerSide]

@[simp] theorem offerSide_resetLow (side : Side) (s : State) :
    (offerSide side s).resetLow = s.resetLow := by
  cases side <;> simp [offerSide]

@[simp] theorem offerSide_board (side : Side) (s : State) :
    (offerSide side s).board = s.board := by
  cases side <;> simp [offerSide]

@[simp] theorem offerSide_reductions (side : Side) (s : State) :
    (offerSide side s).reductions = s.reductions := by
  cases side <;> simp [offerSide]

@[simp] theorem offerSide_raw (side : Side) (s : State) :
    (offerSide side s).raw = s.raw := by
  cases side <;> simp [offerSide]

@[simp] theorem grantPlace_pending (s : State) :
    (grantPlace s).pending = s.pending := by
  simp only [grantPlace]; (repeat' split) <;> simp

@[simp] theorem grantPlace_resetLow (s : State) :
    (grantPlace s).resetLow = s.resetLow := by
  simp only [grantPlace]; (repeat' split) <;> simp

@[simp] theorem grantPlace_board (s : State) :
    (grantPlace s).board = s.board := by
  simp only [grantPlace]; (repeat' split) <;> simp

@[simp] theorem grantPlace_reductions (s : State) :
    (grantPlace s).reductions = s.reductions := by
  simp only [grantPlace]; (repeat' split) <;> simp

@[simp] theorem grantPlace_raw (s : State) :
    (grantPlace s).raw = s.raw := by
  simp only [grantPlace]; (repeat' split) <;> simp

end Sys2Proof.Machine
end

