-- ==== Sys2Proof/Laws/Indexed.lean ====
section
/-! SUPPORT. The laws of indexed data: reads after writes, and the canonical form of sparse tables. -/

namespace Sys2Proof.Machine

/-! ### Lanes and generators -/

@[simp] theorem PerLane.get_set_self {α : Type} (p : PerLane α) (n : LaneId) (x : α) :
    (p.set n x).get n = x := by
  fin_cases n <;> rfl

theorem PerLane.get_set_of_ne {α : Type} (p : PerLane α) {n m : LaneId} (h : m ≠ n) (x : α) :
    (p.set n x).get m = p.get m := by
  revert h; fin_cases n <;> fin_cases m <;> simp [PerLane.set, PerLane.get]

@[simp] theorem PerLane.get_map {α β : Type} (f : α → β) (p : PerLane α) (n : LaneId) :
    (p.map f).get n = f (p.get n) := by
  fin_cases n <;> rfl

@[simp] theorem PerLane.get_fill {α : Type} (x : α) (n : LaneId) : (PerLane.fill x).get n = x := by
  fin_cases n <;> rfl

@[simp] theorem PerLane.set_set {α : Type} (p : PerLane α) (n : LaneId) (x y : α) :
    (p.set n x).set n y = p.set n y := by
  fin_cases n <;> rfl

@[simp] theorem PerLane.set_get {α : Type} (p : PerLane α) (n : LaneId) : p.set n (p.get n) = p := by
  fin_cases n <;> rfl

/-- Two values for each lane that agree lane by lane are the same. -/
theorem PerLane.ext_get {α : Type} {p q : PerLane α} (h : ∀ n, p.get n = q.get n) : p = q := by
  obtain ⟨a, b, c, d⟩ := p
  obtain ⟨a', b', c', d'⟩ := q
  have h0 := h 0
  have h1 := h 1
  have h2 := h 2
  have h3 := h 3
  simp only [PerLane.get] at h0 h1 h2 h3
  subst h0 h1 h2 h3
  rfl

@[simp] theorem PerGen.get_set_self {α : Type} (p : PerGen α) (g : GenId) (x : α) :
    (p.set g x).get g = x := by
  fin_cases g <;> rfl

theorem PerGen.get_set_of_ne {α : Type} (p : PerGen α) {g h : GenId} (hn : h ≠ g) (x : α) :
    (p.set g x).get h = p.get h := by
  revert hn; fin_cases g <;> fin_cases h <;> simp [PerGen.set, PerGen.get]

@[simp] theorem PerGen.get_map {α β : Type} (f : α → β) (p : PerGen α) (g : GenId) :
    (p.map f).get g = f (p.get g) := by
  fin_cases g <;> rfl

@[simp] theorem PerGen.set_get {α : Type} (p : PerGen α) (g : GenId) : p.set g (p.get g) = p := by
  fin_cases g <;> rfl

@[simp] theorem State.modifyLane_lane_self (s : State) (n : LaneId) (f : Lane → Lane) :
    (s.modifyLane n f).lane n = f (s.lane n) := by
  simp [State.modifyLane, State.lane]

theorem State.modifyLane_lane_of_ne (s : State) {n m : LaneId} (h : m ≠ n) (f : Lane → Lane) :
    (s.modifyLane n f).lane m = s.lane m := by
  simp [State.modifyLane, State.lane, PerLane.get_set_of_ne _ h]

@[simp] theorem State.modifyGen_gen_self (s : State) (g : GenId) (f : Generator → Generator) :
    (s.modifyGen g f).gen g = f (s.gen g) := by
  simp [State.modifyGen, State.gen]

theorem State.modifyGen_gen_of_ne (s : State) {g h : GenId} (hn : h ≠ g) (f : Generator → Generator) :
    (s.modifyGen g f).gen h = s.gen h := by
  simp [State.modifyGen, State.gen, PerGen.get_set_of_ne _ hn]

/-! ### Sparse tables -/

section Sparse
variable {α : Type} [DecidableEq α] (dflt : Nat → α)

/-- The canonical form from a higher index on is one from a lower index on. -/
theorem Sparse.wfFrom_mono {lo lo' : Nat} (h : lo' ≤ lo) {t : Sparse α}
    (w : Sparse.wfFrom dflt lo t = true) : Sparse.wfFrom dflt lo' t = true := by
  cases t with
  | nil => rfl
  | cons p rest =>
    simp only [Sparse.wfFrom, Bool.and_eq_true, decide_eq_true_eq] at w ⊢
    exact ⟨⟨le_trans h w.1.1, w.1.2⟩, w.2⟩

/-- Below its first index a canonical table reads as unlisted. -/
theorem Sparse.get_below {lo k : Nat} (hk : k < lo) {t : Sparse α}
    (w : Sparse.wfFrom dflt lo t = true) : Sparse.get dflt t k = dflt k := by
  induction t generalizing lo with
  | nil => rfl
  | cons p rest ih =>
    obtain ⟨a, x⟩ := p
    simp only [Sparse.wfFrom, Bool.and_eq_true, decide_eq_true_eq] at w
    have hne : a ≠ k := by omega
    simp only [Sparse.get, hne, if_false]
    exact ih (lo := a + 1) (by omega) w.2

/-- A read after a write gives the record written at its index and every other record as before. -/
theorem Sparse.get_put_from {lo : Nat} {t : Sparse α} (w : Sparse.wfFrom dflt lo t = true)
    (k : Nat) (x : α) (j : Nat) :
    Sparse.get dflt (Sparse.put dflt t k x) j = if j = k then x else Sparse.get dflt t j := by
  induction t generalizing lo with
  | nil =>
    by_cases hx : x = dflt k
    · by_cases hj : j = k
      · subst hj; simp [hx, Sparse.put, Sparse.get]
      · simp [hx, hj, Sparse.put, Sparse.get]
    · by_cases hj : j = k
      · subst hj; simp [hx, Sparse.put, Sparse.get]
      · simp [hx, hj, Ne.symm hj, Sparse.put, Sparse.get]
  | cons p rest ih =>
    obtain ⟨a, y⟩ := p
    simp only [Sparse.wfFrom, Bool.and_eq_true, decide_eq_true_eq] at w
    have below : ∀ i, i ≤ a → Sparse.get dflt rest i = dflt i :=
      fun i hi => Sparse.get_below dflt (by omega) w.2
    unfold Sparse.put
    split
    · rename_i hka
      by_cases hx : x = dflt k
      · have hak : a ≠ k := by omega
        by_cases hj : j = k
        · subst hj; simp [hx, Sparse.get, hak, below j (by omega)]
        · simp [hx, hj]
      · by_cases hj : j = k
        · simp [hx, Sparse.get, hj]
        · simp [hx, Sparse.get, hj, Ne.symm hj]
    · split
      · rename_i hka
        subst hka
        by_cases hx : x = dflt k
        · by_cases hj : j = k
          · subst hj; simp [hx, below j (le_refl j)]
          · simp [hx, Sparse.get, hj, Ne.symm hj]
        · by_cases hj : j = k
          · simp [hx, Sparse.get, hj]
          · simp [hx, Sparse.get, hj, Ne.symm hj]
      · rename_i h1 h2
        by_cases hj : j = a
        · subst hj
          have : j ≠ k := by omega
          simp [Sparse.get, this]
        · simp only [Sparse.get, Ne.symm hj, if_false]
          exact ih w.2

/-- A write keeps the canonical form. -/
theorem Sparse.put_wfFrom {lo : Nat} {t : Sparse α} (w : Sparse.wfFrom dflt lo t = true)
    (k : Nat) (hk : lo ≤ k) (x : α) : Sparse.wfFrom dflt lo (Sparse.put dflt t k x) = true := by
  induction t generalizing lo with
  | nil =>
    unfold Sparse.put
    split <;> simp_all [Sparse.wfFrom]
  | cons p rest ih =>
    obtain ⟨a, y⟩ := p
    simp only [Sparse.wfFrom, Bool.and_eq_true, decide_eq_true_eq] at w
    unfold Sparse.put
    split
    · split
      · simp [Sparse.wfFrom, w]
      · simp only [Sparse.wfFrom, Bool.and_eq_true, decide_eq_true_eq]
        refine ⟨⟨hk, by simp_all⟩, ⟨by omega, w.1.2⟩, w.2⟩
    · split
      · rename_i hka
        subst hka
        split
        · exact Sparse.wfFrom_mono dflt (by omega) w.2
        · simp_all [Sparse.wfFrom]
      · rename_i h1 h2
        simp only [Sparse.wfFrom, Bool.and_eq_true, decide_eq_true_eq]
        exact ⟨w.1, ih w.2 (by omega)⟩

/-- A write to a canonical table keeps the canonical form. -/
theorem Sparse.put_wf {t : Sparse α} (w : Sparse.wf dflt t = true) (k : Nat) (x : α) :
    Sparse.wf dflt (Sparse.put dflt t k x) = true :=
  Sparse.put_wfFrom dflt w k (Nat.zero_le k) x

/-- A read after a write to a canonical table. -/
theorem Sparse.get_put {t : Sparse α} (w : Sparse.wf dflt t = true) (k : Nat) (x : α) (j : Nat) :
    Sparse.get dflt (Sparse.put dflt t k x) j = if j = k then x else Sparse.get dflt t j :=
  Sparse.get_put_from dflt w k x j

end Sparse

end Sys2Proof.Machine
end

