-- ==== Sys2Proof/Laws/Clock.lean ====
section
/-! SUPPORT. What the passing of time does, said once: the clocks are additive; `elapse` is `runClocks` but for the
events that the wraps of the microsecond counter post and the upstream frame that their ends may begin (R147). -/

namespace Sys2Proof.Machine

/-! ### The clocks are additive -/

theorem Timebase.elapse_elapse (a b : Nat) (t : Timebase) :
    (t.elapse a).elapse b = t.elapse (a + b) := by
  have micro : ∀ m : Nat, (m + a) / 100 + ((m + a) % 100 + b) / 100 = (m + (a + b)) / 100 := by
    intro m; omega
  have frac : ∀ m : Nat, ((m + a) % 100 + b) % 100 = (m + (a + b)) % 100 := by intro m; omega
  have secs : ∀ m x y : Nat, (m + x) / 1000000 + ((m + x) % 1000000 + y) / 1000000
      = (m + (x + y)) / 1000000 := by intro m x y; omega
  have sfrac : ∀ m x y : Nat, ((m + x) % 1000000 + y) % 1000000 = (m + (x + y)) % 1000000 := by
    intro m x y; omega
  have word : ∀ (w : Word) (x y : Nat),
      w + BitVec.ofNat 32 x + BitVec.ofNat 32 y = w + BitVec.ofNat 32 (x + y) := by
    intro w x y; rw [BitVec.ofNat_add, BitVec.add_assoc]
  have lock : ∀ l f : Nat,
      min 5000 (min 5000 (l + (f + a) / 100) + ((f + a) % 100 + b) / 100)
        = min 5000 (l + (f + (a + b)) / 100) := by intro l f; omega
  simp only [Timebase.elapse, Config.ticksPerMicrosecond, Config.microsecondsPerSecond,
    Config.lockTimeout, micro, frac, secs, sfrac, word, Nat.add_assoc]
  by_cases h : t.loop = .locking
  · simp only [h, if_true, lock, frac]
  · simp only [h, if_false]

theorem Lane.elapse_elapse (a b : Nat) (l : Lane) : (l.elapse a).elapse b = l.elapse (a + b) := by
  unfold Lane.elapse
  by_cases h : l.state = .up
  · simp only [h, if_true, Lane.mk.injEq, true_and, and_true, Config.silenceMax]; omega
  · simp only [h, if_false]

theorem Generator.cyclesEnding_add (g : Generator) (now a b : Nat) :
    g.cyclesEnding now a + g.cyclesEnding (now + a) b = g.cyclesEnding now (a + b) := by
  unfold Generator.cyclesEnding
  cases g.origin with
  | none => rfl
  | some o =>
    have h1 : (now - o) / (2 * g.latchDivider) ≤ (now + a - o) / (2 * g.latchDivider) :=
      Nat.div_le_div_right (by omega)
    have h2 : (now + a - o) / (2 * g.latchDivider) ≤ (now + a + b - o) / (2 * g.latchDivider) :=
      Nat.div_le_div_right (by omega)
    simp only [← Nat.add_assoc]
    omega

theorem Generator.elapse_elapse (now a b : Nat) (g : Generator) :
    (g.elapse now a).elapse (now + a) b = g.elapse now (a + b) := by
  have h := g.cyclesEnding_add now a b
  have hc : ∀ k r, ({ g with settleRemaining := k, restart := r } : Generator).cyclesEnding (now + a) b
      = g.cyclesEnding (now + a) b := fun _ _ => rfl
  by_cases hs : g.state = .retuning ∧ g.settling = true
  · by_cases hr : g.restart = true ∧ 0 < g.cyclesEnding now a
    · have e1 : g.elapse now a = { g with
          settleRemaining := g.latchSettle - (g.cyclesEnding now a - 1), restart := false } := by
        unfold Generator.elapse; rw [if_pos hs]; dsimp only; rw [if_pos hr]
      have e2 : g.elapse now (a + b) = { g with
          settleRemaining := g.latchSettle - (g.cyclesEnding now (a + b) - 1), restart := false } := by
        unfold Generator.elapse; rw [if_pos hs]; dsimp only; rw [if_pos ⟨hr.1, by omega⟩]
      rw [e1, e2]
      unfold Generator.elapse
      rw [if_pos hs]
      dsimp only
      rw [if_neg (fun c => Bool.false_ne_true c.1), hc]
      simp only [Generator.mk.injEq, true_and, and_true]
      omega
    · have e1 : g.elapse now a = { g with settleRemaining := g.settleRemaining - g.cyclesEnding now a } := by
        unfold Generator.elapse; rw [if_pos hs]; dsimp only; rw [if_neg hr]
      rw [e1]
      unfold Generator.elapse
      rw [if_pos hs, if_pos hs]
      dsimp only
      rw [hc, ← h]
      by_cases hr2 : g.restart = true
      · have h0 : g.cyclesEnding now a = 0 := by
          rcases Nat.eq_zero_or_pos (g.cyclesEnding now a) with h0 | h0
          · exact h0
          · exact absurd ⟨hr2, h0⟩ hr
        rw [h0, Nat.sub_zero, Nat.zero_add]
      · rw [if_neg (fun c => hr2 c.1), if_neg (fun c => hr2 c.1), Nat.sub_sub]
  · have e : ∀ m k, g.elapse m k = g := by
      intro m k; unfold Generator.elapse; rw [if_neg hs]
    rw [e, e, e]

theorem Reduction.takePairs_takePairs (a b : Nat) (r : Reduction) :
    (r.takePairs a).takePairs b = r.takePairs (a + b) := by
  induction a generalizing r with
  | zero => simp [Reduction.takePairs]
  | succ a ih =>
    rw [Nat.succ_add]
    cases h : r.burst with
    | nil =>
      have e : ∀ k, r.takePairs k = r := by
        intro k; cases k <;> simp [Reduction.takePairs, h]
      rw [e, e, e]
    | cons p rest => simp only [Reduction.takePairs, h]; exact ih _

/-- The clocks run through a span whole or in two parts (R147). -/
theorem runClocks_runClocks (a b : Nat) (s : State) :
    runClocks b (runClocks a s) = runClocks (a + b) s := by
  have gens : (s.gens.map (Generator.elapse s.tb.ticks a)).map
        (Generator.elapse (s.tb.ticks + a) b) = s.gens.map (Generator.elapse s.tb.ticks (a + b)) := by
    simp only [PerGen.map, Generator.elapse_elapse]
  have lanes : (s.lanes.map (Lane.elapse a)).map (Lane.elapse b)
      = s.lanes.map (Lane.elapse (a + b)) := by
    simp only [PerLane.map, Lane.elapse_elapse]
  have reds : (s.reductions.map (fun slot => slot.map (Reduction.takePairs a))).map
        (fun slot => slot.map (Reduction.takePairs b))
      = s.reductions.map (fun slot => slot.map (Reduction.takePairs (a + b))) := by
    have h : ∀ x : Option Reduction,
        (x.map (Reduction.takePairs a)).map (Reduction.takePairs b)
          = x.map (Reduction.takePairs (a + b)) := by
      intro x
      cases x with
      | none => rfl
      | some r => exact congrArg some (Reduction.takePairs_takePairs a b r)
    simp only [PerLane.map, h]
  have ticks : (s.tb.elapse a).ticks = s.tb.ticks + a := rfl
  simp only [runClocks, Timebase.elapse_elapse, lanes, reds, ticks, gens]

/-! ### What `elapse` does beyond the clocks -/

/-- Without a wrap in them, ticks bring the clocks alone (R147). -/
theorem elapse_of_no_wrap {n : Nat} {s : State} (h : s.tb.wrapsIn n = 0) : elapse n s = runClocks n s := by
  simp [elapse, h, elapseFrom]

/-- A wrap that lies in a span is reached within it. -/
theorem Timebase.ticksToWrap_le {n : Nat} {t : Timebase} (h : t.wrapsIn n ≠ 0) : t.ticksToWrap ≤ n := by
  have hw : 4294967296 ≤ t.microseconds.toNat + (t.microFraction + n) / 100 := by
    by_contra hc
    exact h (Nat.div_eq_of_lt (Nat.lt_of_not_le hc))
  simp only [Timebase.ticksToWrap, Config.microsecondSpan, Config.ticksPerMicrosecond]
  omega

/-- Time brings the clocked items what the clocks bring them, wraps or not. -/
theorem elapseFrom_clocks (k n : Nat) (s : State) :
    (elapseFrom k n s).tb = s.tb.elapse n
    ∧ (elapseFrom k n s).gens = s.gens.map (Generator.elapse s.tb.ticks n)
    ∧ (elapseFrom k n s).lanes = s.lanes.map (Lane.elapse n)
    ∧ (elapseFrom k n s).reductions = s.reductions.map (fun slot => slot.map (Reduction.takePairs n)) := by
  induction k generalizing n s with
  | zero => exact ⟨rfl, rfl, rfl, rfl⟩
  | succ k ih =>
    simp only [elapseFrom]
    split
    · exact ⟨rfl, rfl, rfl, rfl⟩
    · rename_i h
      have le := Timebase.ticksToWrap_le h
      have two := runClocks_runClocks s.tb.ticksToWrap (n - s.tb.ticksToWrap) s
      rw [Nat.add_sub_cancel' le] at two
      obtain ⟨h1, h2, h3, h4⟩ := ih (n - s.tb.ticksToWrap) (wrapAfter s.tb.ticksToWrap s)
      have w : ∀ m x, (wrapAfter m x).tb = (runClocks m x).tb
          ∧ (wrapAfter m x).gens = (runClocks m x).gens
          ∧ (wrapAfter m x).lanes = (runClocks m x).lanes
          ∧ (wrapAfter m x).reductions = (runClocks m x).reductions := by
        intro m x; simp [wrapAfter]
      obtain ⟨w1, w2, w3, w4⟩ := w s.tb.ticksToWrap s
      refine ⟨?_, ?_, ?_, ?_⟩
      · rw [h1, w1]; exact congrArg State.tb two
      · rw [h2, w1, w2]; exact congrArg State.gens two
      · rw [h3, w3]; exact congrArg State.lanes two
      · rw [h4, w4]; exact congrArg State.reductions two

@[simp] theorem elapse_tb (n : Nat) (s : State) : (elapse n s).tb = s.tb.elapse n :=
  (elapseFrom_clocks _ n s).1

@[simp] theorem elapse_gens (n : Nat) (s : State) :
    (elapse n s).gens = s.gens.map (Generator.elapse s.tb.ticks n) := (elapseFrom_clocks _ n s).2.1

@[simp] theorem elapse_lanes (n : Nat) (s : State) :
    (elapse n s).lanes = s.lanes.map (Lane.elapse n) := (elapseFrom_clocks _ n s).2.2.1

@[simp] theorem elapse_reductions (n : Nat) (s : State) :
    (elapse n s).reductions = s.reductions.map (fun slot => slot.map (Reduction.takePairs n)) :=
  (elapseFrom_clocks _ n s).2.2.2

end Sys2Proof.Machine
end

