-- ==== Sys2Proof/Laws/Events.lean ====
section
/-! SUPPORT. What the taking of an event comes to: the end of every event, the receiver, the arbiter when nothing calls
for a pass, and what the passing of time leaves alone. -/

namespace Sys2Proof.Machine

/-! ### The end of an event -/

/-- The reports, their order, their HELD marks and the grant turn are the same: only a report's transmission may have
begun. -/
def ReportUnit.SameReports (a b : ReportUnit) : Prop :=
  a.queue.map (fun e => { e with inTransmission := false })
      = b.queue.map (fun e => { e with inTransmission := false })
    ∧ a.turn = b.turn ∧ a.nextId = b.nextId

/-- The link port is the same but for the frame in transmission. -/
def LinkPort.SameButSending (a b : LinkPort) : Prop :=
  { a with transmitting := none } = { b with transmitting := none }

/-- The event records, the overflow flag and the setting are the same: only the latch and the notice may differ. -/
def EventUnit.SameRecords (a b : EventUnit) : Prop :=
  a.queue = b.queue ∧ a.overflow = b.overflow ∧ a.delay = b.delay

/-- `b` is `a` with at most what the end of an event does: the ATTN notice settled and the next upstream frame begun
(R163, R177). -/
def UpstreamOnly (a b : State) : Prop :=
  SameBut [.reports, .link, .events] a b ∧ a.reports.SameReports b.reports
    ∧ a.link.SameButSending b.link ∧ a.events.SameRecords b.events

theorem SameBut.refl (l : List Block) (s : State) : SameBut l s s :=
  ⟨rfl, fun x _ => by cases x <;> rfl⟩

/-- Two states that differ in no block but those listed. -/
theorem SameBut.trans {l : List Block} {a b c : State} (h : SameBut l a b) (k : SameBut l b c) :
    SameBut l a c := by
  refine ⟨h.1.trans k.1, fun x hx => ?_⟩
  have h1 := h.2 x hx
  have h2 := k.2 x hx
  cases x <;> simp only [Block.Same] at h1 h2 ⊢ <;> exact h1.trans h2

theorem ReportUnit.SameReports.refl (a : ReportUnit) : a.SameReports a := ⟨rfl, rfl, rfl⟩

theorem UpstreamOnly.refl (s : State) : UpstreamOnly s s :=
  ⟨SameBut.refl _ s, ReportUnit.SameReports.refl _, rfl, rfl, rfl, rfl⟩

theorem UpstreamOnly.trans {a b c : State} (h : UpstreamOnly a b) (k : UpstreamOnly b c) :
    UpstreamOnly a c := by
  obtain ⟨h1, h2, h3, h4⟩ := h
  obtain ⟨k1, k2, k3, k4⟩ := k
  refine ⟨h1.trans k1, ⟨h2.1.trans k2.1, h2.2.1.trans k2.2.1, h2.2.2.trans k2.2.2⟩, ?_, ?_⟩
  · exact Eq.trans h3 k3
  · exact ⟨h4.1.trans k4.1, h4.2.1.trans k4.2.1, h4.2.2.trans k4.2.2⟩

/-- The ATTN notice is settled with no other effect (R177). -/
theorem raiseNotice_upstreamOnly (s : State) : UpstreamOnly s (raiseNotice s) := by
  unfold raiseNotice
  split
  · refine ⟨⟨rfl, fun x hx => ?_⟩, ReportUnit.SameReports.refl _, rfl, rfl, rfl, rfl⟩
    cases x <;> simp_all [Block.Same]
  · exact UpstreamOnly.refl s

theorem transmit_upstreamOnly (f : UpFrame) (s : State) : UpstreamOnly s (transmit f s) := by
  refine ⟨⟨rfl, fun x hx => ?_⟩, ReportUnit.SameReports.refl _, rfl, rfl, rfl, rfl⟩
  cases x <;> simp_all [Block.Same, transmit]

theorem startAttn_upstreamOnly (s : State) : UpstreamOnly s (startAttn s) := by
  refine ⟨⟨rfl, fun x hx => ?_⟩, ReportUnit.SameReports.refl _, rfl, rfl, rfl, rfl⟩
  cases x <;> simp_all [Block.Same, startAttn, transmit]

theorem startReport_upstreamOnly (e : ReportEntry) (s : State) :
    UpstreamOnly s (startReport e s) := by
  refine ⟨⟨rfl, fun x hx => ?_⟩, ⟨?_, rfl, rfl⟩, rfl, rfl, rfl, rfl⟩
  · cases x <;> simp_all [Block.Same, startReport, transmit]
  · simp only [startReport, transmit, List.map_map]
    refine List.map_congr_left fun x _ => ?_
    simp only [Function.comp]
    split <;> rfl

theorem chooseFrame_upstreamOnly (s : State) : UpstreamOnly s (chooseFrame s) := by
  unfold chooseFrame
  split
  · exact transmit_upstreamOnly _ s
  · split
    · exact startAttn_upstreamOnly s
    · split
      · exact startReport_upstreamOnly _ s
      · split
        · exact transmit_upstreamOnly _ s
        · exact UpstreamOnly.refl s

/-- The upstream choice begins at most one frame (R163). -/
theorem upstreamChoice_upstreamOnly (s : State) : UpstreamOnly s (upstreamChoice s) := by
  unfold upstreamChoice
  split
  · exact UpstreamOnly.refl s
  · split
    · exact UpstreamOnly.refl s
    · exact chooseFrame_upstreamOnly s

/-- The end of an event settles the notice and begins at most one frame (R163, R177). -/
theorem conclude_upstreamOnly (s : State) : UpstreamOnly s (conclude s) :=
  (raiseNotice_upstreamOnly s).trans (upstreamChoice_upstreamOnly _)

/-! ### Taking an event -/

/-- A part that runs takes an event as time passes and the event acts. -/
theorem takeEvent_becomes {s : State} (h : s.resetLow = false) (dt : Nat) (f : State → State) :
    Becomes (takeEvent dt f s) (f (elapse dt s)) := by
  simp [Becomes, takeEvent, h]

theorem takeEvent_held {s : State} (h : s.resetLow = true) (dt : Nat) (f : State → State) :
    takeEvent dt f s = .next s := by
  simp [takeEvent, h]

/-- An event that calls for no pass of the arbiter is taken as one that reaches no generator. -/
theorem takeArbitrated_becomes {s : State} (h : s.resetLow = false) (dt : Nat) (f : State → State)
    (k : passTriggered (elapse dt s) (f (elapse dt s)) = false) :
    Becomes (takeArbitrated dt f s) (f (elapse dt s)) := by
  simp [Becomes, takeArbitrated, arbiterAfter, h, k]

/-- An event that calls for a pass of the arbiter ends in one (R139). -/
theorem takeArbitrated_passes {s : State} (h : s.resetLow = false) (dt : Nat) (f : State → State)
    (k : passTriggered (elapse dt s) (f (elapse dt s)) = true) :
    Becomes (takeArbitrated dt f s) (arbiterPass (f (elapse dt s))) := by
  simp [Becomes, takeArbitrated, arbiterAfter, h, k]

theorem takeArbitrated_held {s : State} (h : s.resetLow = true) (dt : Nat) (f : State → State) :
    takeArbitrated dt f s = .next s := by
  simp [takeArbitrated, h]

/-- An event that leaves the waiting entries, the user counts, the generator states and the pending switch as they are
calls for no pass (R139). -/
theorem passTriggered_of_same {a b : State} (hw : b.waiting = a.waiting)
    (hu : ∀ g, (b.gen g).users = (a.gen g).users) (hs : ∀ g, (b.gen g).state = (a.gen g).state)
    (hp : b.tb.pendingSwitch = a.tb.pendingSwitch) : passTriggered a b = false := by
  have self : ∀ (s : State) (e : Entry), e ∈ s.waiting → s.isWaiting e.tag = true := by
    intro s e he
    exact List.any_eq_true.mpr ⟨e, he, by simp⟩
  have keep : ∀ t, b.isWaiting t = a.isWaiting t := by
    intro t; simp only [State.isWaiting, hw]
  simp only [passTriggered, Bool.or_eq_false_iff]
  refine ⟨⟨⟨?_, ?_⟩, ?_⟩, ?_⟩
  · rw [hw]
    refine Bool.eq_false_iff.mpr fun h => ?_
    obtain ⟨e, he, hn⟩ := List.any_eq_true.mp h
    simp [self a e he] at hn
  · refine Bool.eq_false_iff.mpr fun h => ?_
    obtain ⟨e, he, hn⟩ := List.any_eq_true.mp h
    simp [keep, self a e he] at hn
  · refine Bool.eq_false_iff.mpr fun h => ?_
    obtain ⟨g, -, hg⟩ := List.any_eq_true.mp h
    simp only [hu g, hs g] at hg
    rcases Nat.eq_zero_or_pos (a.gen g).users with h0 | h0
    · simp [h0] at hg
    · simp [Nat.ne_of_gt h0] at hg
  · rw [hp]
    cases a.tb.pendingSwitch <;> rfl

/-- Nothing calls for a pass between a state and itself (R139). -/
theorem passTriggered_self (s : State) : passTriggered s s = false :=
  passTriggered_of_same rfl (fun _ => rfl) (fun _ => rfl) rfl

/-- A frame that the receiver takes (R165). -/
theorem takeFrame_taken {s : State} (hr : s.link.receiving = true)
    (hl : s.link.replies.length < Config.replyCapacity) (f : State → State) : takeFrame f s = f s := by
  simp [takeFrame, hr, Nat.not_le.mpr hl]

/-- A frame that meets a full reply list (R165). -/
theorem takeFrame_full {s : State} (hr : s.link.receiving = true)
    (hl : Config.replyCapacity ≤ s.link.replies.length) (f : State → State) :
    takeFrame f s = countLinkError s := by
  simp [takeFrame, hr, hl]

/-- A frame after a LINK_RESET was taken (R174). -/
theorem takeFrame_deaf {s : State} (hr : s.link.receiving = false) (f : State → State) :
    takeFrame f s = s := by
  simp [takeFrame, hr]

/-! ### The passing of time -/

@[simp] theorem elapse_lane (n : Nat) (s : State) (m : LaneId) :
    (elapse n s).lane m = (s.lane m).elapse n := by
  simp [State.lane]

@[simp] theorem elapse_gen (n : Nat) (s : State) (g : GenId) :
    (elapse n s).gen g = (s.gen g).elapse s.tb.ticks n := by
  simp [State.gen]

theorem elapse_reduction (n : Nat) (s : State) (m : LaneId) :
    (elapse n s).reductions.get m = (s.reductions.get m).map (Reduction.takePairs n) := by
  simp

@[simp] theorem elapse_waiting (n : Nat) (s : State) : (elapse n s).waiting = s.waiting := by
  simp [State.waiting]

@[simp] theorem elapse_stepOf (n : Nat) (s : State) (e : Entry) :
    (elapse n s).stepOf e = s.stepOf e := by
  simp [State.stepOf, State.stepAt]

/-- What time does not bring to the reports, the link and the events: a wrap posts its event, and its end may begin a
frame (R147). -/
structure WrapsOnly (a b : State) : Prop where
  reports : a.reports.SameReports b.reports
  link : a.link.SameButSending b.link
  delay : a.events.delay = b.events.delay
  busy : a.link.transmitting ≠ none → a.reports = b.reports ∧ a.link = b.link

theorem WrapsOnly.refl (s : State) : WrapsOnly s s :=
  ⟨ReportUnit.SameReports.refl _, rfl, rfl, fun _ => ⟨rfl, rfl⟩⟩

theorem WrapsOnly.trans {a b c : State} (h : WrapsOnly a b) (k : WrapsOnly b c) : WrapsOnly a c where
  reports := ⟨h.1.1.trans k.1.1, h.1.2.1.trans k.1.2.1, h.1.2.2.trans k.1.2.2⟩
  link := Eq.trans h.2 k.2
  delay := h.3.trans k.3
  busy := fun hb =>
    have hk := k.4 ((h.4 hb).2 ▸ hb)
    ⟨(h.4 hb).1.trans hk.1, (h.4 hb).2.trans hk.2⟩

/-- A busy transmitter begins nothing (R163). -/
theorem conclude_busy {s : State} (h : s.link.transmitting ≠ none) : conclude s = raiseNotice s := by
  unfold conclude upstreamChoice
  split
  · rfl
  · rw [raiseNotice_link]
    split
    · rfl
    · rename_i hn; exact absurd hn h

theorem wrapAfter_wrapsOnly (n : Nat) (s : State) : WrapsOnly s (wrapAfter n s) := by
  have c := conclude_upstreamOnly (postEvent .timeWrap 0 (runClocks n s))
  obtain ⟨-, c2, c3, c4⟩ := c
  refine ⟨?_, ?_, ?_, ?_⟩
  · simpa [wrapAfter] using c2
  · simpa [wrapAfter] using c3
  · refine Eq.trans ?_ c4.2.2
    unfold postEvent; split <;> rfl
  · intro h
    rw [wrapAfter, conclude_busy (by simpa using h)]
    simp

theorem runClocks_wrapsOnly (n : Nat) (s : State) : WrapsOnly s (runClocks n s) :=
  ⟨ReportUnit.SameReports.refl _, rfl, rfl, fun _ => ⟨rfl, rfl⟩⟩

theorem elapse_wrapsOnly (n : Nat) (s : State) : WrapsOnly s (elapse n s) := by
  have h : ∀ k m (x : State), WrapsOnly x (elapseFrom k m x) := by
    intro k
    induction k with
    | zero => exact fun m x => runClocks_wrapsOnly m x
    | succ k ih =>
      intro m x
      simp only [elapseFrom]
      split
      · exact runClocks_wrapsOnly m x
      · exact (wrapAfter_wrapsOnly _ x).trans (ih _ _)
  exact h _ n s

@[simp] theorem elapse_replies (n : Nat) (s : State) : (elapse n s).link.replies = s.link.replies :=
  (congrArg LinkPort.replies (elapse_wrapsOnly n s).link).symm
@[simp] theorem elapse_receiving (n : Nat) (s : State) :
    (elapse n s).link.receiving = s.link.receiving :=
  (congrArg LinkPort.receiving (elapse_wrapsOnly n s).link).symm
@[simp] theorem elapse_laneEnable (n : Nat) (s : State) :
    (elapse n s).link.laneEnable = s.link.laneEnable :=
  (congrArg LinkPort.laneEnable (elapse_wrapsOnly n s).link).symm
@[simp] theorem elapse_rawCopy (n : Nat) (s : State) : (elapse n s).link.rawCopy = s.link.rawCopy :=
  (congrArg LinkPort.rawCopy (elapse_wrapsOnly n s).link).symm
@[simp] theorem elapse_linkErrors (n : Nat) (s : State) :
    (elapse n s).link.linkErrors = s.link.linkErrors :=
  (congrArg LinkPort.linkErrors (elapse_wrapsOnly n s).link).symm
@[simp] theorem elapse_turn (n : Nat) (s : State) : (elapse n s).reports.turn = s.reports.turn :=
  (elapse_wrapsOnly n s).reports.2.1.symm
@[simp] theorem elapse_nextId (n : Nat) (s : State) : (elapse n s).reports.nextId = s.reports.nextId :=
  (elapse_wrapsOnly n s).reports.2.2.symm
@[simp] theorem elapse_reports_length (n : Nat) (s : State) :
    (elapse n s).reports.queue.length = s.reports.queue.length := by
  have h := congrArg List.length (elapse_wrapsOnly n s).reports.1
  simpa using h.symm
@[simp] theorem elapse_delay (n : Nat) (s : State) : (elapse n s).events.delay = s.events.delay :=
  (elapse_wrapsOnly n s).delay.symm

@[simp] theorem Timebase.elapse_source (n : Nat) (t : Timebase) : (t.elapse n).source = t.source := rfl
@[simp] theorem Timebase.elapse_pendingSwitch (n : Nat) (t : Timebase) :
    (t.elapse n).pendingSwitch = t.pendingSwitch := rfl
@[simp] theorem Timebase.elapse_loop (n : Nat) (t : Timebase) : (t.elapse n).loop = t.loop := rfl
@[simp] theorem Timebase.elapse_tbFail (n : Nat) (t : Timebase) : (t.elapse n).tbFail = t.tbFail := rfl
@[simp] theorem Timebase.elapse_ticks (n : Nat) (t : Timebase) : (t.elapse n).ticks = t.ticks + n := rfl

@[simp] theorem Lane.elapse_state (n : Nat) (l : Lane) : (l.elapse n).state = l.state := by
  unfold Lane.elapse; split <;> rfl
@[simp] theorem Lane.elapse_rate (n : Nat) (l : Lane) : (l.elapse n).rate = l.rate := by
  unfold Lane.elapse; split <;> rfl
@[simp] theorem Lane.elapse_lastMarker (n : Nat) (l : Lane) :
    (l.elapse n).lastMarker = l.lastMarker := by
  unfold Lane.elapse; split <;> rfl
@[simp] theorem Lane.elapse_runCandidate (n : Nat) (l : Lane) :
    (l.elapse n).runCandidate = l.runCandidate := by
  unfold Lane.elapse; split <;> rfl
@[simp] theorem Lane.elapse_runFirst (n : Nat) (l : Lane) : (l.elapse n).runFirst = l.runFirst := by
  unfold Lane.elapse; split <;> rfl
@[simp] theorem Lane.elapse_runCount (n : Nat) (l : Lane) : (l.elapse n).runCount = l.runCount := by
  unfold Lane.elapse; split <;> rfl
@[simp] theorem Lane.elapse_openAttempt (n : Nat) (l : Lane) :
    (l.elapse n).openAttempt = l.openAttempt := by
  unfold Lane.elapse; split <;> rfl
@[simp] theorem Lane.elapse_lastClosed (n : Nat) (l : Lane) :
    (l.elapse n).lastClosed = l.lastClosed := by
  unfold Lane.elapse; split <;> rfl
@[simp] theorem Lane.elapse_selection (n : Nat) (l : Lane) :
    (l.elapse n).selection = l.selection := by
  unfold Lane.elapse; split <;> rfl
@[simp] theorem Lane.elapse_order (n : Nat) (l : Lane) : (l.elapse n).order = l.order := by
  unfold Lane.elapse; split <;> rfl

/-- Time brings a generator nothing but the progress of its settling. -/
theorem Generator.elapse_cases (now n : Nat) (g : Generator) :
    ∃ k r, g.elapse now n = { g with settleRemaining := k, restart := r } := by
  unfold Generator.elapse
  dsimp only
  split
  · split <;> exact ⟨_, _, rfl⟩
  · exact ⟨g.settleRemaining, g.restart, rfl⟩

@[simp] theorem Generator.elapse_state (now n : Nat) (g : Generator) :
    (g.elapse now n).state = g.state := by
  obtain ⟨k, r, h⟩ := g.elapse_cases now n; rw [h]
@[simp] theorem Generator.elapse_users (now n : Nat) (g : Generator) :
    (g.elapse now n).users = g.users := by
  obtain ⟨k, r, h⟩ := g.elapse_cases now n; rw [h]
@[simp] theorem Generator.elapse_frequency (now n : Nat) (g : Generator) :
    (g.elapse now n).frequency = g.frequency := by
  obtain ⟨k, r, h⟩ := g.elapse_cases now n; rw [h]
@[simp] theorem Generator.elapse_target (now n : Nat) (g : Generator) :
    (g.elapse now n).target = g.target := by
  obtain ⟨k, r, h⟩ := g.elapse_cases now n; rw [h]
@[simp] theorem Generator.elapse_output (now n : Nat) (g : Generator) :
    (g.elapse now n).output = g.output := by
  obtain ⟨k, r, h⟩ := g.elapse_cases now n; rw [h]
@[simp] theorem Generator.elapse_origin (now n : Nat) (g : Generator) :
    (g.elapse now n).origin = g.origin := by
  obtain ⟨k, r, h⟩ := g.elapse_cases now n; rw [h]
@[simp] theorem Generator.elapse_settling (now n : Nat) (g : Generator) :
    (g.elapse now n).settling = g.settling := by
  obtain ⟨k, r, h⟩ := g.elapse_cases now n; rw [h]
@[simp] theorem Generator.elapse_oldCycleEnd (now n : Nat) (g : Generator) :
    (g.elapse now n).oldCycleEnd = g.oldCycleEnd := by
  obtain ⟨k, r, h⟩ := g.elapse_cases now n; rw [h]

@[simp] theorem elapse_noUsers (n : Nat) (s : State) : (elapse n s).noUsers = s.noUsers := by
  simp [State.noUsers]

end Sys2Proof.Machine
end

