-- ==== Sys2Proof/Tests/Slice0.lean ====
section
/-! SUPPORT. Tests. First the checks of `Instr.WellFormed`, each with a command that it refuses; then single steps and
functions against the manual's worked figures, each naming its source; then, for every statement of the obligations that
has premises, concrete states and operands that meet them, clause by clause. -/

namespace Sys2Proof.Tests

open Sys2Proof Sys2Proof.Machine

set_option Elab.async false

/-! ### What WellFormed refuses -/

/-- The bytes of a good frame: kind REQUEST, sequence 5, payload STATUS. -/
def goodFrame : List Byte := linkFrameBytes { kind := 3, seq := 5, payload := [3] }

theorem test_good_frame_is_no_frame_error :
    (Instr.linkFrameError 0 goodFrame).WellFormed = false := by decide +kernel

theorem test_cut_frame_is_a_frame_error :
    (Instr.linkFrameError 0 (goodFrame.take 8)).WellFormed = true := by decide +kernel

theorem test_known_kind_is_not_unknown : (Instr.unknownFrameKind 0 1 3).WellFormed = false := by decide

theorem test_long_dispatch_is_ill_formed :
    (Instr.dispatch 0 1 (List.replicate 1025 0)).WellFormed = false := by decide +kernel

theorem test_long_table_is_ill_formed :
    (Instr.table 0 1 (List.replicate 1025 0)).WellFormed = false := by decide +kernel

theorem test_long_bad_request_is_ill_formed :
    (Instr.badRequest 0 1 (List.replicate 1025 0)).WellFormed = false := by decide +kernel

theorem test_good_request_is_no_bad_request : (Instr.badRequest 0 1 [3]).WellFormed = false := by decide

theorem test_long_burst_is_ill_formed :
    (Instr.burst 0 0 { crcGood := true, payloadLength := 16392, tag := 0, attempt := 1, contact := 0,
                       pairCount := 0, pairs := [] }).WellFormed = false := by decide

theorem test_pairs_beyond_the_payload_are_ill_formed :
    (Instr.burst 0 0 { crcGood := true, payloadLength := 10, tag := 0, attempt := 1, contact := 0,
                       pairCount := 1, pairs := [{ v := 0, i := 0 }] }).WellFormed = false := by decide

theorem test_long_fault_is_ill_formed :
    (Instr.fault 0 0 { crcGood := true, payloadLength := 16392, tag := 0, attempt := 1 }).WellFormed
      = false := by decide

theorem test_fault_is_no_discarded_lane_frame :
    (Instr.laneFrameDiscard 0 0 (laneFrameBytes [3, 0, 70, 1])).WellFormed = false := by decide +kernel

/-! ### The wires (R164, R179) -/

/-- The check value of the CRC-32 that R164 describes, over the nine bytes "123456789": a figure from outside the
manual. -/
theorem test_crc_check_value :
    crc32 [0x31, 0x32, 0x33, 0x34, 0x35, 0x36, 0x37, 0x38, 0x39] = 0xCBF43926 := by decide +kernel

/-- A DISPATCH written out from R179: tag 60, step 101, slot 0, lane 2, raw copy asked. -/
theorem test_dispatch_fields :
    dispatchFields [0x00, 0x3C, 0x00, 0x65, 0x00, 0x02, 0x01]
      = some { tag := 60, step := 101, slot := 0, lane := 2, raw := true } := by decide

/-- A SET of DEFER_AGE to 1,800 s, a GROUP of slot 2, net 31, and an XOUT of slot 3, written out from R167 and R179. -/
theorem test_request_payloads :
    commandOfRequest 0 9 [2, 5, 0x00, 0x00, 0x07, 0x08] = .setDeferAge 0 9 1800
    ∧ commandOfRequest 0 9 [5, 2, 0x00, 0x1F] = .group 0 9 2 31
    ∧ commandOfRequest 0 9 [7, 3] = .xout 0 9 3
    ∧ commandOfRequest 0 9 [7] = .badRequest 0 9 [7] := by decide +kernel

theorem test_link_frame_spells_status : commandOfLink 0 goodFrame = .status 0 5 := by decide +kernel

/-- A BURST of one pair (1, −2) for (70, 2), both contacts good. -/
theorem test_lane_frame_spells_burst :
    commandOfLane 0 2 (laneFrameBytes [2, 0, 70, 2, 0, 0, 1, 0, 1, 0xFF, 0xFE])
      = .burst 0 2 { crcGood := true, payloadLength := 11, tag := 70, attempt := 2, contact := 0,
                     pairCount := 1, pairs := [{ v := 1, i := -2 }] } := by decide +kernel

/-- Step 101 of the example of chapter 1 (RES COMP, nets 12 and 40, range 4, low 396,000, high 404,000), N 64, stimulus 7,
retry limit 2, budget 20, its 24 bytes written out from R179. -/
def step101Bytes : List Byte :=
  [0x07, 0x31, 0x00, 0x0C, 0x00, 0x28, 0x04, 0xFF, 0x00, 0x40, 0x07, 0x20,
   0x00, 0x00, 0x00, 0x14, 0x00, 0x06, 0x0A, 0xE0, 0x00, 0x06, 0x2A, 0x20]

/-- The record those bytes stand for. -/
def step101 : StepRecord :=
  { method := .res, cls := some .comp, netA := some 12, netB := some 40, range := 4, freq := none,
    samples := 64, stimulus := 7, low := some 396000, high := some 404000, tolerance := none,
    exponent := 0, retryLimit := 2, budget := 20 }

theorem test_step_record_layout : decodeStep step101Bytes = some (some step101) := by decide +kernel

/-- Range 4 of chapter 4 (kv 30,518, ki 61,035, floor 100, clip 4, next 5) and frequency 3 (divider 5,000, G 15,915,494,
16 settle cycles), written out from R179. -/
theorem test_range_and_frequency_layouts :
    decodeRange [0x00, 0x00, 0x77, 0x36, 0x00, 0x00, 0xEE, 0x6B, 0x00, 0x64, 0x04, 0x05, 0, 0, 0, 0]
      = some { kv := 30518, ki := 61035, floor := 100, clip := 4, next := some 5 }
    ∧ decodeFreq [0x13, 0x88, 0x00, 0xF2, 0xD9, 0xE6, 0x10, 0x00]
      = some { divider := 5000, g := 15915494, settle := 16 }
    ∧ decodeNet [0x03, 0, 0, 0, 0x00, 0x00, 0x7A, 0xCC] = { excluded := true, preset := some 31436 } := by
  decide +kernel

/-! ### Arithmetic (chapter 4) -/

/-- The rounding table of R67, with P and D of 4.11 for its first rows. -/
theorem test_rounding_examples :
    roundQuotient 39063040000000000 97656000000 0 = 400007
    ∧ roundQuotient 39063040000000000 97656000000 1 = 40001
    ∧ roundQuotient 39063040000000000 97656000000 3 = 400
    ∧ roundQuotient 12345 1 1 = 1235 ∧ roundQuotient 4999 10000 0 = 0 := by decide +kernel

/-- Range 4 of 4.11. -/
def range4 : RangeRecord := { kv := 30518, ki := 61035, floor := 100, clip := 4, next := some 5 }

/-- A RES reduction of 64 pairs with given corrected sums. -/
def resSums (v i : Int) : Reduction :=
  { Reduction.start 60 1 .res 64 { zv := 3, zi := -2 } [] with corrV := v, corrI := i }

/-- The RES, OPEN, POLARITY and saturation cases of 4.11. -/
theorem test_resistance_case :
    (quantityOf (resSums 1280000 1600000) range4 1 0).kind = .value 400007 false
    ∧ (quantityOf (resSums 1280000 5000) range4 1 0).kind = .openReading
    ∧ (quantityOf (resSums (-1280000) 1600000) range4 1 0).kind = .polarity
    ∧ (quantityOf (resSums 0 1600000) range4 1 0).kind = .value 0 false
    ∧ (quantityOf (resSums 1280000 6400) { range4 with ki := 1 } 1 0).kind = .value 4294967294 true := by
  decide +kernel

/-- The ZERO step of 4.11: 3 and −2, value 3; and −2.5 rounds away from zero. -/
theorem test_zero_case :
    (quantityOf { Reduction.start 1 1 .zero 64 { zv := 0, zi := 0 } [] with sumV := 200, sumI := -136 }
        range4 1 0).kind = .offsets 3 { zv := 3, zi := -2 } true
    ∧ roundAway (-160) 64 = -3 := by decide +kernel

/-- The CAP step of 4.12 and the VF step of 4.13. -/
theorem test_capacitance_and_voltage_cases :
    (quantityOf { Reduction.start 1 1 .cap 4096 { zv := 0, zi := 0 } [] with
        sqV := 102400000000, sqI := 1000000000 } { range4 with ki := 610 } 15915494 0).kind
      = .value 31436 false
    ∧ (quantityOf { Reduction.start 1 1 .vf 256 { zv := 3, zi := 0 } [] with corrV := 5469440 }
        range4 1 3).kind = .value 652 false
    ∧ (quantityOf { Reduction.start 1 1 .vf 256 { zv := 3, zi := 0 } [] with corrV := -41000 }
        range4 1 0).kind = .value 0 false := by decide +kernel

/-- The signature table of 4.12 against 31,436 fF, tolerance 50 per mille. -/
theorem test_signature_cases :
    deviation 32900 31436 = 47 ∧ deviation 29865 31436 = 50
    ∧ judgeSignature 33008 31436 50 = .failHigh ∧ judgeSignature 29864 31436 50 = .failLow
    ∧ judgeSignature 29865 31436 50 = .pass := by decide +kernel

/-- The learning list of 7.9: a retest replaces its board's value, and the median of the five is the third. -/
theorem test_learning_median :
    let board (v p slot : Nat) : LearnEntry :=
      { value := v, panel := BitVec.ofNat 32 p, slot := slot, source := .reference }
    let l := [board 31410 11 0, board 31436 11 1, board 31620 11 2, board 31502 11 2, board 29980 11 3,
      board 31455 12 0].foldl (fun l x => learnInto x l) []
    l.map LearnEntry.value = [29980, 31410, 31436, 31455, 31502] ∧ medianOf 5 l = 31436 := by
  decide +kernel

/-! ### Small states -/

/-- A lane UP at 100 Mbit/s. -/
def laneUp : Lane := { Lane.reset with state := .up, rate := .r100 }

/-- A CAP step on frequency 3. -/
def capStep : StepRecord :=
  { step101 with method := .cap, freq := some 3, netA := some 6, netB := some 7 }

/-- A ZERO step. -/
def zeroStep : StepRecord :=
  { step101 with method := .zero, cls := none, netA := none, netB := none, low := none, high := none }

/-- The part with steps 101 (RES), 102 (CAP) and 103 (ZERO), range 4 alone, panel 9 open with slot 0 ACTIVE and slot 1
XOUT, and every lane UP. -/
def ready : State :=
  { State.reset with
    tables := { State.reset.tables with
      steps := [(101, some step101), (102, some capStep), (103, some zeroStep)]
      ranges := [(4, some { range4 with next := none })] }
    board := { slots := [(0, .active), (1, .xout)], panelOpen := true, panelSequence := 9, batch := 0 }
    lanes := PerLane.fill laneUp }

/-- An Outstanding entry of step 101 with tag 60 on lane 2. -/
def entry60 : Entry :=
  { tag := 60, panel := 9, slot := 0, step := 101, lane := 2, state := .forwarded, attempt := 1,
    range := 4, gen := none, tbFault := false, xoutMark := false, retried := false,
    rangeStepped := false, tbInternal := false, raw := true, deadline := some 2000, outcome := none,
    trigger := none, result := none }

/-- The part with one entry, its attempt open on its lane. -/
def busyWith (e : Entry) : State :=
  { ready with
    entries := [e]
    lanes := ready.lanes.set e.lane
      { laneUp with openAttempt := some { tag := e.tag, attempt := e.attempt } } }

/-- The part with an entry FORWARDED on lane 2. -/
def busy : State := busyWith entry60

/-- A report to fill places with. -/
def someReport : Report :=
  { kind := .verdict, tag := 1, panel := 9, slot := 0, step := 101, verdict := some .pass, cause := none,
    value := some 1, exponent := 0, attempts := 1, finalRange := 4,
    flags := { retried := false, rangeStepped := false, saturated := false, tbInternal := false,
               notLearned := false },
    leader := .absent, timestamp := 0 }

/-- A Report Queue entry to fill places with. -/
def someEntry : ReportEntry := { id := 0, report := someReport, held := false, inTransmission := false }

/-- A state with a full Report Queue. -/
def crowded (s : State) : State :=
  { s with reports := { s.reports with queue := List.replicate 32 someEntry } }

/-- A good BURST of 64 pairs for (60, 1). -/
def burst60 : BurstFrame :=
  { crcGood := true, payloadLength := 263, tag := 60, attempt := 1, contact := 0, pairCount := 64,
    pairs := List.replicate 64 { v := 20000, i := 25000 } }

/-- A reduction of lane 2's entry. -/
def reduction60 : Reduction := Reduction.start 60 1 .res 64 { zv := 0, zi := 0 } burst60.pairs

/-- A property of the next state that a command answers. -/
def after (o : Host.Outcome State Fault Refusal) (p : State → Bool) : Bool :=
  match o with
  | .next t => p t
  | .fault _ => false
  | .refused _ => false

/-! ### Single steps -/

/-- The end of the ATTN lets the transmitter begin the REPLY that waits (R163). -/
theorem test_attn_sent_begins_reply :
    after (exec (.attnSent 0) { ready with link := { ready.link with
        transmitting := some { kind := .attn, seq := 0, payload := [1, 0] }
        replies := [answered kindRequest 5 .ok []] } })
      (fun t => decide (t.link.transmitting = some { kind := .reply, seq := 5, payload := [3, 1] }))
      = true := by decide +kernel

/-- POWER_ON leaves the reset state (R175). -/
theorem test_power_on_is_reset :
    after (exec (.powerOn 0) busy) (fun t => decide (t = State.reset)) = true := by decide +kernel

/-- M6 to M10 of 3.7: the sixth matching interval locks 100 Mbit/s on lane 1 and posts LANE_UP with 356. -/
theorem test_sixth_interval_locks :
    after (exec (.marker 1030 1) { ready with
        tb := { ready.tb with ticks := 9190 }
        lanes := ready.lanes.set 1 { Lane.reset with
          lastMarker := some 9190, runCandidate := some .r100, runFirst := some 1029, runCount := 5 } })
      (fun t => decide ((t.lane 1).state = .up ∧ (t.lane 1).rate = .r100)
        && decide (t.events.queue.map (fun e => (e.code, e.parameter)) =
          [(.powerUp, 0), (.laneUp, 356)])) = true := by decide +kernel

/-- M4 of 3.7 at 4,133 instead: 1,043 is in the window but 13 ticks from 1,030, so a new run starts. -/
theorem test_far_interval_restarts_run :
    after (exec (.marker 1043 1) { ready with
        tb := { ready.tb with ticks := 3090 }
        lanes := ready.lanes.set 1 { Lane.reset with
          lastMarker := some 3090, runCandidate := some .r100, runFirst := some 1030, runCount := 3 } })
      (fun t => decide ((t.lane 1).runFirst = some 1043 ∧ (t.lane 1).runCount = 1)) = true := by
  decide +kernel

/-- The silence of 3.7: 4,096 ticks after the last marker lane 1 fails, LANE_FAILED 1 is posted. -/
theorem test_silence_fails_lane :
    after (exec (.silenceTimeout 4096 1) ready)
      (fun t => decide ((t.lane 1).state = .failed ∧ (t.lane 1).rate = .r100)
        && decide ((t.events.queue.map EventRecord.code).getLast? = some .laneFailed)) = true := by
  decide +kernel

/-- A burst of the figures of 4.11 is delivered, and its reduction ends in the report PASS. -/
theorem test_burst_then_report :
    after (exec (.burst 0 2 burst60) busy) (fun t =>
      after (exec (.reductionComplete 64 2) t)
        (fun t => t.entries.isEmpty && decide (t.reports.queue.map (fun e => (e.report.tag,
          e.report.verdict, e.report.value)) = [(60, some .pass, some 400007)]))) = true := by
  decide +kernel

/-- The escalation of 5.7: 5 clipped pairs over an allowance of 4, with a next range. -/
theorem test_escalation :
    judgeResult step101 range4 false entry60 { method := .res, kind := .value 400000 false, clip := 5 }
      = .retry (some 5) := by decide

/-- Record 5 of the first segment of chapter 1's example names a range that is EMPTY: BAD_RECORD with index 5. -/
theorem test_bad_range_segment :
    let record (next : Byte) : List Byte := [0, 0, 0, 1, 0, 0, 0, 1, 0, 0, 4, next, 0, 0, 0, 0]
    after (exec (.table 0 7 ([3, 0, 4, 2] ++ record 5 ++ record 6)) State.reset)
      (fun t => decide (t.link.replies = [answered kindTable 7 .badRecord [0, 5]])
        && decide (t.rangeAt 4 = none)) = true := by decide +kernel

/-- A CAP dispatch on a reset part waits, and XG0 starts toward its frequency from rest (8.7). -/
theorem test_cap_dispatch_waits_for_generator :
    after (exec (.dispatch 0 7 [0, 50, 0, 102, 0, 0, 0]) ready)
      (fun t => decide (t.entries.map Entry.state = [.waitExc])
        && decide ((t.gen 0).state = .retuning ∧ (t.gen 0).target = some 3)
        && decide ((t.gen 1).state = .idle)) = true := by decide +kernel

/-- Request 4 of 6.7 at its last relabelling: the end joins 20's list to 8's, count 5. -/
theorem test_walk_end_joins :
    let net (leader : Nat) (next : Option Nat) (tail count : Nat) : NetState :=
      { state := .short, leader := leader, next := next, tail := tail, count := count }
    after (exec (.walkEnd 0) { ready with
        netStates := [(8200, net 8 none 8 1), (8212, net 20 (some 31) 52 4), (8223, net 8 (some 45) 31 1),
          (8237, net 8 (some 52) 52 2), (8244, net 8 none 52 1)]
        groups := { ready.groups with walk := some {
          request := { slot := 2, netA := 8, netB := 52, report := 0 }
          low := 8, high := 20, position := none } } })
      (fun t => decide (t.groupList 2 64 (some 8) = [8, 20, 31, 45, 52])
        && decide ((t.netState 2 8).count = 5 ∧ (t.netState 2 8).tail = 52)
        && decide (t.groups.walk = none)) = true := by decide +kernel

/-- The queue of 9.7: a RESOLVED report passes two HELD entries of its own slot, and a VERDICT does not. -/
theorem test_eligible_passes_held :
    let entry (id slot : Nat) (kind : ReportKind) (held : Bool) : ReportEntry :=
      { id := id, report := { someReport with slot := slot, kind := kind }, held := held,
        inTransmission := false }
    (firstEligible [] [entry 101 2 .verdict true, entry 102 2 .verdict true, entry 205 2 .resolved false,
        entry 230 4 .verdict false]).map ReportEntry.id = some 205
    ∧ firstEligible [] [entry 101 2 .verdict true, entry 102 2 .verdict true, entry 140 2 .verdict false,
        entry 150 2 .pending false] = none := by decide +kernel

/-- R147: the counter wraps 100 ticks after 4,294,967,295 and TIME_WRAP is posted then, ahead of the LANE_UP of a marker
taken 5 ticks later, whose command carries the ticks. -/
theorem test_wrap_is_posted_before_later_events :
    after (exec (.marker 105 1) { ready with
        tb := { ready.tb with microseconds := 4294967295, ticks := 9000 }
        lanes := ready.lanes.set 1 { Lane.reset with
          lastMarker := some 8075, runCandidate := some .r100, runFirst := some 1030, runCount := 5 } })
      (fun t => decide (t.events.queue.map EventRecord.code = [.powerUp, .timeWrap, .laneUp])
        && decide (t.tb.microseconds = 0 ∧ t.tb.microFraction = 5)) = true := by decide +kernel

/-- The ATTN that a reset part is sending, byte by byte (R164, R179): kind 131, sequence 0, length 2, the fill 1, no
overflow; after them the CRC-32, which the receiver finds good. -/
theorem test_reset_sends_attn :
    (State.reset.sendingBytes).take 6 = [131, 0, 0, 2, 1, 0] ∧ State.reset.sendingBytes.length = 10
    ∧ (receiveLink State.reset.sendingBytes).isSome = true
    ∧ [UpKind.reply, .report, .attn, .raw].map UpKind.number = [129, 130, 131, 132] := by decide +kernel

/-! ### States that meet the premises of the statements: the machine -/

/-- The part held in reset. -/
def held : State := { ready with resetLow := true }

/-- A LINK_RESET's REPLY in transmission. -/
def resetting : State :=
  { ready with link := { ready.link with
      receiving := false
      replies := [{ kind := kindRequest, seq := 3, answer := .given .ok [], linkReset := true }]
      transmitting := some { kind := .reply, seq := 3, payload := [3, 1] } } }

theorem ready_takes_frames : ready.TakesFrames := ⟨rfl, rfl, by decide⟩

theorem busy_takes_frames : busy.TakesFrames := ⟨rfl, rfl, by decide⟩

theorem ready_no_waiting_group : ready.NoWaitingGroup := fun _ h => nomatch h

theorem witness_step_takes_front_command :
    ({ ready with pending := [.status 0 1] } : State).pending = .status 0 1 :: [] := rfl

theorem witness_idle_step : (ready.pending = [] ∧ ready.resetLow = false)
    ∧ (held.pending = [] ∧ held.resetLow = true) := by decide

theorem witness_reset_events : ready.resetLow = false ∧ held.resetLow = true
    ∧ (resetting.resetLow = false ∧ resetting.sendingLinkReset = true) := by decide

theorem witness_held_in_reset : held.resetLow = true
    ∧ (∀ dt, Instr.status 0 1 ≠ .powerOn dt) ∧ ∀ dt, Instr.status 0 1 ≠ .resetPinRelease dt :=
  ⟨rfl, (fun _ h => nomatch h), (fun _ h => nomatch h)⟩

theorem witness_only_table_frames_write : (Instr.status 0 1).resets = false
    ∧ (∀ dt seq p, Instr.status 0 1 ≠ .table dt seq p) ∧ ∃ t, exec (.status 0 1) ready = .next t :=
  ⟨rfl, (fun _ _ _ h => nomatch h), _, rfl⟩

theorem witness_panel_numbers : (Instr.status 0 1).resets = false ∧ busy.entries ≠ []
    ∧ ∃ t, exec (.status 0 1) busy = .next t := ⟨rfl, by decide, _, rfl⟩

/-! ### Frames and requests -/

/-- The reply list is full. -/
def repliesFull : State :=
  { ready with link := { ready.link with replies := List.replicate 64 (answered kindRequest 0 .ok []) } }

theorem witness_bad_frames : (ready.resetLow = false ∧ receiveLink [] = none)
    ∧ (repliesFull.resetLow = false ∧ repliesFull.link.receiving = true
      ∧ 64 ≤ repliesFull.link.replies.length)
    ∧ ((0#8) ≠ 1#8 ∧ (0#8) ≠ 2#8 ∧ (0#8) ≠ 3#8) ∧ ((4#8) ≠ 1#8 ∧ (4#8) ≠ 2#8 ∧ (4#8) ≠ 3#8)
    ∧ requestMalformed [] = true ∧ requestMalformed [11] = true := by decide +kernel

theorem witness_discarded_frames : (Instr.status 0 1).isFrame = true
    ∧ (Instr.status 0 1).WellFormed = true
    ∧ (resetting.resetLow = false ∧ resetting.link.receiving = false)
    ∧ (repliesFull.link.receiving = true ∧ 64 ≤ repliesFull.link.replies.length) := by decide +kernel

theorem witness_frames_read_back : ([] : List Byte).length ≤ 1024
    ∧ (List.replicate 1024 (0#8)).length ≤ 1024 ∧ (List.replicate 16391 (0#8)).length ≤ 16391
    ∧ State.reset.link.transmitting = some { kind := .attn, seq := 0, payload := [1, 0] } := by
  simp only [List.length_replicate, List.length_nil]; exact ⟨by omega, by omega, by omega, rfl⟩

/-- A PASS of step 101 with value 1 and no flag, and an ORDER of 64 pairs with XG1, written out from R179. -/
theorem test_report_and_order_layouts :
    reportPayload someReport
      = [1, 1, 0, 0x20, 0, 1, 0, 101, 0, 0, 1, 4, 0, 0, 0, 9, 0, 0, 0, 1, 0xFF, 0xFF, 0, 0, 0, 0, 0, 0]
    ∧ orderPayload { tag := 60, attempt := 2, range := 4, samples := 64, stimulus := 7, gen := some 1 }
      = [1, 0, 60, 2, 4, 0, 64, 7, 2] := by decide +kernel

/-- A copy of 253 pairs with offsets −1 and 4,096 at its last pair, written out from R179. -/
theorem test_raw_layout :
    rawPayload { lane := 3, tag := 70, attempt := 1, range := 4, offset := { zv := -1, zi := 4096 },
                 samples := 253, pairs := List.replicate 253 { v := 1, i := -2 }, nextPair := 252 }
      = [3, 0, 70, 1, 4, 0, 0xFF, 0xFF, 0x10, 0, 0, 253, 0, 252, 0, 1, 0, 1, 0xFF, 0xFE] := by decide +kernel

/-- A copy at its first and past its last pair; a REPORT with a value and one with none; an ORDER in transmission. -/
theorem witness_payloads :
    let copy (pairs : List Sample) : RawCopy :=
      { lane := 0, tag := 1, attempt := 1, range := 4, offset := { zv := 0, zi := 0 },
        samples := pairs.length, pairs := pairs, nextPair := 0 }
    let one := copy [{ v := 1, i := -2 }]
    let order : Order := { tag := 60, attempt := 1, range := 4, samples := 64, stimulus := 7, gen := none }
    let sends : State := { ready with lanes := ready.lanes.map (fun l => { l with order := some order }) }
    (one.pairs.length = one.samples ∧ one.nextPair ≤ one.samples ∧ 0 < min 252 (one.samples - one.nextPair)
      ∧ one.pairs[one.nextPair + 0]? = some { v := 1, i := -2 })
    ∧ ((copy []).pairs.length = (copy []).samples ∧ (copy []).nextPair ≤ (copy []).samples)
    ∧ someReport.value = some 1 ∧ ({ someReport with value := none } : Report).value = none
    ∧ (sends.lane 1).order = some order
    ∧ receiveLane (laneFrameBytes []) = some ([], true) ∧ requestMalformed [3] = false := by
  decide +kernel

/-- The first and last setting ids, and the ids beside them. -/
theorem witness_get : ready.TakesFrames ∧ (1 ≤ (1#8).toNat ∧ (7#8).toNat ≤ 7)
    ∧ ¬(1 ≤ (0#8).toNat) ∧ ¬((8#8).toNat ≤ 7) := ⟨ready_takes_frames, by decide⟩

/-- LEARN_COUNT and DEFER_AGE at 0, at 7 and 65,535, and above. -/
theorem witness_clamped_settings : ready.TakesFrames ∧ (0#32).toNat = 0 ∧ 7 ≤ (7#32).toNat
    ∧ ¬(7 ≤ (6#32).toNat) ∧ min 65535 (65536#32).toNat = 65535 := ⟨ready_takes_frames, by decide⟩

/-- A part with one event that is not urgent, a clear latch, and a transmitter at work. -/
def quiet : State :=
  { ready with events := { ready.events with
      queue := [{ code := .laneUp, urgent := false, parameter := 0, timestamp := 0 }], latch := false } }

theorem witness_set_event_delay : quiet.TakesFrames ∧ quiet.link.transmitting ≠ none
    ∧ (∀ r ∈ quiet.events.queue, r.urgent = false) ∧ decide ((1#32).toNat ≠ 0) = true
    ∧ (quiet.events.queue ≠ [] ∧ decide ((0#32).toNat ≠ 0) = false ∧ quiet.events.latch = false) :=
  ⟨⟨rfl, rfl, by decide⟩, by decide +kernel⟩

/-- A part with a switch to REFERENCE pending. -/
def switching : State :=
  { ready with tb := { ready.tb with pendingSwitch := some .reference, loop := .locked } }

/-- A part on REFERENCE with XG0 in use by one entry. -/
def onReference : State :=
  { busyWith { entry60 with step := 102, gen := some 0 } with
    tb := { ready.tb with source := .reference, loop := .locked }
    gens := { ready.gens with g0 := { Generator.reset with
      state := .running, frequency := some 3, users := 1, output := some 5000, origin := some 0 } } }

theorem witness_set_tb_source : ready.TakesFrames
    ∧ (Source.internal = ready.tb.source ∧ ready.tb.pendingSwitch = none)
    ∧ (Source.reference ≠ switching.tb.source ∧ switching.tb.pendingSwitch = some .reference)
    ∧ (Source.internal = switching.tb.source ∧ switching.waiting = [])
    ∧ (ready.tb.source = .internal ∧ ready.tb.pendingSwitch = none)
    ∧ (onReference.tb.source = .reference ∧ onReference.tb.pendingSwitch = none
      ∧ onReference.noUsers = false)
    ∧ (let s : State := { ready with tb := onReference.tb }
      s.tb.source = .reference ∧ s.tb.pendingSwitch = none ∧ s.noUsers = true ∧ s.waiting = []) :=
  ⟨ready_takes_frames, by decide +kernel⟩

theorem witness_lane_ports : ready.TakesFrames ∧ ready.entries = [] ∧ 3 < (4#8).toNat
    ∧ (3#8).toNat = (3 : LaneId).val := ⟨ready_takes_frames, by decide⟩

theorem witness_status : onReference.TakesFrames
    ∧ (∃ i, i < 8 ∧ (onReference.gen 0).state ≠ .retuning ∧ (onReference.gen 0).frequency = some i)
    ∧ ((ready.gen 1).state ≠ .retuning ∧ (ready.gen 1).frequency = none) :=
  ⟨⟨rfl, rfl, by decide⟩, ⟨3, by decide +kernel⟩, by decide +kernel⟩

/-- A part in the middle of XG0's retune to frequency 7. -/
def retuning : State :=
  { ready with gens := { ready.gens with g0 := { Generator.reset with
      state := .retuning, frequency := some 7, target := some 7, output := some 50, origin := some 0,
      latchDivider := 500, latchSettle := 20, oldCycleEnd := some 100 } } }

theorem witness_status_retuning : retuning.TakesFrames ∧ 7 < 8 ∧ (retuning.gen 0).state = .retuning
    ∧ (retuning.gen 0).target = some 7 := ⟨⟨rfl, rfl, by decide⟩, by decide +kernel⟩

/-- No event is left after ready's POWER_UP; one is left of two, and the latch is set. -/
theorem witness_fetch_event : ready.TakesFrames
    ∧ (ready.events.queue.tail.any (fun r => r.urgent || !ready.events.delay)) = false
    ∧ ((ready.events.queue ++ ready.events.queue).tail.any (fun r => r.urgent)) = true
    ∧ ready.events.latch = true := ⟨ready_takes_frames, by decide⟩

/-- A merge of slot 7 waits. -/
def merging : State :=
  { ready with groups := { ready.groups with
      queue := [{ slot := 7, netA := 1, netB := 2, report := 0 }] } }

theorem witness_group : ready.TakesFrames ∧ merging.TakesFrames ∧ ready.NoWaitingGroup
    ∧ merging.NoWaitingGroup ∧ 7 < (8#8).toNat ∧ 4095 < (4096#16).toNat
    ∧ ((7#8).toNat ≤ 7 ∧ (4095#16).toNat ≤ 4095 ∧ ready.settled 7 = true)
    ∧ merging.settled 7 = false :=
  ⟨ready_takes_frames, ⟨rfl, rfl, by decide⟩, ready_no_waiting_group, (fun _ h => nomatch h), by decide⟩

/-- A GROUP of slot 0 waits behind one of slot 7, which a merge keeps waiting. -/
def groupsWaiting : State :=
  { merging with link := { merging.link with replies :=
      [answered kindRequest 1 .ok [],
       { kind := kindRequest, seq := 2, answer := .waitingGroup 7 1, linkReset := false },
       { kind := kindRequest, seq := 3, answer := .waitingGroup 0 1, linkReset := false }] } }

theorem witness_waiting_groups : groupsWaiting.TakesFrames ∧ groupsWaiting.settled 7 = false
    ∧ groupsWaiting.link.replies = [answered kindRequest 1 .ok []]
      ++ { kind := kindRequest, seq := 2, answer := .waitingGroup 7 1, linkReset := false }
        :: [{ kind := kindRequest, seq := 3, answer := .waitingGroup 0 1, linkReset := false }]
    ∧ (∀ x ∈ [answered kindRequest 1 .ok []], x.answer = .given .ok []) ∧ groupsWaiting.settled 0 = true :=
  ⟨⟨rfl, rfl, by decide⟩, by decide +kernel⟩

/-- The waiting GROUPs of a part with no merge are all of settled slots. -/
theorem witness_settled_groups : ({ groupsWaiting with groups := ready.groups } : State).settled 7 = true
    ∧ ({ groupsWaiting with groups := ready.groups } : State).settled 0 = true := by decide +kernel

theorem witness_panel_start : busy.TakesFrames ∧ busy.entries ≠ [] ∧ merging.groups.queue ≠ []
    ∧ (ready.entries = [] ∧ ready.groups.queue = [] ∧ ready.groups.walk = none) :=
  ⟨busy_takes_frames, by decide⟩

theorem witness_xout : busy.TakesFrames ∧ 7 < (8#8).toNat ∧ (7#8).toNat ≤ 7
    ∧ (∀ e ∈ busy.entries, e.state ≠ .queued)
    ∧ (∀ e ∈ busy.entries, e.slot = (0#8).toNat → e.state ≠ .waitExc) :=
  ⟨busy_takes_frames, by decide⟩

/-- The entry of lane 2 FORWARDED and a second one QUEUED behind it. -/
def lined : State :=
  { busy with entries := [entry60, { entry60 with tag := 61, state := .queued, deadline := none }] }

/-- Lane 2 has been silent for four intervals. -/
def silent : State :=
  { busy with lanes := busy.lanes.set 2 { busy.lane 2 with silence := 4096 } }

/-- LANE_ENABLE without the bit of lane 2, which is UP. -/
theorem witness_lane_disabled : lined.TakesFrames ∧ (lined.lane 2).state = .up
    ∧ lined.link.laneEnable.getLsbD 2 = true ∧ (BitVec.ofNat 4 (min 15 (11#32).toNat)).getLsbD 2 = false
    ∧ (∃ e ∈ lined.entries, e.lane = 2 ∧ e.outcome = none)
    ∧ ∃ t, exec (.setLaneEnable 0 1 11) lined = .next t :=
  ⟨⟨rfl, rfl, by decide⟩, rfl, rfl, by decide, ⟨entry60, by decide +kernel⟩, _, rfl⟩

theorem witness_outcomes_fixed : lined.TakesFrames ∧ lined.excitationOk = true
    ∧ (∃ t, exec (.xout 0 1 0) lined = .next t)
    ∧ (∃ e ∈ lined.entries, e.slot = (0#8).toNat ∧ e.state = .queued)
    ∧ (silent.excitationOk = true ∧ silent.resetLow = false ∧ ((elapse 0 silent).lane 2).state = .up
      ∧ ((elapse 0 silent).lane 2).rate.threshold ≤ ((elapse 0 silent).lane 2).silence)
    ∧ (∃ t, exec (.silenceTimeout 0 2) silent = .next t)
    ∧ ((2#8).toNat = (2 : LaneId).val ∧ ∃ t, exec (.laneReset 0 1 2) silent = .next t) :=
  ⟨⟨rfl, rfl, by decide⟩, by decide +kernel, ⟨_, rfl⟩, by decide +kernel, by decide +kernel, ⟨_, rfl⟩,
    rfl, _, rfl⟩

theorem witness_batch_clear : ready.TakesFrames ∧ ready.canonical = true ∧ busy.canonical = true
    ∧ busy.entries ≠ [] ∧ ready.entries = [] ∧ ready.NoWaitingGroup :=
  ⟨ready_takes_frames, by decide +kernel, by decide +kernel, by decide, rfl, ready_no_waiting_group⟩

/-! ### Dispatches and tables -/

/-- A DISPATCH payload. -/
def order (tag step slot lane : Nat) : List Byte :=
  be16 tag ++ be16 step ++ [byte slot, byte lane, byte 0]

/-- Sixteen entries, four of each lane. -/
def sixteen : List Entry :=
  (List.range 16).map (fun k => { entry60 with
    tag := BitVec.ofNat 16 (100 + k), lane := ⟨k % 4, Nat.mod_lt _ (by decide)⟩ })

/-- Every check of R22 in turn is the first that fails. -/
theorem witness_dispatch_refusals : ready.TakesFrames ∧ (order 60 101 0 2 ++ [0]).length ≠ 7
    ∧ State.reset.board.panelOpen = false
    ∧ ready.stepAt 100 = none ∧ ¬(16384 ≤ 16383)
    ∧ (ready.slotAt 2 ≠ .active ∧ ready.slotAt 2 ≠ .xout) ∧ ¬(8 ≤ 7)
    ∧ ¬(4 ≤ 3) ∧ ({ ready with link := { ready.link with laneEnable := 11 } } : State).link.laneEnable.getLsbD
      2 = false
    ∧ (busy.entries.any (fun e => decide (e.tag = 60))) = true
    ∧ ¬(sixteen.length < 16)
    ∧ ¬(((sixteen.take 15).filter (fun e => decide (e.lane.val = 2))).length < 4) :=
  ⟨ready_takes_frames, by decide +kernel⟩

theorem witness_dispatch_forwarded : ready.TakesFrames ∧ ready.board.panelOpen = true ∧ 101 ≤ 16383
    ∧ ready.stepAt 101 = some step101 ∧ ready.slotAt 0 = .active ∧ ready.excluded step101.netA = false
    ∧ ready.excluded step101.netB = false ∧ ready.link.laneEnable.getLsbD 2 = true
    ∧ (ready.lane 2).state = .up ∧ (∀ e ∈ ready.entries, e.tag ≠ (60 : Half))
    ∧ ready.entries.length < 16 ∧ (∀ e ∈ ready.entries, e.lane ≠ 2) ∧ step101.method ≠ .cap :=
  ⟨ready_takes_frames, by decide +kernel⟩

/-- A switch pending; XG0 IDLE at frequency 3; both generators IDLE and STALE. -/
theorem witness_cap_dispatch : ready.TakesFrames ∧ ready.board.panelOpen = true
    ∧ ready.stepAt 102 = some capStep ∧ ready.slotAt 0 = .active ∧ ready.excluded capStep.netA = false
    ∧ ready.excluded capStep.netB = false ∧ ready.link.laneEnable.getLsbD 2 = true
    ∧ (ready.lane 2).state = .up ∧ (∀ e ∈ ready.entries, e.tag ≠ (60 : Half))
    ∧ ready.entries.length < 16 ∧ (∀ e ∈ ready.entries, e.lane ≠ 2) ∧ capStep.method = .cap
    ∧ capStep.freq = some 3 ∧ ready.waiting = [] ∧ switching.waiting = []
    ∧ switching.tb.pendingSwitch ≠ none
    ∧ (ready.tb.pendingSwitch = none
      ∧ (({ Generator.reset with frequency := some 3 } : Generator).state ≠ .retuning))
    ∧ (∀ g, (ready.gen g).state = .idle ∧ (ready.gen g).frequency ≠ some 3)
    ∧ (ready.gen 0).output = none := ⟨ready_takes_frames, by decide +kernel⟩

/-- Two CAP entries wait, 70 for frequency 3 and 71 for 4, with the generators given. -/
def waitingPair (g0 g1 : Generator) : State :=
  { ready with
    tables := { ready.tables with steps := [(102, some capStep), (104, some { capStep with freq := some 4 })] }
    entries :=
      [{ entry60 with tag := 70, step := 102, lane := 0, state := .waitExc, deadline := none },
       { entry60 with tag := 71, step := 104, lane := 1, state := .waitExc, deadline := none }]
    gens := { g0 := g0, g1 := g1 } }

/-- A generator in a state at a frequency, with an output of 50 since tick 0, or at rest. -/
def genAt (state : GenState) (frequency : Option Nat) (running : Bool) : Generator :=
  { Generator.reset with
    state := state
    frequency := frequency
    target := if state = .retuning then frequency else none
    users := if state = .running then 1 else 0
    output := if running then some 50 else none
    origin := if running then some 0 else none }

/-- The case of the arbiter that the first of the two waiting entries meets, by the generators: at XG0, at XG1, toward
its frequency, both IDLE with XG0 needed and XG1 not, both IDLE else, one IDLE, none. -/
theorem witness_arbiter_cases :
    let case (g0 g1 : Generator) : State := waitingPair g0 g1
    let s := case (genAt .idle (some 3) true) (genAt .idle none false)
    (s.outstandingOk = true ∧ s.entries.map (fun e => ((s.stepOf e).method, (s.stepOf e).freq))
      = [(.cap, some 3), (.cap, some 4)] ∧ s.tb.pendingSwitch = none)
    ∧ ((s.gen 0).state = .idle ∧ (s.gen 0).frequency = some 3)
    ∧ (let s := case (genAt .running (some 5) true) (genAt .running (some 3) true)
      (s.gen 0).frequency ≠ some 3 ∧ (s.gen 1).frequency = some 3)
    ∧ (let s := case (genAt .retuning (some 3) true) (genAt .idle none false)
      (s.gen 0).state = .retuning ∧ (s.gen 0).target = some 3 ∧ (s.gen 1).frequency ≠ some 3)
    ∧ (let s := case (genAt .idle (some 4) true) (genAt .idle (some 5) true)
      (s.gen 0).state = .idle ∧ (s.gen 1).state = .idle ∧ (s.gen 0).frequency = some 4
        ∧ s.spokenFor (s.entries.drop 1) 0 = true ∧ s.spokenFor (s.entries.drop 1) 1 = false)
    ∧ (let s := case (genAt .idle none false) (genAt .idle (some 4) true)
      s.spokenFor (s.entries.drop 1) 0 = false)
    ∧ (let s := case (genAt .idle none false) (genAt .running (some 5) true)
      (s.gen 0).state = .idle ∧ (s.gen 1).state ≠ .idle)
    ∧ (let s := case (genAt .running (some 5) true) (genAt .idle none false)
      (s.gen 0).state ≠ .idle ∧ (s.gen 1).state = .idle)
    ∧ (let s := case (genAt .running (some 5) true) (genAt .running (some 6) true)
      (s.gen 0).state ≠ .idle ∧ (s.gen 1).state ≠ .idle) := by decide +kernel

/-- A retune from an output at rest, and from one with 50 ticks a half cycle since tick 0. -/
theorem witness_start_retune : (genAt .idle none false).output = none
    ∧ ((genAt .idle (some 3) true).output = some 50 ∧ (genAt .idle (some 3) true).origin = some 0
      ∧ 0 < 50 ∧ 0 ≤ ready.tb.ticks) := by decide +kernel

/-- A dispatch for an ACTIVE slot of a step whose net A is excluded. -/
theorem witness_dispatch_excluded :
    let s : State := { busy with tables := { busy.tables with
      nets := [(12, { excluded := true, preset := none })] } }
    s.TakesFrames ∧ s.slotAt 0 = .active ∧ s.excluded step101.netA = true
    ∧ s.reports.queue.length < 32 ∧ 32 ≤ (crowded s).reports.queue.length :=
  ⟨⟨rfl, rfl, by decide⟩, by decide +kernel⟩

/-- Behind a FORWARDED head of lane 2; and for the XOUT slot 1 with a place free and with none. -/
theorem witness_dispatch_queued : busy.TakesFrames ∧ busy.stepAt 101 = some step101
    ∧ busy.link.laneEnable.getLsbD 2 = true ∧ (busy.lane 2).state = .up
    ∧ (∀ e ∈ busy.entries, e.tag ≠ (61 : Half)) ∧ busy.entries.length < 16
    ∧ (busy.entries.filter (fun e => decide (e.lane = 2))).length < 4
    ∧ (busy.slotAt 0 = .active ∧ busy.excluded step101.netA = false
      ∧ busy.excluded step101.netB = false
      ∧ busy.orderList 2 = entry60 :: [] ∧ entry60.state ≠ .queued)
    ∧ (busy.slotAt 1 = .xout ∧ busy.reports.queue.length < 32)
    ∧ ((crowded busy).slotAt 1 = .xout ∧ 32 ≤ (crowded busy).reports.queue.length) :=
  ⟨busy_takes_frames, by decide +kernel⟩

/-- A range record of 16 bytes with a next range. -/
def rangeBytes (next : Byte) : List Byte := [0, 0, 0, 1, 0, 0, 0, 1, 0, 0, 4, next, 0, 0, 0, 0]

/-- The segment that a payload spells. -/
def segmentOf (payload : List Byte) : Segment :=
  (parseSegment payload).getD { table := .step, first := 0, count := 0, records := [] }

/-- Ranges 4 and 5, the second bad. -/
def badRanges : List Byte := [3, 0, 4, 2] ++ rangeBytes 5 ++ rangeBytes 6

/-- Net 11, then net 12, which an entry of step 101 uses. -/
def netsInUse : List Byte := [2, 0, 11, 2] ++ List.replicate 16 0

theorem witness_segment_refusals : ready.TakesFrames ∧ parseSegment [] = none
    ∧ (parseSegment badRanges = some (segmentOf badRanges)
      ∧ (segmentOf badRanges).records = [(4, rangeBytes 5)] ++ (5, rangeBytes 6) :: []
      ∧ badRecord ready (segmentOf badRanges) 4 (rangeBytes 5) = false
      ∧ badRecord ready (segmentOf badRanges) 5 (rangeBytes 6) = true)
    ∧ (parseSegment netsInUse = some (segmentOf netsInUse)
      ∧ (segmentOf netsInUse).records
        = [(11, List.replicate 8 0)] ++ (12, List.replicate 8 0) :: []
      ∧ (∀ r ∈ (segmentOf netsInUse).records, badRecord busy (segmentOf netsInUse) r.1 r.2 = false)
      ∧ busy.inUse .net 11 = false ∧ busy.inUse .net 12 = true) :=
  ⟨ready_takes_frames, by decide +kernel⟩

/-- A segment is accepted at a state. -/
def acceptedAt (s : State) (payload : List Byte) : Bool :=
  decide (parseSegment payload = some (segmentOf payload))
    && (segmentOf payload).records.all (fun r =>
      !badRecord s (segmentOf payload) r.1 r.2 && !s.inUse (segmentOf payload).table r.1)

/-- The last step, the last net, the last range and the last frequency. -/
theorem witness_accepted_segments : ready.TakesFrames ∧ ready.canonical = true
    ∧ (acceptedAt ready ([1, 0x3F, 0xFF, 1] ++ step101Bytes)
      ∧ (segmentOf ([1, 0x3F, 0xFF, 1] ++ step101Bytes)).table = .step)
    ∧ (acceptedAt ready ([2, 0x0F, 0xFF, 1] ++ List.replicate 8 0)
      ∧ (segmentOf ([2, 0x0F, 0xFF, 1] ++ List.replicate 8 0)).table = .net)
    ∧ (acceptedAt ready ([3, 0, 31, 1] ++ rangeBytes 255)
      ∧ (segmentOf ([3, 0, 31, 1] ++ rangeBytes 255)).table = .range)
    ∧ (acceptedAt ready [4, 0, 7, 1, 0xC3, 0x50, 0, 0, 0, 1, 1, 0]
      ∧ (segmentOf [4, 0, 7, 1, 0xC3, 0x50, 0, 0, 0, 1, 1, 0]).table = .freq) :=
  ⟨ready_takes_frames, by decide +kernel⟩

theorem witness_step_records :
    let r : StepRecord := { step101 with
      netA := some 4094, range := 31, freq := some 7, samples := 4096, stimulus := 255,
      low := some 4294967294, tolerance := some 1000, exponent := 6, retryLimit := 7, budget := 65535 }
    (∀ a, r.netA = some a → a ≤ 4094) ∧ (∀ b, r.netB = some b → b ≤ 4094) ∧ r.range ≤ 31
    ∧ (∀ f, r.freq = some f → f ≤ 7) ∧ 16 ≤ r.samples ∧ r.samples ≤ 4096 ∧ r.stimulus ≤ 255
    ∧ (∀ l, r.low = some l → l ≤ 4294967294) ∧ (∀ h, r.high = some h → h ≤ 4294967294)
    ∧ (∀ x, r.tolerance = some x → 1 ≤ x ∧ x ≤ 1000) ∧ r.exponent ≤ 6 ∧ r.retryLimit ≤ 7
    ∧ 1 ≤ r.budget ∧ r.budget ≤ 65535 := by
  simp [step101]

/-- The last preset, the largest range record, the largest frequency record. -/
theorem witness_other_records :
    (∀ p, ({ excluded := true, preset := some 4294967295 } : NetRecord).preset = some p → p ≤ 4294967295)
    ∧ (let r : RangeRecord :=
        { kv := 1000000, ki := 1000000000, floor := 32767, clip := 255, next := some 31 }
      1 ≤ r.kv ∧ r.kv ≤ 1000000 ∧ 1 ≤ r.ki ∧ r.ki ≤ 1000000000 ∧ r.floor ≤ 32767 ∧ r.clip ≤ 255
        ∧ ∀ i, r.next = some i → i ≤ 31)
    ∧ (let r : FreqRecord := { divider := 50000, g := 4294967295, settle := 255 }
      50 ≤ r.divider ∧ r.divider ≤ 50000 ∧ 1 ≤ r.g ∧ r.g ≤ 4294967295 ∧ 1 ≤ r.settle
        ∧ r.settle ≤ 255) := by
  simp

/-! ### Lanes -/

/-- Lanes 0 to 3 in DISABLED, TRAINING, UP and FAILED. -/
def fourStates : State :=
  { ready with lanes :=
    { l0 := { Lane.reset with state := .disabled }, l1 := Lane.reset, l2 := laneUp,
      l3 := { laneUp with state := .failed } } }

theorem witness_marker_by_state : fourStates.resetLow = false
    ∧ (fourStates.lane 0).state = .disabled ∧ (fourStates.lane 2).state = .up
    ∧ (fourStates.lane 3).state = .failed
    ∧ ((fourStates.lane 1).state = .training ∧ (fourStates.lane 1).lastMarker = none
      ∧ (fourStates.lane 1).runCount < 6) := by decide +kernel

/-- The run of lane 1 in 3.7 with a count. -/
def trained (count : Nat) : Lane :=
  { Lane.reset with
    lastMarker := some 0, runCandidate := some .r100, runFirst := some 1030, runCount := count }

/-- The intervals of 3.7: 953 (no window), 1,030 (a start), 1,043 (a new start), 1,028 (a count, the lock). -/
theorem witness_training_marker : (trained 3).state = .training ∧ (trained 3).lastMarker = some 0
    ∧ matchRate 953 = none
    ∧ (matchRate 1030 = some .r100 ∧ (trained 0).runCount = 0)
    ∧ (matchRate 1043 = some .r100 ∧ (trained 3).runCount ≠ 0 ∧ (trained 3).runCandidate = some .r100
      ∧ (trained 3).runFirst = some 1030 ∧ 1030 < 100 * ((1043 : Int) - 1030).natAbs)
    ∧ (matchRate 1028 = some .r100 ∧ 100 * ((1028 : Int) - 1030).natAbs ≤ 1030
      ∧ (trained 3).runCount + 1 < 6 ∧ (trained 5).runCount + 1 = 6) := by decide +kernel

/-- Silence at four intervals, and one tick short of it. -/
theorem witness_silence : ready.resetLow = false ∧ ready.entries = []
    ∧ (((elapse 4096 ready).lane 2).state = .up
      ∧ ((elapse 4096 ready).lane 2).rate.threshold ≤ ((elapse 4096 ready).lane 2).silence)
    ∧ ((elapse 4095 ready).lane 2).silence < ((elapse 4095 ready).lane 2).rate.threshold := by
  decide +kernel

/-- Lane 2 of 3.8 with (70, 2) open and (70, 1) closed: a bad burst, a late one, a stray one. -/
theorem witness_lane_frames :
    let l : Lane := { laneUp with
      openAttempt := some { tag := 70, attempt := 2 }, lastClosed := some { tag := 70, attempt := 1 } }
    burstGood { burst60 with crcGood := false } = false ∧ (fourStates.lane 3).state ≠ .up
    ∧ (burstGood burst60 = true ∧ l.state = .up ∧ l.openAttempt ≠ some { tag := 70, attempt := 1 }
      ∧ l.openAttempt.map AttemptId.tag = some 70)
    ∧ (l.openAttempt ≠ some { tag := 15, attempt := 1 } ∧ l.openAttempt.map AttemptId.tag ≠ some 15
      ∧ l.lastClosed.map AttemptId.tag ≠ some 15)
    ∧ faultGood { crcGood := true, payloadLength := 4, tag := 70, attempt := 3 } = true
    ∧ faultGood { crcGood := true, payloadLength := 5, tag := 70, attempt := 3 } = false := by
  decide +kernel

/-- The premises that the ends of an attempt share, for the entry of lane 2. -/
def attemptOpen (s : State) (e : Entry) : Bool :=
  !s.resetLow && s.outstandingOk && s.entries.contains e && decide (e.lane = 2)
    && decide (e.state = .forwarded) && e.outcome.isNone && !e.xoutMark
    && decide ((s.lane 2).state = .up)
    && decide ((s.lane 2).openAttempt = some { tag := e.tag, attempt := (1#8).toNat })

/-- With the raw setting off and on, the buffer free and full. -/
theorem witness_burst_delivered : attemptOpen busy entry60 = true ∧ entry60.tbFault = false
    ∧ entry60.tag = burst60.tag ∧ burst60.attempt.toNat = 1 ∧ burstGood burst60 = true
    ∧ burst60.contact.getLsbD 0 = false ∧ burst60.contact.getLsbD 1 = false
    ∧ burst60.pairCount.toNat = (busy.stepOf entry60).samples
    ∧ (entry60.raw = true ∧ busy.link.rawCopy = false) ∧ busy.raw.length < 2 := by decide +kernel

theorem witness_trigger_retried : attemptOpen busy entry60 = true
    ∧ entry60.attempt < (busy.stepOf entry60).retryLimit + 1 ∧ busy.slotAt entry60.slot ≠ .xout
    ∧ busy.reports.queue.length < 32
    ∧ (entry60.deadline = some 2000
      ∧ ((elapse 200000 busy).tb.microseconds - 2000).toNat < 2147483648)
    ∧ (burstGood { burst60 with contact := 1 } = true ∧ burst60.tag = entry60.tag
      ∧ burst60.attempt = 1 ∧ (1#8).getLsbD 0 = true)
    ∧ (2#8).getLsbD 1 = true
    ∧ (attemptOpen (busyWith { entry60 with tbFault := true }) { entry60 with tbFault := true }) = true :=
  by decide +kernel

/-- A step with retry limit 0: attempt 1 is the last. -/
def lastAttempt (e : Entry) : State :=
  { busyWith e with tables := { ready.tables with steps := [(101, some { step101 with retryLimit := 0 })] } }

theorem witness_spent_budget : attemptOpen (lastAttempt entry60) entry60 = true ∧ entry60.gen = none
    ∧ (∀ x ∈ (lastAttempt entry60).entries, x.lane = 2 → x = entry60)
    ∧ entry60.attempt = ((lastAttempt entry60).stepOf entry60).retryLimit + 1
    ∧ (lastAttempt entry60).reports.queue.length < 32
    ∧ ((elapse 200000 (lastAttempt entry60)).tb.microseconds - 2000).toNat < 2147483648
    ∧ (burst60.contact.getLsbD 0 = false ∧ burst60.contact.getLsbD 1 = false
      ∧ burstGood { burst60 with pairCount := 0, pairs := [], payloadLength := 7 } = true
      ∧ (0 : Nat) ≠ ((lastAttempt entry60).stepOf entry60).samples)
    ∧ attemptOpen (lastAttempt { entry60 with tbFault := true }) { entry60 with tbFault := true } = true :=
  by decide +kernel

/-- A marked entry; an entry of a slot that is XOUT; each with a place free, no entry QUEUED and none waiting. -/
theorem witness_xout_at_the_end :
    let marked : Entry := { entry60 with xoutMark := true }
    let out : Entry := { entry60 with slot := 1 }
    ((busyWith marked).outstandingOk = true ∧ ((busyWith marked).lane 2).state = .up
      ∧ ((busyWith marked).lane 2).openAttempt = some { tag := 60, attempt := (1#8).toNat }
      ∧ (∀ x ∈ (busyWith marked).entries, x.state ≠ .queued) ∧ marked.gen = none
      ∧ (busyWith marked).reports.queue.length < 32)
    ∧ (attemptOpen (busyWith out) out = true ∧ (busyWith out).slotAt out.slot = .xout
      ∧ out.attempt < ((busyWith out).stepOf out).retryLimit + 1)
    ∧ (onReference.tb.pendingSwitch = none ∧ onReference.waiting = []) := by decide +kernel

/-- The last attempt of an entry attached to XG0, with TB_FAULT. -/
theorem witness_spent_budget_attached :
    let e : Entry := { entry60 with step := 102, gen := some 0, tbFault := true, attempt := 3 }
    let s : State := { onReference with entries := [e] }
    attemptOpen s e = true ∧ e.attempt = (s.stepOf e).retryLimit + 1
    ∧ (s.tb.pendingSwitch = none ∧ s.waiting = []) ∧ (∀ x ∈ s.entries, x.lane = 2 → x = e)
    ∧ e.tbFault = true := by decide +kernel

/-! ### Reduction, arithmetic and decisions -/

/-- The entry of lane 2 JUDGING, its burst in the reduction. -/
def reducing : State :=
  { busyWith { entry60 with state := .judging, deadline := none } with
    reductions := ready.reductions.set 2 (some reduction60) }

/-- The entry of lane 2 JUDGING. -/
def judging60 : Entry := { entry60 with state := .judging, deadline := none }

/-- The part with an entry JUDGING under a step, the slot of its lane REDUCING. -/
def reducingWith (st : StepRecord) (e : Entry) (r : Reduction) : State :=
  { busyWith e with
    tables := { ready.tables with steps := [(101, some st)] }
    reductions := ready.reductions.set 2 (some r) }

/-- The decision on a reduction's quantity. -/
def decisionOn (s : State) (e : Entry) (r : Reduction) : Decision :=
  judgeResult (s.stepOf e) (s.rangeOf e) (decide (s.slotAt e.slot = .xout)) e
    (quantityOf r.takeAll (s.rangeOf e) (s.freqAt ((s.stepOf e).freq.getD 0)).g (s.stepOf e).exponent)

/-- The premises that the completions of a reduction share, a free place among them. -/
def completes (s : State) (e : Entry) (r : Reduction) : Bool :=
  !s.resetLow && s.outstandingOk && decide (s.reductions.get 2 = some r) && s.entries.contains e
    && decide (e.tag = r.tag) && decide (e.lane = 2) && decide (e.state = .judging) && e.outcome.isNone
    && e.trigger.isNone && decide (s.reports.queue.length < 32)

/-- A reduction of 64 equal pairs by a method. -/
def evenReduction (method : Method) (v i : Half) : Reduction :=
  Reduction.start 60 1 method 64 { zv := 0, zi := 0 } (List.replicate 64 { v := v, i := i })

/-- A retry by invalid polarity, and one that escalates from a clipped burst. -/
theorem witness_reduction_retried :
    let s := reducingWith step101 judging60 (evenReduction .res (-20000) 25000)
    let clipped := evenReduction .res 32767 25000
    let c : State := { reducingWith step101 judging60 clipped with
      tables := { ready.tables with steps := [(101, some step101)], ranges := [(4, some range4)] } }
    (completes s judging60 (evenReduction .res (-20000) 25000) = true
      ∧ decisionOn s judging60 (evenReduction .res (-20000) 25000) = .retry none
      ∧ s.slotAt judging60.slot ≠ .xout)
    ∧ (completes c judging60 clipped = true ∧ decisionOn c judging60 clipped = .retry (some 5)) := by
  decide +kernel

/-- The entry of lane 2 JUDGING and attached to XG0, under REFERENCE. -/
def judgingAttached : Entry := { judging60 with gen := some 0 }

/-- An attached entry's reduction with so many users of XG0 and a switch pending or none. -/
def reducingAttached (users : Nat) (switch : Option Source) : State :=
  { reducingWith step101 judgingAttached reduction60 with
    gens := { onReference.gens with g0 := { onReference.gens.g0 with users := users } }
    tb := { onReference.tb with pendingSwitch := switch } }

/-- An attached entry whose generator keeps a user; its last user with no switch; its last user with a switch to
INTERNAL pending. -/
theorem witness_reduction_attached :
    (completes (reducingAttached 2 none) judgingAttached reduction60 = true
      ∧ decisionOn (reducingAttached 2 none) judgingAttached reduction60
        = .terminal (.judged .pass 400007 false)
      ∧ (reducingAttached 2 none).waiting = []
      ∧ (∀ x ∈ (reducingAttached 2 none).entries, x.lane = 2 → x = judgingAttached))
    ∧ ((reducingAttached 1 none).gen 0).users = 1
    ∧ (completes (reducingAttached 1 (some .internal)) judgingAttached reduction60 = true
      ∧ (reducingAttached 1 (some .internal)).tb.pendingSwitch = some .internal
      ∧ ((reducingAttached 1 (some .internal)).gen 1).users = 0) := by decide +kernel

/-- Behind the entry a QUEUED one of a RES step, and one of a CAP step. -/
theorem witness_reduction_next :
    let next (step : Nat) : Entry := { entry60 with tag := 61, step := step, state := .queued, deadline := none }
    let s (step : Nat) : State := { reducing with entries := [judging60, next step] }
    completes (s 101) judging60 reduction60 = true
    ∧ ((s 101).orderList 2 = judging60 :: next 101 :: [] ∧ ((s 101).stepOf (next 101)).method ≠ .cap)
    ∧ ((s 102).orderList 2 = judging60 :: next 102 :: [] ∧ ((s 102).stepOf (next 102)).method = .cap) := by
  decide +kernel

/-- A ZERO reading within bounds writes its offsets. -/
theorem witness_zero_offsets :
    completes (reducingWith zeroStep judging60 (evenReduction .zero 3 (-2))) judging60
        (evenReduction .zero 3 (-2)) = true
    ∧ decisionOn (reducingWith zeroStep judging60 (evenReduction .zero 3 (-2))) judging60
        (evenReduction .zero 3 (-2))
      = .terminal { verdict := .pass, cause := none, value := some 3, saturated := false,
                    offset := some { zv := 3, zi := -2 } }
    ∧ (ready.canonical = true ∧ 31 < 32) := by decide +kernel

/-- A SHORT of nets 12 and 40 by an ISO step, with room in the Merge Queue and with none. -/
theorem witness_short :
    let st : StepRecord := { step101 with cls := some .iso, low := some 500000, high := none }
    let s := reducingWith st judging60 reduction60
    completes s judging60 reduction60 = true
    ∧ decisionOn s judging60 reduction60 = .terminal (.judged .short 400007 false)
    ∧ (s.stepOf judging60).netA = some 12 ∧ (s.stepOf judging60).netB = some 40
    ∧ s.groups.queue.length < 16
    ∧ 16 ≤ (List.replicate 16 ({ slot := 7, netA := 1, netB := 2, report := 0 } : MergeRequest)).length := by
  decide +kernel

/-- A CAP SIG step of net 6 with a tolerance of 50 per mille. -/
def sigStep : StepRecord :=
  { capStep with cls := some .sig, netB := none, low := none, high := none, tolerance := some 50 }

/-- A value handed to the SU. -/
theorem witness_signature_retired :
    let r := evenReduction .cap 20000 2500
    let s := reducingWith sigStep judging60 r
    completes s judging60 r = true ∧ (s.stepOf judging60).netA = some 6
    ∧ (s.stepOf judging60).tolerance = some 50
    ∧ (match decisionOn s judging60 r with
      | .signature _ _ => true
      | _ => false) = true ∧ (∀ x ∈ s.entries, x.lane = 2 → x = judging60) := by decide +kernel

/-- A value of net 6 on slot 0. -/
def value6 : SignatureValue :=
  { slot := 0, net := 6, value := 31436, source := .internal, tolerance := 50, tag := 60, panel := 9,
    step := 101, attempts := 1, finalRange := 4, retried := false, rangeStepped := false,
    saturated := false, tbInternal := true }

/-- The part with K in force and the signature state of net 6. -/
def learning (k : Nat) (x : NetSignature) : State :=
  { ready with sigs := { ready.sigs with inForceK := k, nets := [(6, x)] } }

/-- A net with a reference; one whose list is of the other source; a first value of three; the one value that freezes
with K 1; a tag that was deferred before. -/
theorem witness_taking_a_value :
    ((learning 3 { list := [], source := none, reference := some 0 }).signature 6).reference = some 0
    ∧ (let l : LearnEntry := { value := 1, panel := 9, slot := 0, source := .reference }
      let s := learning 3 { list := [l], source := some .reference, reference := none }
      (s.signature 6).list ≠ [] ∧ (s.signature 6).source ≠ some value6.source)
    ∧ ((ready.signature 6).reference = none ∧ (ready.signature 6).list = []
      ∧ (ready.netState 0 6).count = 1 ∧ 1 ≠ ready.sigs.inForceK)
    ∧ (({ ready with sigs := { ready.sigs with inForceK := 1 } } : State).sigs.inForceK = 1 ∧ (1 + 1) / 2 - 1 = 0)
    ∧ value6.tag ∈ [(60 : Half)] := by decide +kernel

/-- The terminal outcome of the reduction, PASS on 400,007 (4.11). -/
theorem witness_reduction_complete :
    let e : Entry := { entry60 with state := .judging, deadline := none }
    ready.reductions.get 2 = none
    ∧ (reducing.resetLow = false ∧ reducing.outstandingOk = true
      ∧ reducing.reductions.get 2 = some reduction60 ∧ e ∈ reducing.entries ∧ e.tag = reduction60.tag
      ∧ e.lane = 2 ∧ e.state = .judging ∧ e.outcome = none ∧ e.trigger = none)
    ∧ 32 ≤ (crowded reducing).reports.queue.length
    ∧ (reducing.reports.queue.length < 32 ∧ e.gen = none
      ∧ (∀ x ∈ reducing.entries, x.lane = 2 → x = e)
      ∧ judgeResult (reducing.stepOf e) (reducing.rangeOf e) (decide (reducing.slotAt e.slot = .xout)) e
          (quantityOf reduction60.takeAll (reducing.rangeOf e) (reducing.freqAt 0).g 0)
        = .terminal (.judged .pass 400007 false)) := by decide +kernel

/-- Open by a current of 0 and by one below N × floor (6,400); one at it is not open, with opposite and like signs. -/
theorem witness_resistance_reading : (resSums 1 0).method = .res ∧ (resSums 1 0).corrI = 0
    ∧ (resSums 1 6399).corrI.natAbs < (resSums 1 6399).samples * range4.floor
    ∧ ¬((resSums 1 6400).corrI = 0
      ∨ (resSums 1 6400).corrI.natAbs < (resSums 1 6400).samples * range4.floor)
    ∧ (resSums (-1) 6400).corrV * (resSums (-1) 6400).corrI < 0
    ∧ ¬((resSums 1 6400).corrV * (resSums 1 6400).corrI < 0) := by decide +kernel

/-- Offsets and a pair count at their limits; a burst whose pairs are in another order. -/
theorem witness_reduction_sums : (4096 : Int).natAbs ≤ 4096 ∧ (-4096 : Int).natAbs ≤ 4096
    ∧ (List.replicate 4096 (⟨0, 0⟩ : Sample)).length ≤ 4096
    ∧ [(⟨1, 2⟩ : Sample), ⟨3, 4⟩].Perm [⟨3, 4⟩, ⟨1, 2⟩] :=
  ⟨by decide, by decide, by simp only [List.length_replicate]; omega, List.Perm.swap _ _ _⟩

/-- The divisor of 4.11; a burst of each method, with and without excitation, of each sign. -/
theorem witness_value_rounding : 0 < 97656000000
    ∧ (isqrt (evenReduction .cap 0 5).takeAll.sqV = 0 ∧ isqrt (evenReduction .cap 9 5).takeAll.sqV ≠ 0)
    ∧ ((evenReduction .vf (-1) 0).takeAll.corrV ≤ 0 ∧ 0 < (evenReduction .vf 1 0).takeAll.corrV)
    ∧ ((evenReduction .zero 3 2).method = .zero ∧ 0 < (evenReduction .zero 3 2).samples) := by
  decide +kernel

/-- Deviations of 50 and 51 per mille against a tolerance of 50 (4.12). -/
theorem witness_signature_verdict : 0 < 31436 ∧ deviation 29865 31436 ≤ 50
    ∧ (50 < deviation 29864 31436 ∧ 29864 < 31436) ∧ (50 < deviation 33008 31436 ∧ 31436 < 33008) := by
  decide +kernel

/-- The clip allowance at and over its limit, the budget open and spent, a value at each limit. -/
theorem witness_decision_table :
    (range4.clip < 5 ∧ ({ range4 with next := none } : RangeRecord).next = none ∧ range4.next = some 5)
    ∧ (entry60.attempt < step101.retryLimit + 1
      ∧ ¬(({ entry60 with attempt := 3 } : Entry).attempt < step101.retryLimit + 1))
    ∧ 4 ≤ range4.clip
    ∧ (step101.method ≠ .zero ∧ step101.cls = some .comp ∧ step101.low = some 396000
      ∧ step101.high = some 404000 ∧ 396000 ≤ 404000)
    ∧ zeroStep.method = .zero := by decide

/-- A step of each other class, with its limits. -/
theorem witness_decision_classes :
    (({ step101 with cls := some .iso } : StepRecord).cls = some .iso ∧ step101.method = .res)
    ∧ ({ step101 with cls := some .cont } : StepRecord).cls = some .cont
    ∧ (({ capStep with cls := some .sig } : StepRecord).method = .cap
      ∧ ({ capStep with cls := some .sig } : StepRecord).cls = some .sig) := by decide

/-- A retry on the XOUT slot becomes SKIP, and the tables under the raises are canonical. -/
theorem witness_decision_xout :
    let q : Quantity := { method := .res, kind := .polarity, clip := 0 }
    judgeResult step101 range4 false entry60 q = .retry none
    ∧ judgeResult step101 range4 false { entry60 with attempt := 3 } q ≠ .retry none
    ∧ ready.canonical = true ∧ 4095 < 4096 := by decide +kernel

/-! ### Groups and signatures -/

/-- A walk that is to join net 20 to net 8 of slot 2, at a position. -/
def walking (position : Option Nat) : State :=
  { ready with groups := { ready.groups with walk := some {
      request := { slot := 2, netA := 8, netB := 20, report := 0 }
      low := 8, high := 20, position := position } } }

theorem witness_walk : (walking (some 4095)).resetLow = false ∧ (walking (some 4095)).canonical = true
    ∧ (4095 < 4096 ∧ 8 < 4096 ∧ 20 < 4096)
    ∧ (walking none).groups.queue = [] ∧ ((walking none).netState 2 8).tail < 4096
    ∧ (walking none).canonical = true := by decide +kernel

theorem walking_no_waiting_group : (walking none).NoWaitingGroup := fun _ h => nomatch h

/-- A request of nets of one group, and one of two groups; a walk in progress. -/
theorem witness_taking_a_request :
    let s (netB : Nat) : State := { ready with groups := { ready.groups with
      queue := [{ slot := 2, netA := 1, netB := netB, report := 0 }] } }
    ((s 1).groups.walk = none ∧ ((s 1).netState 2 1).leader = ((s 1).netState 2 1).leader)
    ∧ ((s 2).netState 2 1).leader ≠ ((s 2).netState 2 2).leader
    ∧ (walking none).groups.walk ≠ none ∧ ready.groups.queue = [] := by decide +kernel

/-- A deferred value of net 40. -/
def deferred40 : DeferredEntry :=
  { tag := 201, panel := 9, slot := 0, step := 101, net := 40, value := 31410, tolerance := 50,
    attempts := 1, finalRange := 4, flags := someReport.flags, deadline := 1800, expired := false }

/-- The scan stands at net 40's entry; the net has a reference or none. -/
def scanning (reference : Option Nat) (expired : Bool) : State :=
  { ready with sigs := { ready.sigs with
      nets := match reference with
        | none => []
        | some r => [(40, { list := [], source := none, reference := some r })]
      deferred := [{ deferred40 with expired := expired }]
      scan := { scanning := true, position := some 0, rescan := false, paused := false } } }

theorem witness_scan_step :
    let s := scanning (some 31436) false
    (s.resetLow = false
      ∧ s.sigs.scan = { scanning := true, position := some 0, rescan := false, paused := false }
      ∧ s.sigs.deferred[0]? = some deferred40 ∧ deferred40.expired = false
      ∧ (s.signature 40).reference = some 31436 ∧ s.reports.queue.length < 32)
    ∧ 32 ≤ (crowded s).reports.queue.length
    ∧ ((scanning none false).signature 40).reference = none
    ∧ ((scanning none true).sigs.deferred[0]?).map DeferredEntry.expired = some true
    ∧ (ready.sigs.scan.scanning = false
      ∧ (let x : Scan := { scanning := true, position := none, rescan := true, paused := false }
        ({ ready with sigs := { ready.sigs with scan := x } } : State).sigs.scan
          = { scanning := true, position := none, rescan := true, paused := false })) := by
  decide +kernel

/-- The deadline of 1,800 s is reached at 1,800 s, with no scan. -/
theorem witness_deadline :
    let s : State := { scanning none false with
      tb := { ready.tb with seconds := 1800 }
      sigs := { (scanning none false).sigs with scan := ready.sigs.scan } }
    s.resetLow = false ∧ s.sigs.deferred = [deferred40]
    ∧ (deferred40.expired = false
      ∧ ((elapse 0 s).tb.seconds - deferred40.deadline).toNat < 2147483648)
    ∧ s.sigs.scan.scanning = false ∧ s.reports.queue.length < 32
    ∧ 32 ≤ (crowded s).reports.queue.length := by decide +kernel

/-! ### Excitation and timebase -/

/-- XG0 settles, with so many cycles to go. -/
def settling (left : Nat) : State :=
  { retuning with gens := { retuning.gens with g0 := { retuning.gens.g0 with
      settling := true, oldCycleEnd := none, settleRemaining := left } } }

/-- XG0 settles and has yet to restart, or not; its cycle origin is present, or not. -/
def settlingAs (restart : Bool) (origin : Option Nat) : State :=
  { settling 3 with gens := { (settling 3).gens with g0 := { (settling 3).gens.g0 with
      restart := restart, origin := origin } } }

/-- The cycle of 1,000 ticks ends with tick 1,000 and not with tick 999; a slot REDUCING and one IDLE. -/
theorem witness_clocks :
    (let x := (settlingAs true (some 0)).gen 0;
      x.state = .retuning ∧ x.settling = true ∧ x.restart = true ∧ x.origin = some 0
      ∧ 0 ≤ (settlingAs true (some 0)).tb.ticks
      ∧ ((List.range 999).filter (fun k =>
          decide (((settlingAs true (some 0)).tb.ticks + k + 1 - 0) % (2 * x.latchDivider) = 0))).length = 0
      ∧ ((List.range 1000).filter (fun k =>
          decide (((settlingAs true (some 0)).tb.ticks + k + 1 - 0) % (2 * x.latchDivider) = 0))).length = 1)
    ∧ ((settlingAs false (some 0)).gen 0).restart = false
    ∧ ((settlingAs false none).gen 0).origin = none ∧ (retuning.gen 0).settling = false
    ∧ (ready.gen 0).state ≠ .retuning
    ∧ reducing.reductions.get 2 = some reduction60 ∧ reducing.reductions.get 0 = none := by decide +kernel

/-- The old cycle ends at tick 100; one tick earlier it has not ended. -/
theorem witness_retune :
    (((elapse 100 retuning).gen 0).state = .retuning ∧ ((elapse 100 retuning).gen 0).settling = false
      ∧ ((elapse 100 retuning).gen 0).restart = false
      ∧ ((elapse 100 retuning).gen 0).oldCycleEnd = some (elapse 100 retuning).tb.ticks)
    ∧ (((elapse 99 retuning).gen 0).oldCycleEnd = some 100 ∧ (elapse 99 retuning).tb.ticks < 100)
    ∧ (retuning.gen 1).state ≠ .retuning
    ∧ (((elapse 0 (settling 0)).gen 0).state = .retuning ∧ ((elapse 0 (settling 0)).gen 0).settling = true
      ∧ ((elapse 0 (settling 0)).gen 0).settleRemaining = 0
      ∧ ((elapse 0 (settling 0)).gen 0).restart = false ∧ (settling 0).waiting = [])
    ∧ 0 < ((elapse 0 (settling 1)).gen 0).settleRemaining := by decide +kernel

/-- The loop LOCKING, with or without a switch, and its lock timer at a value. -/
def locking (switch : Option Source) (timer : Nat) : State :=
  { ready with tb := { ready.tb with pendingSwitch := switch, loop := .locking, lockTimer := timer } }

/-- A LOCKING loop whose switch waits for a user. -/
def lockingInUse : State :=
  { onReference with tb := { ready.tb with pendingSwitch := some .reference, loop := .locking } }

theorem witness_timebase_events : ready.resetLow = false ∧ ready.waiting = []
    ∧ ((locking none 0).tb.loop = .locking ∧ (locking none 0).tb.pendingSwitch = none)
    ∧ (lockingInUse.tb.loop = .locking ∧ lockingInUse.tb.pendingSwitch = some .reference
      ∧ lockingInUse.noUsers = false ∧ lockingInUse.waiting = [])
    ∧ ((locking (some .reference) 0).tb.pendingSwitch = some .reference
      ∧ (locking (some .reference) 0).noUsers = true)
    ∧ ready.tb.loop ≠ .locking
    ∧ (elapse 100 (locking (some .reference) 4999)).tb.lockTimer = 5000
    ∧ (elapse 99 (locking (some .reference) 4999)).tb.lockTimer < 5000
    ∧ (switching.tb.loop = .locked ∧ switching.tb.pendingSwitch = some .reference)
    ∧ ready.tb.loop ≠ .locked := by
  decide +kernel

/-- The wrap 100 ticks after 4,294,967,295 µs, and 99 ticks of it. -/
theorem witness_wrap :
    let s : State := { ready with tb := { ready.tb with microseconds := 4294967295 } }
    s.tb.microFraction < 100
    ∧ 100 = (4294967296 - s.tb.microseconds.toNat) * 100 - s.tb.microFraction
    ∧ 99 < (4294967296 - s.tb.microseconds.toNat) * 100 - s.tb.microFraction := by decide +kernel

/-- REFERENCE with no switch and with a switch to INTERNAL pending, and INTERNAL. -/
theorem witness_failover : onReference.resetLow = false ∧ onReference.tb.pendingSwitch = none
    ∧ onReference.tb.source = .reference
    ∧ (let s := reducingAttached 1 (some .internal)
      s.tb.source = .reference ∧ s.tb.pendingSwitch ≠ none ∧ s.waiting = [])
    ∧ ready.tb.source = .internal := by
  decide +kernel

/-! ### Upstream -/

/-- A frame of a kind in transmission. -/
def sendingKind (kind : UpKind) : State :=
  { ready with
    link := { ready.link with
      transmitting := some { kind := kind, seq := 0, payload := [] }
      replies := [answered kindRequest 0 .ok []] }
    raw := [{ lane := 0, tag := 1, attempt := 1, range := 4, offset := { zv := 0, zi := 0 }, samples := 253,
              pairs := List.replicate 253 { v := 0, i := 0 }, nextPair := 0 }] }

/-- A copy of 253 pairs: one fragment is not its last, and the second, from pair 252 on, is. -/
theorem witness_frame_ends : (sendingKind .attn).resetLow = false
    ∧ (sendingKind .attn).link.transmitting = some { kind := .attn, seq := 0, payload := [] }
    ∧ ((sendingKind .reply).link.replies = answered kindRequest 0 .ok [] :: []
      ∧ (answered kindRequest 0 .ok []).linkReset = false)
    ∧ ((sendingKind .raw).raw.map (fun c => (c.nextPair, c.samples)) = [(0, 253)] ∧ 0 ≤ 253)
    ∧ 252 + min 252 (253 - 252) = 253 := by decide +kernel

/-- A REPORT in transmission from a full queue, behind which a fixed outcome of lane 2 waits. -/
def granting : State :=
  { crowded { sendingKind .report with
      entries := [{ entry60 with state := .judging, outcome := some .laneLost, deadline := none }] } with
    reports := { ready.reports with
      queue := { someEntry with inTransmission := true } :: List.replicate 31 someEntry } }

theorem witness_report_sent : (sendingKind .report).resetLow = false
    ∧ (sendingKind .report).outstandingOk = true
    ∧ ((sendingKind .report).dispatchWaiters = [] ∧ (sendingKind .report).signatureWaits = false)
    ∧ (granting.excitationOk = true ∧ granting.outstandingOk = true
      ∧ granting.dispatchWaiters = (60 : Half) :: []
      ∧ (granting.entries.map (fun e => (e.tag, e.outcome)) = [((60 : Half), some .laneLost)])
      ∧ granting.reports.turn = .dispatch
      ∧ (granting.reports.queue.filter (fun e => !e.inTransmission)).length < 32) := by decide +kernel

/-- An entry whose attempt ended by a FAULT waits for a place for its decision. -/
def triggered : Entry := { judging60 with trigger := some .contact }

/-- A REPORT in transmission from a full queue, with so many waiters on the dispatch side, a Deferred List, a scan and a
turn. -/
def contested (entries : List Entry) (deferred : List DeferredEntry) (scan : Scan) (turn : Side) : State :=
  { granting with
    entries := entries
    sigs := { (scanning (some 31436) false).sigs with deferred := deferred, scan := scan }
    reports := { granting.reports with turn := turn } }

/-- The scan paused at the first entry. -/
def pausedScan : Scan := { scanning := true, position := some 0, rescan := false, paused := true }

/-- A waiter that retries, alone, before a fixed outcome, and before an EXPIRED entry. -/
theorem witness_offer_passes :
    let second : Entry := { judging60 with tag := 61, outcome := some .laneLost }
    let alone := contested [triggered] [] ready.sigs.scan .dispatch
    let two := contested [triggered, second] [] ready.sigs.scan .dispatch
    let both := contested [triggered] [{ deferred40 with expired := true }] ready.sigs.scan .dispatch
    (alone.dispatchWaiters = [60] ∧ triggered.outcome = none ∧ triggered.trigger ≠ none
      ∧ triggered.attempt < (alone.stepOf triggered).retryLimit + 1 ∧ alone.slotAt triggered.slot ≠ .xout
      ∧ alone.signatureWaits = false ∧ alone.outstandingOk = true)
    ∧ (two.dispatchWaiters = [60, 61] ∧ two.excitationOk = true ∧ second.outcome = some .laneLost
      ∧ two.outstandingOk = true)
    ∧ (both.dispatchWaiters = [60] ∧ both.sigs.deferred = [] ++ { deferred40 with expired := true } :: []
      ∧ both.reports.turn = .dispatch) := by decide +kernel

/-- The oldest EXPIRED entry alone; the paused scan at an entry whose net has a reference, to the end of the list over an
entry of a net with none, and to the next entry with one. -/
theorem witness_signature_side :
    let other : DeferredEntry := { deferred40 with tag := 202, net := 41 }
    let expired := contested [] [{ deferred40 with expired := true }] ready.sigs.scan .signature
    let s (rest : List DeferredEntry) := contested [] (deferred40 :: ([other] ++ rest)) pausedScan .signature
    (expired.dispatchWaiters = [] ∧ expired.sigs.deferred = [] ++ { deferred40 with expired := true } :: []
      ∧ expired.outstandingOk = true)
    ∧ ((s []).sigs.scan = { scanning := true, position := some ([] : List DeferredEntry).length,
                            rescan := false, paused := true }
      ∧ (∀ x ∈ (s []).sigs.deferred, x.expired = false)
      ∧ ((s []).signature 40).reference = some 31436 ∧ ((s []).signature 41).reference = none
      ∧ ((s []).reports.queue.filter (fun e => !e.inTransmission)).length = 31)
    ∧ ((s [deferred40]).signature deferred40.net).reference ≠ none := by decide +kernel

/-- A part whose transmitter is idle. -/
def idle (s : State) : State := { s with link := { s.link with transmitting := none } }

theorem witness_upstream_priority : ready.resetLow = false ∧ ready.link.transmitting ≠ none
    ∧ (idle ready).link.transmitting = none
    ∧ ((idle (sendingKind .raw)).link.replies = answered kindRequest 0 .ok [] :: []
      ∧ (answered kindRequest 0 .ok []).answer = .given .ok [])
    ∧ ((idle ready).link.replies = [] ∧ (idle ready).events.notice = false)
    ∧ ({ (idle ready) with events := { ready.events with notice := true } } : State).events.notice = true
    ∧ firstEligible [] (crowded ready).reports.queue = some someEntry
    ∧ firstEligible [] ready.reports.queue = none ∧ ready.raw = []
    ∧ (idle (sendingKind .raw)).raw ≠ [] := by decide +kernel

/-- A part that a command leaves with an idle transmitter, and with a notifiable event. -/
theorem witness_end_of_event :
    after (exec (.attnSent 0) { ready with events := { ready.events with queue := [] } })
      (fun t => !t.resetLow && decide (t.link.transmitting = none)) = true
    ∧ after (exec (.status 0 1) quiet) (fun t => t.events.queue.any (fun r => r.urgent || !t.events.delay))
      = true ∧ (∀ dt, Instr.attnSent 0 ≠ .resetPinRelease dt) :=
  ⟨by decide +kernel, by decide +kernel, fun _ h => nomatch h⟩

theorem upstream_no_reply_ready :
    ¬∃ r rest code data, (idle ready).link.replies = r :: rest ∧ r.answer = .given code data :=
  fun ⟨_, _, _, _, h, _⟩ => nomatch h

/-! ### Invariants -/

/-- The invariants hold of a part with an entry that is attached to a generator, and it steps. -/
theorem witness_invariants : onReference.outstandingOk = true ∧ onReference.queuesOk = true
    ∧ onReference.rangesOk = true ∧ onReference.canonical = true ∧ onReference.excitationOk = true := by
  decide +kernel

theorem witness_invariant_step : ∃ t, step onReference = .next t := ⟨_, rfl⟩

end Sys2Proof.Tests
end

section
/-! SUPPORT. The layouts of R179 read back: the fields of a run of bytes, and the step, net, range and frequency records
of TABLE frames (R5, R8, R11, R13). -/

namespace Sys2Proof.Machine

/-! ### Fields of a run of bytes -/

@[simp] theorem byte_toNat (x : Nat) : (byte x).toNat = x % 256 := by
  simp [byte]

theorem fieldAt_zero_one (b : Byte) (bs : List Byte) : fieldAt (b :: bs) 0 1 = b.toNat := by
  simp [fieldAt, beNat]

theorem fieldAt_cons_succ (b : Byte) (bs : List Byte) (k n : Nat) :
    fieldAt (b :: bs) (k + 1) n = fieldAt bs k n := by
  simp [fieldAt]

theorem fieldAt_be16 (x : Nat) (bs : List Byte) : fieldAt (be16 x ++ bs) 0 2 = x % 65536 := by
  simp only [fieldAt, be16, beNat, List.cons_append, List.nil_append, List.drop_zero, List.take_succ_cons,
    List.take_zero, List.foldl_cons, List.foldl_nil, byte_toNat]
  omega

theorem fieldAt_be16_add_two (x : Nat) (bs : List Byte) (k n : Nat) :
    fieldAt (be16 x ++ bs) (k + 2) n = fieldAt bs k n := by
  simp [fieldAt, be16]

theorem fieldAt_be32 (x : Nat) (bs : List Byte) : fieldAt (be32 x ++ bs) 0 4 = x % 4294967296 := by
  simp only [fieldAt, be32, beNat, List.cons_append, List.nil_append, List.drop_zero, List.take_succ_cons,
    List.take_zero, List.foldl_cons, List.foldl_nil, byte_toNat]
  omega

theorem fieldAt_be32_alone (x : Nat) : fieldAt (be32 x) 0 4 = x % 4294967296 := by
  simpa using fieldAt_be32 x []

theorem fieldAt_be32_add_four (x : Nat) (bs : List Byte) (k n : Nat) :
    fieldAt (be32 x ++ bs) (k + 4) n = fieldAt bs k n := by
  simp [fieldAt, be32]

/-! ### Coded values -/

/-- A value that is never the absent code and never above the largest one is read back from its coding. -/
theorem codedField_getD {o : Option Nat} {absentCode largest : Nat}
    (h : ∀ x, o = some x → x ≠ absentCode ∧ x ≤ largest) :
    codedField (o.getD absentCode) absentCode largest = some o := by
  cases o with
  | none => simp [codedField]
  | some x =>
    obtain ⟨hne, hle⟩ := h x rfl
    simp [codedField, hne, hle]

/-- A limit is read back from its coding, and with its presence bit clear the coding is not read (R5). -/
theorem limitOf_getD {o : Option Nat} (unread : Nat) (h : ∀ x, o = some x → x ≤ 4294967294) :
    limitOf o.isSome (o.getD unread % 4294967296) = some o := by
  cases o with
  | none => rfl
  | some x =>
    have hx := h x rfl
    have hmod : x % 4294967296 = x := Nat.mod_eq_of_lt (by omega)
    simp [limitOf, Config.valueMax, hmod, hx]

/-- The nibble of a method (R179). -/
def Method.code : Method → Nat
  | .res => 1
  | .cap => 2
  | .vf => 3
  | .zero => 4

/-- The nibble of a class, 0 for none (R179). -/
def classCode : Option StepClass → Nat
  | none => 0
  | some .iso => 1
  | some .cont => 2
  | some .comp => 3
  | some .sig => 4

theorem Method.code_lt (m : Method) : m.code < 16 := by cases m <;> decide

theorem classCode_lt (c : Option StepClass) : classCode c < 16 := by
  rcases c with _ | c
  · decide
  · cases c <;> decide

theorem methodOf_code (m : Method) : methodOf m.code = some m := by cases m <;> rfl

theorem classOf_classCode (c : Option StepClass) : classOf (classCode c) = some c := by
  rcases c with _ | c
  · rfl
  · cases c <;> rfl

/-! ### Step records -/

/-- The fields of a step record lie in the ranges of R5. -/
structure StepRecord.InRange (r : StepRecord) : Prop where
  netA : ∀ a, r.netA = some a → a ≤ 4094
  netB : ∀ b, r.netB = some b → b ≤ 4094
  range : r.range ≤ 31
  freq : ∀ f, r.freq = some f → f ≤ 7
  samples_ge : 16 ≤ r.samples
  samples_le : r.samples ≤ 4096
  stimulus : r.stimulus ≤ 255
  low : ∀ l, r.low = some l → l ≤ 4294967294
  high : ∀ h, r.high = some h → h ≤ 4294967294
  tolerance : ∀ x, r.tolerance = some x → 1 ≤ x ∧ x ≤ 1000
  exponent : r.exponent ≤ 6
  retryLimit : r.retryLimit ≤ 7
  budget_ge : 1 ≤ r.budget
  budget_le : r.budget ≤ 65535

/-- The presence byte of a step record: LOADED, with the bits of its limits (R179). -/
def StepRecord.presence (r : StepRecord) : Nat := 1 + bitIf r.low.isSome 2 + bitIf r.high.isSome 4

/-- The 24 bytes of a LOADED step record, with what stands in the place of an absent limit (R179). -/
def StepRecord.layout (r : StepRecord) (low high : Nat) : List Byte :=
  [byte r.presence, byte (r.method.code + 16 * classCode r.cls)]
    ++ be16 (r.netA.getD 4095) ++ be16 (r.netB.getD 4095) ++ [byte r.range, byte (r.freq.getD 255)]
    ++ be16 r.samples ++ [byte r.stimulus, byte (r.exponent + 16 * r.retryLimit)]
    ++ be16 (r.tolerance.getD 0) ++ be16 r.budget ++ be32 (r.low.getD low) ++ be32 (r.high.getD high)

theorem encodeStep_eq_layout (r : StepRecord) : encodeStep r = r.layout 0 0 := rfl

theorem StepRecord.presence_bits (r : StepRecord) :
    r.presence % 2 = 1 ∧ (r.presence / 2 % 2 == 1) = r.low.isSome
      ∧ (r.presence / 4 % 2 == 1) = r.high.isSome ∧ r.presence < 256 := by
  unfold StepRecord.presence
  cases r.low.isSome <;> cases r.high.isSome <;> decide

/-- A value below a bound, or the code of an absent one below it, is below it. -/
theorem getD_lt {o : Option Nat} {absentCode bound : Nat} (ha : absentCode < bound)
    (h : ∀ x, o = some x → x < bound) : o.getD absentCode < bound := by
  cases o with
  | none => exact ha
  | some x => exact h x rfl

/-- Every field of a step record stands in its place of the layout (R179). -/
theorem StepRecord.fields_of_layout {r : StepRecord} (hr : r.InRange) (low high : Nat) :
    let b := r.layout low high
    fieldAt b 0 1 = r.presence ∧ fieldAt b 1 1 = r.method.code + 16 * classCode r.cls
    ∧ fieldAt b 2 2 = r.netA.getD 4095 ∧ fieldAt b 4 2 = r.netB.getD 4095 ∧ fieldAt b 6 1 = r.range
    ∧ fieldAt b 7 1 = r.freq.getD 255 ∧ fieldAt b 8 2 = r.samples ∧ fieldAt b 10 1 = r.stimulus
    ∧ fieldAt b 11 1 = r.exponent + 16 * r.retryLimit ∧ fieldAt b 12 2 = r.tolerance.getD 0
    ∧ fieldAt b 14 2 = r.budget ∧ fieldAt b 16 4 = r.low.getD low % 4294967296
    ∧ fieldAt b 20 4 = r.high.getD high % 4294967296 := by
  have hp := r.presence_bits.2.2.2
  have hm := r.method.code_lt
  have hc := classCode_lt r.cls
  have hA : r.netA.getD 4095 < 65536 := getD_lt (by decide) fun x hx => by have := hr.netA x hx; omega
  have hB : r.netB.getD 4095 < 65536 := getD_lt (by decide) fun x hx => by have := hr.netB x hx; omega
  have hf : r.freq.getD 255 < 256 := getD_lt (by decide) fun x hx => by have := hr.freq x hx; omega
  have ht : r.tolerance.getD 0 < 65536 :=
    getD_lt (by decide) fun x hx => by have := hr.tolerance x hx; omega
  obtain ⟨-, -, hrange, -, -, hsamples, hstim, -, -, -, hexp, hretry, -, hbudget⟩ := hr
  simp only [StepRecord.layout, List.append_assoc, List.cons_append, List.nil_append, fieldAt_zero_one,
    fieldAt_cons_succ, fieldAt_be16, fieldAt_be16_add_two, fieldAt_be32, fieldAt_be32_alone,
    fieldAt_be32_add_four, byte_toNat, and_true]
  refine ⟨?_, ?_, ?_, ?_, ?_, ?_, ?_, ?_, ?_, ?_, ?_⟩ <;> exact Nat.mod_eq_of_lt (by omega)

/-- A step record whose fields lie in their ranges is read back from its layout, whatever stands in the place of an absent
limit (R5, R179). -/
theorem decodeStep_layout {r : StepRecord} (hr : r.InRange) (low high : Nat) :
    decodeStep (r.layout low high) = some (some r) := by
  obtain ⟨hloaded, hlow, hhigh, -⟩ := r.presence_bits
  obtain ⟨f0, f1, f2, f4, f6, f7, f8, f10, f11, f12, f14, f16, f20⟩ :=
    StepRecord.fields_of_layout hr low high
  have hm := r.method.code_lt
  have hexp := hr.exponent
  have m1 : (r.method.code + 16 * classCode r.cls) % 16 = r.method.code := by omega
  have m2 : (r.method.code + 16 * classCode r.cls) / 16 = classCode r.cls := by omega
  have x1 : (r.exponent + 16 * r.retryLimit) % 16 = r.exponent := by omega
  have x2 : (r.exponent + 16 * r.retryLimit) / 16 = r.retryLimit := by omega
  have cA : codedField (r.netA.getD 4095) 4095 4094 = some r.netA :=
    codedField_getD fun x hx => by have := hr.netA x hx; omega
  have cB : codedField (r.netB.getD 4095) 4095 4094 = some r.netB :=
    codedField_getD fun x hx => by have := hr.netB x hx; omega
  have cf : codedField (r.freq.getD 255) 255 7 = some r.freq :=
    codedField_getD fun x hx => by have := hr.freq x hx; omega
  have ct : codedField (r.tolerance.getD 0) 0 1000 = some r.tolerance :=
    codedField_getD fun x hx => by have := hr.tolerance x hx; omega
  simp [decodeStep, decodeLoadedStep, f0, f1, f2, f4, f6, f7, f8, f10, f11, f12, f14, f16, f20, hloaded, hlow,
    hhigh, m1, m2, x1, x2, cA, cB, cf, ct, methodOf_code, classOf_classCode, limitOf_getD _ hr.low,
    limitOf_getD _ hr.high, hr.range, hr.samples_ge, hr.samples_le, hexp, hr.retryLimit, hr.budget_ge]

/-! ### Net, range and frequency records -/

/-- A net record is read back from its layout: the three reserved bytes and the value of an absent preset are not read
(R8, R179). -/
theorem decodeNet_layout (r : NetRecord) (x y z : Byte) (unread : Nat)
    (h : ∀ p, r.preset = some p → p ≤ 4294967295) :
    decodeNet ([byte (bitIf r.excluded 1 + bitIf r.preset.isSome 2), x, y, z] ++ be32 (r.preset.getD unread))
      = r := by
  obtain ⟨excluded, preset⟩ := r
  simp only [decodeNet, List.cons_append, List.nil_append, fieldAt_zero_one, fieldAt_cons_succ,
    fieldAt_be32_alone, byte_toNat]
  cases preset with
  | none => cases excluded <;> rfl
  | some p =>
    have hp : p % 4294967296 = p := Nat.mod_eq_of_lt (by have := h p rfl; omega)
    cases excluded <;> simp [bitIf, hp]

/-- A range record whose fields lie in the ranges of R11 is read back from its layout; the reserved bytes are not read
(R179). -/
theorem decodeRange_layout (r : RangeRecord) (unread : List Byte) (hkv : 1 ≤ r.kv) (hkv' : r.kv ≤ 1000000)
    (hki : 1 ≤ r.ki) (hki' : r.ki ≤ 1000000000) (hfloor : r.floor ≤ 32767) (hclip : r.clip ≤ 255)
    (hnext : ∀ i, r.next = some i → i ≤ 31) :
    decodeRange
      (be32 r.kv ++ be32 r.ki ++ be16 r.floor ++ [byte r.clip, byte (r.next.getD 255)] ++ unread) = some r := by
  have hn : r.next.getD 255 < 256 := getD_lt (by decide) fun x hx => by have := hnext x hx; omega
  have cn : codedField (r.next.getD 255) 255 31 = some r.next :=
    codedField_getD fun x hx => by have := hnext x hx; omega
  have e1 : r.kv % 4294967296 = r.kv := Nat.mod_eq_of_lt (by omega)
  have e2 : r.ki % 4294967296 = r.ki := Nat.mod_eq_of_lt (by omega)
  have e3 : r.floor % 65536 = r.floor := Nat.mod_eq_of_lt (by omega)
  have e4 : r.clip % 256 = r.clip := Nat.mod_eq_of_lt (by omega)
  have e5 : r.next.getD 255 % 256 = r.next.getD 255 := Nat.mod_eq_of_lt hn
  simp [decodeRange, fieldAt_zero_one, fieldAt_cons_succ, fieldAt_be16, fieldAt_be16_add_two, fieldAt_be32,
    fieldAt_be32_add_four, e1, e2, e3, e4, e5, cn, hkv, hkv', hki, hki', hfloor]

/-- A frequency record whose fields lie in the ranges of R13 is read back from its layout; the reserved byte is not read
(R179). -/
theorem decodeFreq_layout (r : FreqRecord) (unread : Byte) (hd : 50 ≤ r.divider) (hd' : r.divider ≤ 50000)
    (hg : 1 ≤ r.g) (hg' : r.g ≤ 4294967295) (hs : 1 ≤ r.settle) (hs' : r.settle ≤ 255) :
    decodeFreq (be16 r.divider ++ be32 r.g ++ [byte r.settle, unread]) = some r := by
  have e1 : r.divider % 65536 = r.divider := Nat.mod_eq_of_lt (by omega)
  have e2 : r.g % 4294967296 = r.g := Nat.mod_eq_of_lt (by omega)
  have e3 : r.settle % 256 = r.settle := Nat.mod_eq_of_lt (by omega)
  simp [decodeFreq, fieldAt_zero_one, fieldAt_be16, fieldAt_be16_add_two, fieldAt_be32,
    fieldAt_be32_add_four, e1, e2, e3, hd, hd', hg, hs]

/-! ### The statements -/

/-- Settles O31: every field is read from its own place of the layout, and the codings are injective on the ranges. -/
theorem stepRecordsAreReadBack : Obligations.StepRecordsAreReadBack := by
  unfold Obligations.StepRecordsAreReadBack
  refine ⟨?_, decodeNet_layout, decodeRange_layout, decodeFreq_layout⟩
  intro r h1 h2 h3 h4 h5 h6 h7 h8 h9 h10 h11 h12 h13 h14
  have hr : r.InRange := ⟨h1, h2, h3, h4, h5, h6, h7, h8, h9, h10, h11, h12, h13, h14⟩
  exact ⟨encodeStep_eq_layout r ▸ decodeStep_layout hr 0 0, decodeStep_layout hr⟩

/-- Settles O3: a table with nothing listed reads as its power-on content, and every other field is read off
`State.reset`. -/
theorem resetHoldsPowerOnValues : Obligations.ResetHoldsPowerOnValues := by
  unfold Obligations.ResetHoldsPowerOnValues
  have lanes : ∀ n, State.reset.lane n = Lane.reset := PerLane.get_fill Lane.reset
  have gens : ∀ g, State.reset.gen g = Generator.reset := fun g => by fin_cases g <;> rfl
  have nets : ∀ slot net, net < 4096 → State.reset.netState slot net
      = { state := .untested, leader := net, next := none, tail := net, count := 1 } := by
    intro slot net h
    have hmod : netIndex slot net % 4096 = net := by unfold netIndex; omega
    change netStateInitial (netIndex slot net) = _
    rw [netStateInitial, hmod]
  simp only [lanes, gens]
  refine ⟨fun _ => ⟨rfl, rfl, rfl, rfl⟩, fun _ _ => rfl, fun _ => rfl, rfl, rfl, rfl, rfl,
    fun _ => ⟨rfl, rfl, rfl, rfl, rfl, rfl, rfl, rfl, rfl, rfl, rfl⟩, PerLane.get_fill none, rfl, nets, ?_⟩
  refine ⟨rfl, rfl, rfl, fun _ => rfl, rfl, rfl, rfl, rfl, rfl, rfl,
    fun _ => ⟨rfl, rfl, rfl, rfl, rfl, rfl, rfl⟩, ?_⟩
  exact ⟨rfl, rfl, rfl, rfl, rfl, rfl, rfl, rfl, rfl, rfl, rfl, rfl, rfl, rfl, rfl, rfl, rfl, rfl, rfl, rfl, rfl,
    rfl, rfl, rfl⟩

end Sys2Proof.Machine
end

section
/-! SUPPORT. TABLE segments: how a frame is taken, what a payload is cut into, when a record is bad or in use (R1 to R3, R5,
R6, R8, R11, R13, R165). -/

namespace Sys2Proof.Machine

/-! ### Taking a frame -/

/-- A frame that the receiver takes acts on the part as time has brought it there (R165). -/
theorem takeEvent_takeFrame_becomes {s : State} (h : s.TakesFrames) (dt : Nat) (f : State → State) :
    Becomes (takeEvent dt (takeFrame f) s) (f (elapse dt s)) := by
  obtain ⟨hlow, hrecv, hroom⟩ := h
  have taken : takeFrame f (elapse dt s) = f (elapse dt s) := takeFrame_taken (by simpa) (by simpa) f
  exact taken ▸ takeEvent_becomes hlow dt (takeFrame f)

/-- A frame is one for any larger list of changed blocks. -/
theorem SameBut.mono {l l' : List Block} (h : ∀ x ∈ l, x ∈ l') {a b : State} (hs : SameBut l a b) : SameBut l' a b :=
  ⟨hs.1, fun x hx => hs.2 x fun hl => hx (h x hl)⟩

/-- An answer changes the link alone. -/
theorem SameBut.withReply {l : List Block} {a b : State} (h : SameBut l a b) (hl : .link ∈ l) (r : ReplyEntry) :
    SameBut l a (b.withReply r) := by
  refine ⟨h.1, fun x hx => ?_⟩
  have same := h.2 x hx
  cases x with
  | link => exact absurd hl hx
  | _ => exact same

/-! ### The records of a segment -/

/-- Record `k` of a segment stands at index `first + k`, and its bytes at `k` times the record size (R1, R165). -/
theorem cutRecords_eq_map (size count first : Nat) (b : List Byte) :
    cutRecords size count first b
      = (List.range count).map (fun k => (first + k, (b.drop (size * k)).take size)) := by
  induction count generalizing first b with
  | zero => rfl
  | succ count ih =>
    rw [cutRecords, ih, List.range_succ_eq_map]
    simp only [List.map_cons, List.map_map, Nat.mul_zero, List.drop_zero, Nat.add_zero]
    refine congrArg _ (List.map_congr_left fun k _ => ?_)
    have hidx : first + 1 + k = first + (k + 1) := by omega
    have hpos : size + size * k = size * (k + 1) := by rw [Nat.mul_add, Nat.mul_one, Nat.add_comm]
    simp [Function.comp, List.drop_drop, hidx, hpos]

theorem mem_cutRecords {size count first : Nat} {b : List Byte} {i : Nat} {x : List Byte} :
    (i, x) ∈ cutRecords size count first b
      ↔ first ≤ i ∧ i < first + count ∧ x = (b.drop (size * (i - first))).take size := by
  rw [cutRecords_eq_map, List.mem_map]
  constructor
  · rintro ⟨k, hk, he⟩
    obtain ⟨rfl, rfl⟩ := Prod.mk.inj he
    have hk := List.mem_range.mp hk
    simp [hk]
  · rintro ⟨h1, h2, rfl⟩
    refine ⟨i - first, List.mem_range.mpr (by omega), ?_⟩
    rw [Nat.add_sub_cancel' h1]

theorem tableOf_eq_none {n : Nat} : tableOf n = none ↔ n = 0 ∨ 4 < n := by
  rcases n with _ | _ | _ | _ | _ | n <;> simp [tableOf]

/-- The table of an id, its last index and its record size (R1, R165). -/
theorem tableOf_eq_some {n : Nat} {t : TableId} (h : tableOf n = some t) :
    t = (if n = 1 then .step else if n = 2 then .net else if n = 3 then .range else .freq)
    ∧ t.lastIndex = (if n = 1 then 16383 else if n = 2 then 4095 else if n = 3 then 31 else 7)
    ∧ t.recordSize = (if n = 1 then 24 else if n = 3 then 16 else 8) := by
  unfold tableOf at h
  split at h <;> simp_all [TableId.lastIndex, TableId.recordSize] <;> subst h <;> simp

/-- When the structural check of R1 refuses a payload whose id names a table. -/
theorem parseSegment_eq_none {payload : List Byte} {t : TableId} (ht : tableOf (fieldAt payload 0 1) = some t) :
    parseSegment payload = none ↔ payload.length < 4 ∨ fieldAt payload 3 1 = 0 ∨ 64 < fieldAt payload 3 1
      ∨ t.lastIndex < fieldAt payload 1 2 + fieldAt payload 3 1 - 1
      ∨ payload.length ≠ 4 + fieldAt payload 3 1 * t.recordSize := by
  simp only [parseSegment, ht]
  by_cases hl : payload.length < 4
  · simp [hl]
  · by_cases hc : fieldAt payload 3 1 = 0 ∨ 64 < fieldAt payload 3 1
        ∨ t.lastIndex < fieldAt payload 1 2 + fieldAt payload 3 1 - 1
        ∨ payload.length ≠ 4 + fieldAt payload 3 1 * t.recordSize
    · rw [if_neg hl, if_pos hc]
      exact iff_of_true rfl (Or.inr hc)
    · rw [if_neg hl, if_neg hc]
      exact iff_of_false (fun h => nomatch h) (not_or.mpr ⟨hl, hc⟩)

/-- What a payload that passes the structural check is (R1, R165). -/
theorem parseSegment_eq_some {payload : List Byte} {seg : Segment} (h : parseSegment payload = some seg) :
    tableOf (fieldAt payload 0 1) = some seg.table ∧ seg.first = fieldAt payload 1 2
    ∧ seg.count = fieldAt payload 3 1
    ∧ seg.records = cutRecords seg.table.recordSize seg.count seg.first (payload.drop 4)
    ∧ seg.first + seg.count - 1 ≤ seg.table.lastIndex := by
  simp only [parseSegment] at h
  split at h
  · cases h
  · split at h
    · cases h
    · rename_i t ht
      split at h
      · cases h
      · rename_i hc
        cases h
        exact ⟨ht, rfl, rfl, rfl, by push Not at hc; exact hc.2.2.1⟩

/-! ### The checks of a segment -/

@[simp] theorem elapse_rangeAt (n : Nat) (s : State) (i : Nat) : (elapse n s).rangeAt i = s.rangeAt i := by
  simp [State.rangeAt]

theorem badRecord_elapse (n : Nat) (s : State) : badRecord (elapse n s) = badRecord s := by
  funext seg i b
  simp [badRecord, loadedAfter]

theorem inUse_elapse (n : Nat) (s : State) : (elapse n s).inUse = s.inUse := by
  funext t i
  cases t <;> simp [State.inUse]

/-- The first element that a search finds. -/
theorem find?_first {α : Type} {p : α → Bool} {before after : List α} {x : α}
    (hb : ∀ y ∈ before, p y = false) (hx : p x = true) : (before ++ x :: after).find? p = some x := by
  have hnone : before.find? p = none := List.find?_eq_none.mpr (by simpa using hb)
  simp [List.find?_append, hnone, hx]

theorem checkSegment_badRecord {s : State} {payload : List Byte} {seg : Segment} {before after : List (Nat × List Byte)}
    {i : Nat} {b : List Byte} (hp : parseSegment payload = some seg) (hr : seg.records = before ++ (i, b) :: after)
    (hb : ∀ r ∈ before, badRecord s seg r.1 r.2 = false) (hi : badRecord s seg i b = true) :
    checkSegment s payload = .badRecord i := by
  have found := find?_first (p := fun (r : Nat × List Byte) => badRecord s seg r.1 r.2) (x := (i, b))
    (after := after) hb hi
  simp only [checkSegment, hp, hr]
  rw [found]

theorem find?_badRecord_none {s : State} {seg : Segment}
    (hg : ∀ r ∈ seg.records, badRecord s seg r.1 r.2 = false) :
    seg.records.find? (fun r => badRecord s seg r.1 r.2) = none :=
  List.find?_eq_none.mpr (by simpa using hg)

theorem checkSegment_inUse {s : State} {payload : List Byte} {seg : Segment} {before after : List (Nat × List Byte)}
    {i : Nat} {b : List Byte} (hp : parseSegment payload = some seg) (hr : seg.records = before ++ (i, b) :: after)
    (hg : ∀ r ∈ seg.records, badRecord s seg r.1 r.2 = false)
    (hb : ∀ r ∈ before, s.inUse seg.table r.1 = false) (hi : s.inUse seg.table i = true) :
    checkSegment s payload = .inUse i := by
  have found := find?_first (p := fun (r : Nat × List Byte) => s.inUse seg.table r.1) (x := (i, b))
    (after := after) hb hi
  simp only [checkSegment, hp]
  rw [find?_badRecord_none hg, hr]
  dsimp only
  rw [found]

theorem checkSegment_accepted {s : State} {payload : List Byte} {seg : Segment} (hp : parseSegment payload = some seg)
    (hg : ∀ r ∈ seg.records, badRecord s seg r.1 r.2 = false)
    (hu : ∀ r ∈ seg.records, s.inUse seg.table r.1 = false) : checkSegment s payload = .accepted seg := by
  have found : seg.records.find? (fun r => s.inUse seg.table r.1) = none :=
    List.find?_eq_none.mpr (by simpa using hu)
  simp only [checkSegment, hp]
  rw [find?_badRecord_none hg]
  dsimp only
  rw [found]

/-- What a TABLE frame comes to, by the outcome of its checks (R2, R166). -/
theorem exec_table_becomes {s : State} (h : s.TakesFrames) (dt : Nat) (seq : Byte) (payload : List Byte) :
    Becomes (exec (.table dt seq payload) s)
      (match checkSegment (elapse dt s) payload with
        | .badSegment => (elapse dt s).withReply (answered kindTable seq .badSegment [])
        | .badRecord i => (elapse dt s).withReply (answered kindTable seq .badRecord (be16 i))
        | .inUse i => (elapse dt s).withReply (answered kindTable seq .inUse (be16 i))
        | .accepted seg => (writeSegment seg (elapse dt s)).withReply (answered kindTable seq .accepted [])) := by
  refine Eq.trans (takeEvent_takeFrame_becomes h dt (takeTable seq payload)) ?_
  unfold takeTable
  cases checkSegment (elapse dt s) payload <;> rfl

/-! ### Bad step records -/

theorem codedField_eq_none {x absentCode largest : Nat} :
    codedField x absentCode largest = none ↔ x ≠ absentCode ∧ largest < x := by
  unfold codedField
  split
  · simp [*]
  · split <;> simp_all

theorem methodOf_eq_none {n : Nat} : methodOf n = none ↔ n = 0 ∨ 4 < n := by
  rcases n with _ | _ | _ | _ | _ | n <;> simp [methodOf]

theorem classOf_eq_none {n : Nat} : classOf n = none ↔ 4 < n := by
  rcases n with _ | _ | _ | _ | _ | n <;> simp [classOf]

theorem limitOf_eq_none {present : Bool} {x : Nat} :
    limitOf present x = none ↔ present = true ∧ 4294967294 < x := by
  cases present with
  | false => simp [limitOf]
  | true => by_cases h : x ≤ 4294967294 <;> simp [limitOf, Config.valueMax, h]; omega

/-- A chain of checks fails at its first check or further on. -/
theorem bind_eq_none_or {α β : Type} {o : Option α} {f : α → Option β} {p : Prop}
    (h : ∀ a, f a = none ↔ p) : (o >>= f) = none ↔ o = none ∨ p := by
  cases o with
  | none => simp
  | some a => simpa using h a

/-- The checks of a LOADED step record, in the order in which its fields are read (R5, R179). -/
theorem decodeLoadedStep_eq_none (b : List Byte) :
    decodeLoadedStep b = none ↔ methodOf (fieldAt b 1 1 % 16) = none ∨ classOf (fieldAt b 1 1 / 16) = none
      ∨ codedField (fieldAt b 2 2) 4095 4094 = none ∨ codedField (fieldAt b 4 2) 4095 4094 = none
      ∨ codedField (fieldAt b 7 1) 255 7 = none ∨ codedField (fieldAt b 12 2) 0 1000 = none
      ∨ limitOf (fieldAt b 0 1 / 2 % 2 == 1) (fieldAt b 16 4) = none
      ∨ limitOf (fieldAt b 0 1 / 4 % 2 == 1) (fieldAt b 20 4) = none
      ∨ ¬(fieldAt b 6 1 ≤ 31 ∧ 16 ≤ fieldAt b 8 2 ∧ fieldAt b 8 2 ≤ 4096 ∧ fieldAt b 11 1 % 16 ≤ 6
        ∧ fieldAt b 11 1 / 16 ≤ 7 ∧ 1 ≤ fieldAt b 14 2) := by
  unfold decodeLoadedStep
  iterate 8 refine bind_eq_none_or fun _ => ?_
  simp

/-- The seven combinations of R6: which nets, frequency, limits and tolerance go with a method and a class. -/
def StepRecord.Listed (r : StepRecord) : Prop :=
  let nets := r.netA.isSome = true ∧ r.netB.isSome = true
  let limits := ∃ l h, r.low = some l ∧ r.high = some h ∧ l ≤ h
  (r.method = .res ∧ r.cls = some .iso ∧ nets ∧ r.netA ≠ r.netB ∧ r.freq = none
    ∧ r.low.isSome = true ∧ r.high = none ∧ r.tolerance = none)
  ∨ (r.method = .res ∧ r.cls = some .cont ∧ nets ∧ r.freq = none ∧ r.low = none
    ∧ r.high.isSome = true ∧ r.tolerance = none)
  ∨ (r.method = .res ∧ r.cls = some .comp ∧ nets ∧ r.freq = none ∧ limits ∧ r.tolerance = none)
  ∨ (r.method = .cap ∧ r.cls = some .comp ∧ nets ∧ r.freq.isSome = true ∧ limits
    ∧ r.tolerance = none)
  ∨ (r.method = .cap ∧ r.cls = some .sig ∧ r.netA.isSome = true ∧ r.netB = none
    ∧ r.freq.isSome = true ∧ r.low = none ∧ r.high = none ∧ r.tolerance.isSome = true
    ∧ r.exponent = 0)
  ∨ (r.method = .vf ∧ r.cls = some .comp ∧ nets ∧ r.freq = none ∧ limits ∧ r.tolerance = none)
  ∨ (r.method = .zero ∧ r.cls = none ∧ r.netA = none ∧ r.netB = none ∧ r.freq = none
    ∧ r.low = none ∧ r.high = none ∧ r.tolerance = none ∧ r.exponent = 0)

theorem limitsOrdered_iff (low high : Option Nat) :
    (match low, high with
      | some l, some h => decide (l ≤ h)
      | _, _ => false) = true ↔ ∃ l, low = some l ∧ ∃ h, high = some h ∧ l ≤ h := by
  cases low <;> cases high <;> simp

/-- The check of a step's combination accepts exactly the listed ones (R6). -/
theorem StepRecord.combinationGood_iff (r : StepRecord) : r.combinationGood = true ↔ r.Listed := by
  obtain ⟨method, cls, netA, netB, range, freq, samples, stimulus, low, high, tol, exponent, retry, budget⟩ := r
  unfold StepRecord.combinationGood StepRecord.Listed
  cases method <;> rcases cls with _ | (_ | _ | _ | _) <;>
    simp [and_assoc]
  all_goals exact fun _ _ _ _ => limitsOrdered_iff low high

/-- A bad coding of a step record, field by field (R5, R179). -/
theorem decodeStep_eq_none (b : List Byte) :
    decodeStep b = none ↔ fieldAt b 0 1 % 2 = 1 ∧ decodeLoadedStep b = none := by
  unfold decodeStep
  split <;> simp <;> omega

theorem badRecord_step {s : State} {seg : Segment} (ht : seg.table = .step) (i : Nat) (b : List Byte) :
    badRecord s seg i b = true ↔ decodeStep b = none
      ∨ ∃ r, decodeStep b = some (some r) ∧ (¬r.Listed ∨ s.rangeAt r.range = none) := by
  simp only [badRecord, ht]
  rcases hd : decodeStep b with _ | (_ | r)
  · simp
  · simp
  · simp [← StepRecord.combinationGood_iff]

/-! ### Bad records of the other tables -/

theorem badRecord_net {s : State} {seg : Segment} (ht : seg.table = .net) (i : Nat) (b : List Byte) :
    badRecord s seg i b = true
      ↔ i ≠ 4095 ∧ fieldAt b 0 1 / 2 % 2 = 1 ∧ fieldAt b 4 4 = 4294967295 := by
  simp [badRecord, ht, decodeNet]

/-- When a range record of 16 bytes decodes, and to what (R11, R179). -/
theorem decodeRange_eq_some {b : List Byte} {r : RangeRecord} :
    decodeRange b = some r ↔ codedField (fieldAt b 11 1) 255 31 = some r.next
      ∧ (1 ≤ fieldAt b 0 4 ∧ fieldAt b 0 4 ≤ 1000000 ∧ 1 ≤ fieldAt b 4 4 ∧ fieldAt b 4 4 ≤ 1000000000
        ∧ fieldAt b 8 2 ≤ 32767)
      ∧ r = { kv := fieldAt b 0 4, ki := fieldAt b 4 4, floor := fieldAt b 8 2, clip := fieldAt b 10 1,
              next := r.next } := by
  unfold decodeRange
  cases hc : codedField (fieldAt b 11 1) 255 31 with
  | none => simp
  | some next =>
    simp only [Option.bind_eq_bind, Option.bind_some, Option.ite_none_right_eq_some, Option.some.injEq]
    constructor
    · rintro ⟨hb, rfl⟩
      exact ⟨rfl, hb, rfl⟩
    · rintro ⟨rfl, hb, hr⟩
      exact ⟨hb, hr.symm⟩

theorem badRecord_range {s : State} {seg : Segment} (ht : seg.table = .range) (i : Nat) (b : List Byte) :
    badRecord s seg i b = false ↔ ∃ r, decodeRange b = some r
      ∧ ∀ next, r.next = some next → next ≠ i ∧ loadedAfter s seg next = true := by
  simp only [badRecord, ht]
  cases decodeRange b with
  | none => simp
  | some r => cases hn : r.next <;> simp [hn]

theorem codedField_eq_some {x absentCode largest : Nat} {o : Option Nat} :
    codedField x absentCode largest = some o
      ↔ (x = absentCode ∧ o = none) ∨ (x ≠ absentCode ∧ x ≤ largest ∧ o = some x) := by
  unfold codedField
  by_cases ha : x = absentCode
  · simp [ha, eq_comm]
  · by_cases hl : x ≤ largest <;> simp [ha, hl, eq_comm]

theorem loadedAfter_iff (s : State) (seg : Segment) (i : Nat) : loadedAfter s seg i = true
    ↔ s.rangeAt i ≠ none ∨ (seg.first ≤ i ∧ i < seg.first + seg.count) := by
  simp [loadedAfter, Option.isSome_iff_ne_none]

theorem badRecord_freq {s : State} {seg : Segment} (ht : seg.table = .freq) (i : Nat) (b : List Byte) :
    badRecord s seg i b = false ↔ 50 ≤ fieldAt b 0 2 ∧ fieldAt b 0 2 ≤ 50000 ∧ 1 ≤ fieldAt b 2 4
      ∧ 1 ≤ fieldAt b 6 1 := by
  simp only [badRecord, ht, decodeFreq]
  split <;> simp_all

/-- A range record is good when its fields are in range and its next range, if any, is another that is LOADED before or by
the segment (R11). -/
theorem badRecord_range_fields {s : State} {seg : Segment} (ht : seg.table = .range) (i : Nat) (b : List Byte) :
    badRecord s seg i b = false ↔ 1 ≤ fieldAt b 0 4 ∧ fieldAt b 0 4 ≤ 1000000 ∧ 1 ≤ fieldAt b 4 4
      ∧ fieldAt b 4 4 ≤ 1000000000 ∧ fieldAt b 8 2 ≤ 32767
      ∧ (fieldAt b 11 1 = 255 ∨ (fieldAt b 11 1 ≤ 31 ∧ fieldAt b 11 1 ≠ i
        ∧ (s.rangeAt (fieldAt b 11 1) ≠ none
          ∨ (seg.first ≤ fieldAt b 11 1 ∧ fieldAt b 11 1 < seg.first + seg.count)))) := by
  simp only [badRecord_range ht, decodeRange_eq_some, codedField_eq_some, ← loadedAfter_iff]
  constructor
  · rintro ⟨r, ⟨hc, ⟨h1, h2, h3, h4, h5⟩, -⟩, hn⟩
    refine ⟨h1, h2, h3, h4, h5, ?_⟩
    rcases hc with ⟨hx, -⟩ | ⟨-, hle, hsome⟩
    · exact Or.inl hx
    · exact Or.inr ⟨hle, hn _ hsome⟩
  · rintro ⟨h1, h2, h3, h4, h5, hnext⟩
    rcases hnext with hx | ⟨hle, hne, hl⟩
    · exact ⟨⟨_, _, _, _, none⟩, ⟨Or.inl ⟨hx, rfl⟩, ⟨h1, h2, h3, h4, h5⟩, rfl⟩, fun _ h => nomatch h⟩
    · refine ⟨⟨_, _, _, _, some (fieldAt b 11 1)⟩, ⟨Or.inr ⟨by omega, hle, rfl⟩, ⟨h1, h2, h3, h4, h5⟩, rfl⟩, ?_⟩
      rintro next ⟨⟩
      exact ⟨hne, hl⟩

/-! ### The statement -/

/-- The structural check of R1 refuses exactly the payloads that are no segment, and cuts the others into their records. -/
theorem parseSegment_spec (payload : List Byte) :
    let id := fieldAt payload 0 1
    let first := fieldAt payload 1 2
    let count := fieldAt payload 3 1
    let last := if id = 1 then 16383 else if id = 2 then 4095 else if id = 3 then 31 else 7
    let size := if id = 1 then 24 else if id = 3 then 16 else 8
    (parseSegment payload = none ↔ payload.length < 4 ∨ id = 0 ∨ 4 < id ∨ count = 0 ∨ 64 < count
      ∨ last < first + count - 1 ∨ payload.length ≠ 4 + count * size)
    ∧ ∀ seg, parseSegment payload = some seg →
        seg.table = (if id = 1 then .step else if id = 2 then .net else if id = 3 then .range else .freq)
        ∧ seg.first = first ∧ seg.count = count ∧ seg.records.length = count
        ∧ ∀ k, k < count →
            seg.records[k]? = some (first + k, ((payload.drop 4).drop (size * k)).take size) := by
  intro id first count last size
  constructor
  · cases ht : tableOf id with
    | none =>
      have hid := tableOf_eq_none.mp ht
      have refused : parseSegment payload = none := by
        simp only [parseSegment]
        split
        · rfl
        · simp only [show tableOf (fieldAt payload 0 1) = none from ht]
      exact iff_of_true refused (by tauto)
    | some t =>
      have hid : ¬(id = 0 ∨ 4 < id) := fun h => by simp [tableOf_eq_none.mpr h] at ht
      obtain ⟨-, hlast, hsize⟩ := tableOf_eq_some ht
      rw [parseSegment_eq_none ht, hlast, hsize]
      tauto
  · intro seg hseg
    obtain ⟨ht, hfirst, hcount, hrecords, -⟩ := parseSegment_eq_some hseg
    obtain ⟨htable, -, hsize⟩ := tableOf_eq_some ht
    rw [hfirst, hcount, hsize, cutRecords_eq_map] at hrecords
    refine ⟨htable, hfirst, hcount, by simp [hrecords, count], fun k hk => ?_⟩
    have hkth : (List.range (fieldAt payload 3 1))[k]? = some k := List.getElem?_range hk
    simp [hrecords, hkth, first, size, id]

/-- A step record whose coding is bad, with each field's condition (R5, R6, R179). -/
theorem decodeStep_spec (b : List Byte) :
    let present (k : Nat) := fieldAt b 0 1 / 2 ^ k % 2 = 1
    let method := fieldAt b 1 1 % 16
    (decodeStep b = some none ↔ ¬present 0)
    ∧ (decodeStep b = none ↔ present 0 ∧
        (method = 0 ∨ 4 < method ∨ 4 < fieldAt b 1 1 / 16 ∨ 4095 < fieldAt b 2 2 ∨ 4095 < fieldAt b 4 2
          ∨ 31 < fieldAt b 6 1 ∨ (7 < fieldAt b 7 1 ∧ fieldAt b 7 1 ≠ 255)
          ∨ fieldAt b 8 2 < 16 ∨ 4096 < fieldAt b 8 2 ∨ 6 < fieldAt b 11 1 % 16
          ∨ 7 < fieldAt b 11 1 / 16 ∨ 1000 < fieldAt b 12 2 ∨ fieldAt b 14 2 = 0
          ∨ (present 1 ∧ 4294967294 < fieldAt b 16 4) ∨ (present 2 ∧ 4294967294 < fieldAt b 20 4))) := by
  intro present method
  constructor
  · simp only [decodeStep, present, pow_zero, Nat.div_one]
    split
    · simp [*]
    · simp; omega
  · simp only [decodeStep_eq_none, decodeLoadedStep_eq_none, methodOf_eq_none, classOf_eq_none,
      codedField_eq_none, limitOf_eq_none, beq_iff_eq, present, method, pow_zero, Nat.div_one, pow_one,
      Nat.reducePow]
    omega

/-- When a table entry is in use (R3). -/
theorem inUse_spec (i : Nat) (s : State) :
    (s.inUse .step i = true ↔ ∃ e ∈ s.entries, e.step = i)
    ∧ (s.inUse .net i = true ↔
        ∃ e ∈ s.entries, (s.stepOf e).netA = some i ∨ (s.stepOf e).netB = some i)
    ∧ (s.inUse .range i = true ↔ ∃ e ∈ s.entries, e.range = i)
    ∧ (s.inUse .freq i = true ↔ ∃ g, (0 < (s.gen g).users ∧ (s.gen g).frequency = some i)
        ∨ ((s.gen g).state = .retuning ∧ (s.gen g).target = some i)) := by
  refine ⟨by simp [State.inUse], by simp [State.inUse], by simp [State.inUse], ?_⟩
  simp [State.inUse, Fin.exists_fin_two]

/-- Settles O29: the outcome of a TABLE frame is that of `checkSegment`, which looks for a bad record and then for one in
use, each from the lowest index on. -/
theorem tableSegmentRefusals : Obligations.TableSegmentRefusals := by
  unfold Obligations.TableSegmentRefusals
  refine ⟨?_, parseSegment_spec, decodeStep_spec, ?_, inUse_spec⟩
  · intro dt seq payload s hs u c
    have becomes := exec_table_becomes hs dt seq payload
    constructor
    · intro hp
      have refused : checkSegment u payload = .badSegment := by simp [checkSegment, hp]
      rw [show checkSegment (elapse dt s) payload = _ from refused] at becomes
      exact becomes
    · intro seg before i b after hp hr
      constructor
      · intro hb hi
        rw [← badRecord_elapse dt s] at hb hi
        rw [checkSegment_badRecord hp hr hb hi] at becomes
        exact becomes
      · intro hg hb hi
        rw [← badRecord_elapse dt s] at hg
        rw [← inUse_elapse dt s] at hb hi
        rw [checkSegment_inUse hp hr hg hb hi] at becomes
        exact becomes
  · intro seg i b s
    exact ⟨fun ht => badRecord_step ht i b, fun ht => badRecord_net ht i b,
      fun ht => badRecord_range_fields ht i b, fun ht => badRecord_freq ht i b⟩

end Sys2Proof.Machine
end

section
/-! SUPPORT. The writing of an accepted TABLE segment, table by table, and what it writes besides (R2, R7 to R9, R11, R13,
R14, R126, R137). -/

namespace Sys2Proof.Machine

/-! ### Sparse tables under a segment -/

/-- A sparse table after the records of a segment: each record's content, where it has one, at its index. -/
def Sparse.putRecords {α : Type} [DecidableEq α] (dflt : Nat → α) (content : Nat → List Byte → Option α)
    (t : Sparse α) (records : List (Nat × List Byte)) : Sparse α :=
  records.foldl (fun t r => match content r.1 r.2 with
    | some x => t.put dflt r.1 x
    | none => t) t

section
variable {α : Type} [DecidableEq α] (dflt : Nat → α) (content : Nat → List Byte → Option α)

theorem Sparse.putRecords_cons (t : Sparse α) (i : Nat) (b : List Byte) (rest : List (Nat × List Byte)) :
    Sparse.putRecords dflt content t ((i, b) :: rest)
      = Sparse.putRecords dflt content ((content i b).elim t (t.put dflt i)) rest := by
  simp only [Sparse.putRecords, List.foldl_cons]
  cases content i b <;> rfl

/-- A segment's records are read back at their indices, and every other index reads as before (R2). -/
theorem Sparse.get_putRecords (size count first : Nat) (b : List Byte) {t : Sparse α}
    (w : Sparse.wf dflt t = true) (k : Nat) :
    Sparse.get dflt (Sparse.putRecords dflt content t (cutRecords size count first b)) k
      = if first ≤ k ∧ k < first + count then
          (content k ((b.drop (size * (k - first))).take size)).getD (Sparse.get dflt t k)
        else Sparse.get dflt t k := by
  induction count generalizing first b t with
  | zero => simp [cutRecords, Sparse.putRecords]
  | succ count ih =>
    have w' : Sparse.wf dflt ((content first (b.take size)).elim t (t.put dflt first)) = true := by
      cases content first (b.take size) with
      | none => exact w
      | some x => exact Sparse.put_wf dflt w first x
    have hget : Sparse.get dflt ((content first (b.take size)).elim t (t.put dflt first)) k
        = if k = first then (content first (b.take size)).getD (Sparse.get dflt t k)
          else Sparse.get dflt t k := by
      cases content first (b.take size) with
      | none => simp
      | some x => exact Sparse.get_put dflt w first x k
    rw [cutRecords, Sparse.putRecords_cons, ih (first + 1) (b.drop size) w', hget, List.drop_drop]
    by_cases hk : k = first
    · subst hk
      simp
    · by_cases hin : first ≤ k ∧ k < first + (count + 1)
      · have hin' : first + 1 ≤ k ∧ k < first + 1 + count := by omega
        have hpos : size + size * (k - (first + 1)) = size * (k - first) := by
          obtain ⟨j, rfl⟩ := Nat.exists_eq_add_of_le hin'.1
          have h1 : first + 1 + j - (first + 1) = j := by omega
          have h2 : first + 1 + j - first = j + 1 := by omega
          rw [h1, h2, Nat.mul_add, Nat.mul_one, Nat.add_comm]
        rw [if_pos hin', if_pos hin, if_neg hk, hpos]
      · rw [if_neg (by omega), if_neg hin, if_neg hk]

end

/-! ### What a segment writes, table by table -/

/-- STEP records write the Step Table and nothing else (R7). -/
theorem foldl_writeRecord_step (records : List (Nat × List Byte)) (s : State) :
    records.foldl (fun s r => writeRecord .step r.1 r.2 s) s
      = { s with tables := { s.tables with
            steps := s.tables.steps.putRecords stepInitial
              (fun _ b => some ((decodeStep b).getD none)) records } } := by
  induction records generalizing s with
  | nil => rfl
  | cons r rest ih => rw [List.foldl_cons, ih]; rfl

/-- RANGE records write the Range Table and nothing else (R11). -/
theorem foldl_writeRecord_range (records : List (Nat × List Byte)) (s : State) :
    records.foldl (fun s r => writeRecord .range r.1 r.2 s) s
      = { s with tables := { s.tables with
            ranges := s.tables.ranges.putRecords rangeInitial (fun _ b => some (decodeRange b)) records } } := by
  induction records generalizing s with
  | nil => rfl
  | cons r rest ih => rw [List.foldl_cons, ih]; rfl

/-- FREQ records write the Frequency Table and make generators stale, and nothing else (R13, R14). -/
theorem foldl_writeRecord_freq (records : List (Nat × List Byte)) (s : State) :
    records.foldl (fun s r => writeRecord .freq r.1 r.2 s) s
      = { s with
          tables := { s.tables with
            freqs := s.tables.freqs.putRecords freqInitial
              (fun i b => some ((decodeFreq b).getD (freqInitial i))) records }
          gens := s.gens.map (fun g => records.foldl (fun g r => g.staleAt r.1) g) } := by
  induction records generalizing s with
  | nil => rfl
  | cons r rest ih => rw [List.foldl_cons, ih]; rfl

/-- The signature state that a written net record leaves; record 4,095 leaves every net's as it was (R8, R9). -/
def signatureWritten (i : Nat) (b : List Byte) : Option NetSignature :=
  if i = 4095 then none else some { list := [], source := none, reference := (decodeNet b).preset }

/-- NET records write the Net Table and the nets' signature states, and nothing else (R8, R9). -/
theorem foldl_writeRecord_net (records : List (Nat × List Byte)) (s : State) :
    records.foldl (fun s r => writeRecord .net r.1 r.2 s) s
      = { s with
          tables := { s.tables with
            nets := s.tables.nets.putRecords netInitial (fun _ b => some (decodeNet b)) records }
          sigs := { s.sigs with
            nets := s.sigs.nets.putRecords signatureInitial signatureWritten records } } := by
  induction records generalizing s with
  | nil => rfl
  | cons r rest ih =>
    obtain ⟨i, b⟩ := r
    rw [List.foldl_cons, ih, Sparse.putRecords_cons, Sparse.putRecords_cons]
    by_cases hi : i = 4095
    · subst hi; rfl
    · simp [writeRecord, netRecordEffect, hi, signatureWritten, writeNetSignature, State.setSignature]

/-- A request acts on the scan alone (R126). -/
theorem requestScan_eq (s : State) : requestScan s = s.setScan (s.sigs.scan.requested s.sigs.deferred) := by
  unfold requestScan Scan.requested startScan State.oldestDeferred
  cases h : s.sigs.scan.scanning with
  | false => cases s.sigs.deferred <;> rfl
  | true => simp [h]

/-- Only NET segments request a scan (R9). -/
theorem writeSegment_of_ne_net {seg : Segment} (ht : seg.table ≠ .net) (s : State) :
    writeSegment seg s = seg.records.foldl (fun s r => writeRecord seg.table r.1 r.2 s) s := by
  simp [writeSegment, presetForDeferred, ht]

/-! ### Generators under FREQ records (R14, R137) -/

/-- A generator whose frequency is no longer known, at rest (R137). -/
def Generator.stale (g : Generator) : Generator := { g with frequency := none, output := none, origin := none }

/-- A generator that is IDLE at one of the written indices becomes stale, and any other stays as it is. -/
theorem foldl_staleAt (records : List (Nat × List Byte)) (g : Generator) :
    records.foldl (fun g r => g.staleAt r.1) g
      = if g.state = .idle ∧ g.frequency.any (fun i => records.any (fun r => r.1 == i)) = true then g.stale
        else g := by
  induction records generalizing g with
  | nil => cases g.frequency <;> simp
  | cons r rest ih =>
    rw [List.foldl_cons, ih]
    by_cases h : g.state = .idle ∧ g.frequency = some r.1
    · have hs : g.staleAt r.1 = g.stale := if_pos h
      simp [hs, Generator.stale, h.1, h.2]
    · have hs : g.staleAt r.1 = g := if_neg h
      rw [hs]
      refine if_congr (and_congr_right fun hidle => ?_) rfl rfl
      cases hf : g.frequency with
      | none => simp
      | some i =>
        have hne : r.1 ≠ i := fun he => h ⟨hidle, he ▸ hf⟩
        simp [hne]

theorem any_index_cutRecords (size count first : Nat) (b : List Byte) (i : Nat) :
    (cutRecords size count first b).any (fun r => r.1 == i)
      = (decide (first ≤ i) && decide (i < first + count)) := by
  rw [Bool.eq_iff_iff]
  simp only [List.any_eq_true, Prod.exists, mem_cutRecords, beq_iff_eq, Bool.and_eq_true, decide_eq_true_eq]
  constructor
  · rintro ⟨k, x, ⟨h1, h2, -⟩, rfl⟩
    exact ⟨h1, h2⟩
  · rintro ⟨h1, h2⟩
    exact ⟨i, _, ⟨h1, h2, rfl⟩, rfl⟩

/-! ### The statement -/

/-- A segment loads a preset for a deferred net exactly when one of its indices names one (R9). -/
theorem presetForDeferred_iff {s : State} {seg : Segment} (ht : seg.table = .net) {b : List Byte}
    (hr : seg.records = cutRecords 8 seg.count seg.first b) :
    presetForDeferred s seg = true
      ↔ ∃ k, (seg.first ≤ k ∧ k < seg.first + seg.count) ∧ k ≠ 4095
        ∧ (decodeNet ((b.drop (8 * (k - seg.first))).take 8)).preset ≠ none
        ∧ ∃ d ∈ s.sigs.deferred, d.net = k := by
  simp only [presetForDeferred, ht, hr, decide_true, Bool.true_and, List.any_eq_true, Prod.exists, mem_cutRecords,
    Bool.and_eq_true, decide_eq_true_eq, Option.isSome_iff_ne_none]
  constructor
  · rintro ⟨k, x, ⟨h1, h2, rfl⟩, ⟨hne, hp⟩, hd⟩
    exact ⟨k, ⟨h1, h2⟩, hne, hp, hd⟩
  · rintro ⟨k, ⟨h1, h2⟩, hne, hp, hd⟩
    exact ⟨k, _, ⟨h1, h2, rfl⟩, ⟨hne, hp⟩, hd⟩

/-- The whole effect of a NET segment (R8, R9, R126). -/
theorem writeSegment_net {seg : Segment} (ht : seg.table = .net) (s : State) :
    writeSegment seg s = { s with
      tables := { s.tables with
        nets := s.tables.nets.putRecords netInitial (fun _ b => some (decodeNet b)) seg.records }
      sigs := { s.sigs with
        nets := s.sigs.nets.putRecords signatureInitial signatureWritten seg.records
        scan := if presetForDeferred s seg then s.sigs.scan.requested s.sigs.deferred else s.sigs.scan } } := by
  have written := foldl_writeRecord_net seg.records s
  rw [← ht] at written
  unfold writeSegment
  cases presetForDeferred s seg
  · exact written
  · refine (congrArg requestScan written).trans ?_
    rw [requestScan_eq]
    rfl

theorem writeSegment_link (seg : Segment) (s : State) : (writeSegment seg s).link = s.link := by
  cases ht : seg.table with
  | net => rw [writeSegment_net ht]
  | step => rw [writeSegment_of_ne_net (by simp [ht]), ht, foldl_writeRecord_step]
  | range => rw [writeSegment_of_ne_net (by simp [ht]), ht, foldl_writeRecord_range]
  | freq => rw [writeSegment_of_ne_net (by simp [ht]), ht, foldl_writeRecord_freq]

/-- The canonical tables that TABLE frames write. -/
theorem State.canonical_tables {s : State} (h : s.canonical = true) :
    s.tables.steps.wf stepInitial = true ∧ s.tables.nets.wf netInitial = true
    ∧ s.tables.ranges.wf rangeInitial = true ∧ s.tables.freqs.wf freqInitial = true
    ∧ s.sigs.nets.wf signatureInitial = true := by
  simp only [State.canonical, Bool.and_eq_true] at h
  tauto

theorem accepted_step {s : State} {seg : Segment} {b : List Byte} {seq : Byte} (ht : seg.table = .step)
    (hr : seg.records = cutRecords 24 seg.count seg.first b) (w : s.tables.steps.wf stepInitial = true) :
    let t := (writeSegment seg s).withReply (answered kindTable seq .accepted [])
    (∀ k, t.stepAt k = if seg.first ≤ k ∧ k < seg.first + seg.count then
        (decodeStep ((b.drop (24 * (k - seg.first))).take 24)).getD none else s.stepAt k)
    ∧ t.tables = { s.tables with steps := t.tables.steps } ∧ SameBut [.tables, .link] s t := by
  rw [writeSegment_of_ne_net (by simp [ht]), ht, foldl_writeRecord_step, hr]
  refine ⟨fun k => Sparse.get_putRecords stepInitial (fun _ b => some ((decodeStep b).getD none)) 24 _ _ b w k,
    rfl, rfl, fun x hx => ?_⟩
  cases x <;> simp_all [Block.Same, State.withReply]

theorem accepted_range {s : State} {seg : Segment} {b : List Byte} {seq : Byte} (ht : seg.table = .range)
    (hr : seg.records = cutRecords 16 seg.count seg.first b) (w : s.tables.ranges.wf rangeInitial = true) :
    let t := (writeSegment seg s).withReply (answered kindTable seq .accepted [])
    (∀ k, t.rangeAt k = if seg.first ≤ k ∧ k < seg.first + seg.count then
        decodeRange ((b.drop (16 * (k - seg.first))).take 16) else s.rangeAt k)
    ∧ t.tables = { s.tables with ranges := t.tables.ranges } ∧ SameBut [.tables, .link] s t := by
  rw [writeSegment_of_ne_net (by simp [ht]), ht, foldl_writeRecord_range, hr]
  refine ⟨fun k => Sparse.get_putRecords rangeInitial (fun _ b => some (decodeRange b)) 16 _ _ b w k,
    rfl, rfl, fun x hx => ?_⟩
  cases x <;> simp_all [Block.Same, State.withReply]

theorem accepted_freq {s : State} {seg : Segment} {b : List Byte} {seq : Byte} (ht : seg.table = .freq)
    (hr : seg.records = cutRecords 8 seg.count seg.first b) (w : s.tables.freqs.wf freqInitial = true) :
    let t := (writeSegment seg s).withReply (answered kindTable seq .accepted [])
    (∀ k, t.freqAt k = if seg.first ≤ k ∧ k < seg.first + seg.count then
        (decodeFreq ((b.drop (8 * (k - seg.first))).take 8)).getD (freqInitial k) else s.freqAt k)
    ∧ t.tables = { s.tables with freqs := t.tables.freqs }
    ∧ (∀ g, t.gen g = if (s.gen g).state = .idle ∧ (s.gen g).frequency.any (fun i =>
          decide (seg.first ≤ i) && decide (i < seg.first + seg.count)) = true then (s.gen g).stale else s.gen g)
    ∧ SameBut [.tables, .gens, .link] s t := by
  rw [writeSegment_of_ne_net (by simp [ht]), ht, foldl_writeRecord_freq, hr]
  refine ⟨fun k => Sparse.get_putRecords freqInitial (fun i b => some ((decodeFreq b).getD (freqInitial i)))
    8 _ _ b w k, rfl, fun g => ?_, rfl, fun x hx => ?_⟩
  · refine (PerGen.get_map _ s.gens g).trans ((foldl_staleAt _ _).trans (if_congr ?_ rfl rfl))
    simp only [any_index_cutRecords, State.gen]
  · cases x <;> simp_all [Block.Same, State.withReply]

theorem accepted_net {s : State} {seg : Segment} {b : List Byte} {seq : Byte} (ht : seg.table = .net)
    (hr : seg.records = cutRecords 8 seg.count seg.first b) (wn : s.tables.nets.wf netInitial = true)
    (ws : s.sigs.nets.wf signatureInitial = true) :
    let t := (writeSegment seg s).withReply (answered kindTable seq .accepted [])
    (∀ k, t.netAt k = if seg.first ≤ k ∧ k < seg.first + seg.count then
        decodeNet ((b.drop (8 * (k - seg.first))).take 8) else s.netAt k)
    ∧ (∀ k, t.signature k = if (seg.first ≤ k ∧ k < seg.first + seg.count) ∧ k ≠ 4095 then
        { list := [], source := none, reference := (decodeNet ((b.drop (8 * (k - seg.first))).take 8)).preset }
        else s.signature k)
    ∧ t.sigs = { s.sigs with
        nets := t.sigs.nets
        scan := if presetForDeferred s seg then s.sigs.scan.requested s.sigs.deferred else s.sigs.scan }
    ∧ t.tables = { s.tables with nets := t.tables.nets } ∧ SameBut [.tables, .sigs, .link] s t := by
  rw [writeSegment_net ht, hr]
  refine ⟨fun k => Sparse.get_putRecords netInitial (fun _ b => some (decodeNet b)) 8 _ _ b wn k,
    fun k => ?_, rfl, rfl, rfl, fun x hx => ?_⟩
  · refine (Sparse.get_putRecords signatureInitial signatureWritten _ _ _ _ ws k).trans ?_
    by_cases hk : k = 4095
    · simp [hk, signatureWritten, State.signature]
    · simp [hk, signatureWritten, State.signature]
  · cases x <;> simp_all [Block.Same, State.withReply]

/-- Settles O30: an accepted segment is the fold of its records' writes, each of them read back at its own index. -/
theorem acceptedSegmentIsWritten : Obligations.AcceptedSegmentIsWritten := by
  unfold Obligations.AcceptedSegmentIsWritten
  intro dt seq payload seg s hs hcan hp hgood u record written
  obtain ⟨-, -, -, hrecords, -⟩ := parseSegment_eq_some hp
  obtain ⟨wsteps, wnets, wranges, wfreqs, wsigs⟩ := State.canonical_tables hcan
  have accepted : checkSegment u payload = .accepted seg :=
    checkSegment_accepted hp (by rw [badRecord_elapse]; exact fun r hr => (hgood r hr).1)
      (by rw [inUse_elapse]; exact fun r hr => (hgood r hr).2)
  have becomes := exec_table_becomes hs dt seq payload
  rw [show checkSegment (elapse dt s) payload = _ from accepted] at becomes
  have hwritten : ∀ k, written k = true ↔ seg.first ≤ k ∧ k < seg.first + seg.count := by simp [written]
  refine ⟨_, becomes, ?_, fun ht => ?_, fun ht => ?_, fun ht => ?_, fun ht => ?_⟩
  · simp [State.withReply, writeSegment_link, u]
  · rw [ht] at hrecords
    obtain ⟨hsteps, htables, hsame⟩ :=
      accepted_step (s := u) (seq := seq) ht hrecords (by simpa [u] using wsteps)
    refine ⟨fun k => ?_, by simpa [u] using htables, hsame⟩
    simpa only [hwritten, u, State.stepAt, elapse_tables] using hsteps k
  · rw [ht] at hrecords
    obtain ⟨hfreqs, htables, hgens, hsame⟩ :=
      accepted_freq (s := u) (seq := seq) ht hrecords (by simpa [u] using wfreqs)
    refine ⟨fun k hk => ?_, fun k hk => ?_, by simpa [u] using htables, fun g => ?_, hsame⟩
    · have hk := (hwritten k).mp hk
      have good : badRecord s seg k (record 8 k) = false :=
        (hgood (k, record 8 k) (by rw [hrecords]; exact mem_cutRecords.mpr ⟨hk.1, hk.2, rfl⟩)).1
      obtain ⟨r, hr⟩ : ∃ r, decodeFreq (record 8 k) = some r := by
        simpa [badRecord, ht, Option.isNone_eq_false_iff, Option.isSome_iff_exists] using good
      rw [hfreqs k, if_pos hk]
      exact (congrArg (fun o => some (o.getD (freqInitial k))) hr).trans hr.symm
    · have hk : ¬(seg.first ≤ k ∧ k < seg.first + seg.count) := fun h => by simp [(hwritten k).mpr h] at hk
      rw [hfreqs k, if_neg hk]
      simp [u, State.freqAt]
    · refine (hgens g).trans (if_congr ?_ rfl rfl)
      simp only [u, elapse_gen, Generator.elapse_state, Generator.elapse_frequency, written]
  · rw [ht] at hrecords
    obtain ⟨hranges, htables, hsame⟩ :=
      accepted_range (s := u) (seq := seq) ht hrecords (by simpa [u] using wranges)
    refine ⟨fun k => ?_, by simpa [u] using htables, hsame⟩
    simpa only [hwritten, u, State.rangeAt, elapse_tables] using hranges k
  · rw [ht] at hrecords
    obtain ⟨hnets, hsigs, hsigsEq, htables, hsame⟩ :=
      accepted_net (s := u) (seq := seq) ht hrecords (by simpa [u] using wnets) (by simpa [u] using wsigs)
    have hpreset := presetForDeferred_iff (s := u) ht hrecords
    have hscan := congrArg Signatures.scan hsigsEq
    refine ⟨fun k => ?_, fun k => ?_, ?_, ⟨fun h => ?_, fun h => ?_⟩, by simpa [u] using htables, hsame⟩
    · simpa only [hwritten, u, State.netAt, elapse_tables] using hnets k
    · simpa only [hwritten, u, State.signature, elapse_sigs] using hsigs k
    · rw [hsigsEq]; simp [u]
    · have hp : presetForDeferred u seg = true := by
        refine hpreset.mpr ?_
        simpa only [hwritten, u, elapse_sigs] using h
      exact hscan.trans (by simp [hp, u])
    · have hp : presetForDeferred u seg = false := by
        refine Bool.eq_false_iff.mpr fun hc => h ?_
        simpa only [hwritten, u, elapse_sigs] using hpreset.mp hc
      exact hscan.trans (by simp [hp, u])

end Sys2Proof.Machine
end

section
/-! SUPPORT. What no command but TABLE writes: the records of the Step, Net, Range and Frequency Tables (R2). The Offset Table
is the part's own (R15, R91). -/

namespace Sys2Proof.Machine

/-- The Table Store less the Offset Table: what TABLE frames write. -/
def TableStore.records (x : TableStore) : TableStore := { x with offsets := [] }

theorem TableStore.records_eq_iff {x y : TableStore} : x.records = y.records
    ↔ x.steps = y.steps ∧ x.nets = y.nets ∧ x.ranges = y.ranges ∧ x.freqs = y.freqs := by
  simp [TableStore.records]

/-! ### Operations that can write an offset -/

@[simp] theorem State.setOffset_records (s : State) (n : LaneId) (range : Nat) (z : Offset) :
    (s.setOffset n range z).tables.records = s.tables.records := rfl

@[simp] theorem reportVerdict_records (e : Entry) (t : Terminal) (s : State) :
    (reportVerdict e t s).tables.records = s.tables.records := by
  simp only [reportVerdict]; split <;> simp

@[simp] theorem retire_records (e : Entry) (t : Terminal) (s : State) :
    (retire e t s).tables.records = s.tables.records := by
  simp only [retire]; split <;> simp

@[simp] theorem carryOut_records (e : Entry) (d : Decision) (s : State) :
    (carryOut e d s).tables.records = s.tables.records := by
  cases d <;> simp [carryOut]

@[simp] theorem decideEntry_records (tag : Half) (s : State) :
    (decideEntry tag s).tables.records = s.tables.records := by
  unfold decideEntry; (repeat' split) <;> simp

@[simp] theorem tryDecide_records (tag : Half) (s : State) :
    (tryDecide tag s).tables.records = s.tables.records := by
  unfold tryDecide; split <;> simp

@[simp] theorem endAttempt_records (n : LaneId) (tag : Half) (how : AttemptEnd) (s : State) :
    (endAttempt n tag how s).tables.records = s.tables.records := by
  simp only [endAttempt]; (repeat' split) <;> simp

@[simp] theorem takeAnswer_records (n : LaneId) (a : AttemptId) (how : AttemptEnd) (s : State) :
    (takeAnswer n a how s).tables.records = s.tables.records := by
  simp only [takeAnswer]; (repeat' split) <;> simp

@[simp] theorem expireAttempt_records (n : LaneId) (s : State) :
    (expireAttempt n s).tables.records = s.tables.records := by
  unfold expireAttempt; (repeat' split) <;> simp

@[simp] theorem completeReduction_records (n : LaneId) (s : State) :
    (completeReduction n s).tables.records = s.tables.records := by
  simp only [completeReduction]; (repeat' split) <;> simp

@[simp] theorem offerEntry_records (tag : Half) (s : State) :
    (offerEntry tag s).tables.records = s.tables.records := by
  unfold offerEntry; (repeat' split) <;> simp

@[simp] theorem offerEntries_records (tags : List Half) (s : State) :
    (offerEntries tags s).tables.records = s.tables.records := by
  induction tags generalizing s with
  | nil => rfl
  | cons t rest ih => simp only [offerEntries]; split <;> simp [ih]

@[simp] theorem offerSide_records (side : Side) (s : State) :
    (offerSide side s).tables.records = s.tables.records := by
  cases side <;> simp [offerSide]

@[simp] theorem grantPlace_records (s : State) : (grantPlace s).tables.records = s.tables.records := by
  simp only [grantPlace]; (repeat' split) <;> simp

/-! ### Effects of commands that leave the Table Store alone -/

@[simp] theorem replyOk_tables (seq : Byte) (data : List Byte) (s : State) :
    (replyOk seq data s).tables = s.tables := rfl

@[simp] theorem replyRefusal_tables (seq : Byte) (code : ReplyCode) (s : State) :
    (replyRefusal seq code s).tables = s.tables := rfl

@[simp] theorem acceptDispatch_tables (d : DispatchFields) (lane : LaneId) (s : State) :
    (acceptDispatch d lane s).tables = s.tables := by
  unfold acceptDispatch; dsimp only; split <;> simp

@[simp] theorem takeDispatch_tables (seq : Byte) (payload : List Byte) (s : State) :
    (takeDispatch seq payload s).tables = s.tables := by
  unfold takeDispatch; (repeat' split) <;> simp

@[simp] theorem switchLanes_tables (before after : BitVec 4) (s : State) :
    (switchLanes before after s).tables = s.tables := by
  refine foldl_keeps State.tables _ (fun x n => ?_) _ _
  (repeat' split) <;> rfl

@[simp] theorem writeLaneEnable_tables (value : Word) (s : State) :
    (writeLaneEnable value s).tables = s.tables := by
  simp [writeLaneEnable]

@[simp] theorem writeTbSource_tables (value : Word) (s : State) :
    (writeTbSource value s).tables = s.tables := by
  simp only [writeTbSource, cancelSwitch, requestSwitch]; (repeat' split) <;> simp

@[simp] theorem takeGroup_tables (seq slot : Byte) (net : Half) (s : State) :
    (takeGroup seq slot net s).tables = s.tables := by
  unfold takeGroup; split <;> simp

@[simp] theorem takePanelStart_tables (seq populated xout : Byte) (s : State) :
    (takePanelStart seq populated xout s).tables = s.tables := by
  unfold takePanelStart; split <;> rfl

@[simp] theorem xoutSlot_tables (slot : Nat) (s : State) : (xoutSlot slot s).tables = s.tables := by
  simp [xoutSlot]

@[simp] theorem clearBatch_tables (s : State) : (clearBatch s).tables = s.tables := by
  simp [clearBatch]

@[simp] theorem takeBatchClear_tables (seq : Byte) (s : State) :
    (takeBatchClear seq s).tables = s.tables := by
  unfold takeBatchClear; split <;> simp

@[simp] theorem resetLane_tables (n : LaneId) (s : State) : (resetLane n s).tables = s.tables := by
  simp [resetLane]

@[simp] theorem takeMarker_tables (n : LaneId) (s : State) : (takeMarker n s).tables = s.tables := by
  unfold takeMarker; dsimp only; (repeat' split) <;> simp

@[simp] theorem failLane_tables (n : LaneId) (s : State) : (failLane n s).tables = s.tables := by
  unfold failLane; split <;> simp

@[simp] theorem walkStep_tables (s : State) : (walkStep s).tables = s.tables := by
  unfold walkStep; (repeat' split) <;> simp

@[simp] theorem walkFinish_tables (s : State) : (walkFinish s).tables = s.tables := by
  unfold walkFinish; (repeat' split) <;> simp

@[simp] theorem beginSettling_tables (g : GenId) (s : State) : (beginSettling g s).tables = s.tables := by
  unfold beginSettling; split <;> simp

@[simp] theorem finishRetune_tables (g : GenId) (s : State) : (finishRetune g s).tables = s.tables := by
  unfold finishRetune; split <;> simp

@[simp] theorem lockLoop_tables (s : State) : (lockLoop s).tables = s.tables := by
  unfold lockLoop; split <;> simp

@[simp] theorem timeoutLock_tables (s : State) : (timeoutLock s).tables = s.tables := by
  unfold timeoutLock; split <;> simp

@[simp] theorem loseSwitch_tables (s : State) : (loseSwitch s).tables = s.tables := by
  unfold loseSwitch; split <;> simp

@[simp] theorem failOver_tables (s : State) : (failOver s).tables = s.tables := by
  unfold failOver; split <;> simp

@[simp] theorem endAttn_tables (s : State) : (endAttn s).tables = s.tables := by
  unfold endAttn; split <;> rfl

@[simp] theorem endRaw_tables (s : State) : (endRaw s).tables = s.tables := by
  unfold endRaw; split <;> rfl

/-! ### Commands -/

/-- An effect leaves the records of the four tables as they are. -/
def KeepsRecords (f : State → State) : Prop := ∀ s, (f s).tables.records = s.tables.records

theorem keepsRecords_of_tables {f : State → State} (h : ∀ s, (f s).tables = s.tables) : KeepsRecords f :=
  fun s => congrArg TableStore.records (h s)

theorem KeepsRecords.takeFrame {f : State → State} (h : KeepsRecords f) : KeepsRecords (takeFrame f) := by
  intro s
  unfold Sys2Proof.Machine.takeFrame
  split
  · rfl
  · split
    · simp
    · exact h s

theorem KeepsRecords.takeSet {f : State → State} (h : KeepsRecords f) (seq : Byte) (x : Setting) :
    KeepsRecords (takeSet seq x f) :=
  KeepsRecords.takeFrame fun s => h s

theorem KeepsRecords.takeEvent {f : State → State} (h : KeepsRecords f) {dt : Nat} {s t : State}
    (ht : takeEvent dt f s = .next t) : t.tables.records = s.tables.records := by
  cases ht
  split
  · rfl
  · simp [h (elapse dt s)]

theorem KeepsRecords.takeArbitrated {f : State → State} (h : KeepsRecords f) {dt : Nat} {s t : State}
    (ht : takeArbitrated dt f s = .next t) : t.tables.records = s.tables.records := by
  cases ht
  split
  · rfl
  · simp [h (elapse dt s)]

/-- Every command but TABLE and those that can bring a reset leaves the four tables as they are (R2). -/
theorem exec_records {c : Instr} {s t : State} (hr : c.resets = false) (ht : ∀ dt seq p, c ≠ .table dt seq p)
    (h : exec c s = .next t) : t.tables.records = s.tables.records := by
  cases c with
  | powerOn _ => cases hr
  | resetPinRelease _ => cases hr
  | linkResetEffect _ => cases hr
  | replySent _ => cases hr
  | table dt seq p => exact absurd rfl (ht dt seq p)
  | resetPinAssert dt =>
    cases h
    split
    · rfl
    · simp [enterReset]
  | linkFrameError dt received =>
    simp only [exec, execLinkFrameError] at h
    refine KeepsRecords.takeEvent (keepsRecords_of_tables fun s => ?_) h
    split <;> simp
  | replyListOverflow dt =>
    simp only [exec, execReplyListOverflow] at h
    exact KeepsRecords.takeEvent (KeepsRecords.takeFrame fun _ => by rfl) h
  | unknownFrameKind dt seq kind =>
    simp only [exec, execUnknownFrameKind] at h
    refine KeepsRecords.takeEvent (fun s => ?_) h
    split
    · rfl
    · exact KeepsRecords.takeFrame (fun _ => by rfl) s
  | dispatch dt seq payload =>
    simp only [exec, execDispatch] at h
    exact KeepsRecords.takeArbitrated (keepsRecords_of_tables (by simp)).takeFrame h
  | badRequest dt seq payload =>
    simp only [exec, execBadRequest] at h
    refine KeepsRecords.takeEvent (fun s => ?_) h
    split
    · exact KeepsRecords.takeFrame (fun _ => by rfl) s
    · rfl
  | get dt seq id =>
    simp only [exec, execGet] at h
    refine KeepsRecords.takeEvent (KeepsRecords.takeFrame fun s => ?_) h
    split <;> rfl
  | setLaneEnable dt seq value =>
    simp only [exec, execSetLaneEnable] at h
    exact KeepsRecords.takeArbitrated ((keepsRecords_of_tables (by simp)).takeSet seq _) h
  | setEventDelay dt seq value =>
    simp only [exec, execSetEventDelay] at h
    exact KeepsRecords.takeEvent (KeepsRecords.takeSet (fun _ => by rfl) seq _) h
  | setRawCopy dt seq value =>
    simp only [exec, execSetRawCopy] at h
    exact KeepsRecords.takeEvent (KeepsRecords.takeSet (fun _ => by rfl) seq _) h
  | setLearnCount dt seq value =>
    simp only [exec, execSetLearnCount] at h
    exact KeepsRecords.takeEvent (KeepsRecords.takeSet (fun _ => by rfl) seq _) h
  | setDeferAge dt seq value =>
    simp only [exec, execSetDeferAge] at h
    exact KeepsRecords.takeEvent (KeepsRecords.takeSet (fun _ => by rfl) seq _) h
  | setTbSource dt seq value =>
    simp only [exec, execSetTbSource] at h
    exact KeepsRecords.takeArbitrated ((keepsRecords_of_tables (by simp)).takeSet seq _) h
  | setTbFail dt seq value =>
    simp only [exec, execSetTbFail] at h
    refine KeepsRecords.takeEvent (KeepsRecords.takeSet (fun s => ?_) seq _) h
    split <;> rfl
  | status dt seq =>
    simp only [exec, execStatus] at h
    exact KeepsRecords.takeEvent (KeepsRecords.takeFrame fun _ => by rfl) h
  | fetchEvent dt seq =>
    simp only [exec, execFetchEvent] at h
    exact KeepsRecords.takeEvent (KeepsRecords.takeFrame fun _ => by rfl) h
  | group dt seq slot net =>
    simp only [exec, execGroup] at h
    exact KeepsRecords.takeEvent (keepsRecords_of_tables (by simp)).takeFrame h
  | panelStart dt seq populated xout =>
    simp only [exec, execPanelStart] at h
    exact KeepsRecords.takeEvent (keepsRecords_of_tables (by simp)).takeFrame h
  | xout dt seq slot =>
    simp only [exec, execXout] at h
    refine KeepsRecords.takeArbitrated (KeepsRecords.takeFrame fun s => ?_) h
    split <;> simp
  | batchClear dt seq =>
    simp only [exec, execBatchClear] at h
    exact KeepsRecords.takeEvent (keepsRecords_of_tables (by simp)).takeFrame h
  | laneReset dt seq lane =>
    simp only [exec, execLaneReset] at h
    refine KeepsRecords.takeArbitrated (KeepsRecords.takeFrame fun s => ?_) h
    split <;> simp
  | linkReset dt seq =>
    simp only [exec, execLinkReset] at h
    exact KeepsRecords.takeEvent (KeepsRecords.takeFrame fun _ => by rfl) h
  | marker dt lane =>
    simp only [exec, execMarker] at h
    exact KeepsRecords.takeEvent (keepsRecords_of_tables (by simp)) h
  | silenceTimeout dt lane =>
    simp only [exec, execSilenceTimeout] at h
    exact KeepsRecords.takeArbitrated (keepsRecords_of_tables (by simp)) h
  | burst dt lane frame =>
    simp only [exec, execBurst] at h
    refine KeepsRecords.takeArbitrated (fun s => ?_) h
    unfold takeBurst
    split <;> simp
  | fault dt lane frame =>
    simp only [exec, execFault] at h
    refine KeepsRecords.takeArbitrated (fun s => ?_) h
    unfold takeFault
    split <;> simp
  | reductionComplete dt lane =>
    simp only [exec, execReductionComplete] at h
    exact KeepsRecords.takeArbitrated (completeReduction_records lane) h
  | attemptExpiry dt lane =>
    simp only [exec, execAttemptExpiry] at h
    exact KeepsRecords.takeArbitrated (expireAttempt_records lane) h
  | orderSent dt lane =>
    simp only [exec, execOrderSent] at h
    exact KeepsRecords.takeEvent (fun _ => by rfl) h
  | relabel dt =>
    simp only [exec, execRelabel] at h
    exact KeepsRecords.takeEvent (keepsRecords_of_tables walkStep_tables) h
  | walkEnd dt =>
    simp only [exec, execWalkEnd] at h
    exact KeepsRecords.takeEvent (keepsRecords_of_tables walkFinish_tables) h
  | scanStep dt =>
    simp only [exec, execScanStep] at h
    exact KeepsRecords.takeEvent (keepsRecords_of_tables scanOne_tables) h
  | deferralDeadline dt =>
    simp only [exec, execDeferralDeadline] at h
    exact KeepsRecords.takeEvent (keepsRecords_of_tables (by simp)) h
  | retuneSettleStart dt gen =>
    simp only [exec, execRetuneSettleStart] at h
    exact KeepsRecords.takeEvent (keepsRecords_of_tables (beginSettling_tables gen)) h
  | retuneComplete dt gen =>
    simp only [exec, execRetuneComplete] at h
    exact KeepsRecords.takeArbitrated (keepsRecords_of_tables (finishRetune_tables gen)) h
  | loopLock dt =>
    simp only [exec, execLoopLock] at h
    exact KeepsRecords.takeArbitrated (keepsRecords_of_tables lockLoop_tables) h
  | lockTimeout dt =>
    simp only [exec, execLockTimeout] at h
    exact KeepsRecords.takeArbitrated (keepsRecords_of_tables timeoutLock_tables) h
  | switchRefinLoss dt =>
    simp only [exec, execSwitchRefinLoss] at h
    exact KeepsRecords.takeArbitrated (keepsRecords_of_tables loseSwitch_tables) h
  | failover dt =>
    simp only [exec, execFailover] at h
    exact KeepsRecords.takeArbitrated (keepsRecords_of_tables failOver_tables) h
  | microsecondWrap dt =>
    simp only [exec, execMicrosecondWrap] at h
    exact KeepsRecords.takeEvent (fun _ => by rfl) h
  | attnSent dt =>
    simp only [exec, execAttnSent] at h
    exact KeepsRecords.takeEvent (keepsRecords_of_tables endAttn_tables) h
  | reportSent dt =>
    simp only [exec, execReportSent] at h
    refine KeepsRecords.takeArbitrated (fun s => ?_) h
    unfold endReport
    split <;> simp
  | rawFrameSent dt =>
    simp only [exec, execRawFrameSent] at h
    exact KeepsRecords.takeEvent (keepsRecords_of_tables endRaw_tables) h
  | laneFrameDiscard dt lane received =>
    simp only [exec, execLaneFrameDiscard] at h
    exact KeepsRecords.takeEvent (fun _ => by rfl) h

/-- Settles O7: of all effects only those of TABLE frames and resets reach the four tables; a decision writes offsets. -/
theorem onlyTableFramesWriteTables : Obligations.OnlyTableFramesWriteTables := by
  unfold Obligations.OnlyTableFramesWriteTables
  exact fun c s t hr ht h => TableStore.records_eq_iff.mp (exec_records hr ht h)

end Sys2Proof.Machine
end

section
/-! SUPPORT. PANEL_START and BATCH_CLEAR: the states they leave and the answers they give (R10, R17, R19, R97, R112 to R115,
R133, R134, R170, R172). -/

namespace Sys2Proof.Machine

/-- Net State with no record listed holds its initial values (R97, R100). -/
theorem netState_of_nil {s : State} (h : s.netStates = []) (slot : Nat) {net : Nat} (hn : net < 4096) :
    s.netState slot net = { state := .untested, leader := net, next := none, tail := net, count := 1 } := by
  have hmod : netIndex slot net % 4096 = net := by unfold netIndex; omega
  simp only [State.netState, h, Sparse.get, netStateInitial, hmod]

/-! ### PANEL_START -/

theorem panelBusy_iff (s : State) :
    s.panelBusy = true ↔ s.entries ≠ [] ∨ s.groups.queue ≠ [] ∨ s.groups.walk ≠ none := by
  simp [State.panelBusy, or_assoc, Option.isSome_iff_ne_none]

@[simp] theorem panelBusy_elapse (n : Nat) (s : State) : (elapse n s).panelBusy = s.panelBusy := by
  simp [State.panelBusy]

/-- Every slot below a bound is set from the masks, the others read as before. -/
theorem foldl_put_slots (populated xout : Byte) (n : Nat) :
    let t : Sparse SlotState := (List.range n).foldl
      (fun t k => Sparse.put slotInitial t k (slotFromMasks populated xout k)) []
    Sparse.wf slotInitial t = true
      ∧ ∀ slot, Sparse.get slotInitial t slot = if slot < n then slotFromMasks populated xout slot else .empty := by
  induction n with
  | zero => exact ⟨rfl, fun _ => rfl⟩
  | succ n ih =>
    obtain ⟨w, read⟩ := ih
    rw [List.range_succ, List.foldl_append]
    refine ⟨Sparse.put_wf slotInitial w n _, fun slot => ?_⟩
    refine (Sparse.get_put slotInitial w n _ slot).trans ?_
    rw [read slot]
    by_cases hs : slot = n
    · simp [hs]
    · rw [if_neg hs]
      exact if_congr (by omega) rfl rfl

theorem get_slotsFromMasks (populated xout : Byte) {slot : Nat} (h : slot < 8) :
    Sparse.get slotInitial (slotsFromMasks populated xout) slot = slotFromMasks populated xout slot :=
  ((foldl_put_slots populated xout 8).2 slot).trans (if_pos h)

theorem openPanel_sameBut (populated xout : Byte) (s : State) :
    SameBut [.board, .netStates, .groups, .sigs] s (openPanel populated xout s) := by
  refine ⟨rfl, fun x hx => ?_⟩
  cases x <;> simp_all [Block.Same, openPanel]

/-- Settles O21: the taking of PANEL_START is `openPanel` on the part that time has brought there. -/
theorem panelStartOpensPanel : Obligations.PanelStartOpensPanel := by
  unfold Obligations.PanelStartOpensPanel
  intro dt seq populated xout s hs u c
  have becomes := takeEvent_takeFrame_becomes hs dt (takePanelStart seq populated xout)
  constructor
  · intro hbusy
    have busy : u.panelBusy = true := by simpa [u] using (panelBusy_iff s).mpr hbusy
    have refused : takePanelStart seq populated xout u = u.withReply (answered kindRequest seq .busy []) := if_pos busy
    exact refused ▸ becomes
  · intro he hq hw
    have free : ¬u.panelBusy = true := by simp [u, panelBusy_iff, he, hq, hw]
    have opened : takePanelStart seq populated xout u = (openPanel populated xout u).withReply
        (answered kindRequest seq .ok (be32 (u.board.panelSequence + 1).toNat)) := if_neg free
    rw [opened] at becomes
    refine ⟨_, becomes, ?_, rfl, ?_, ?_, fun slot hslot => ?_, fun slot net hn => netState_of_nil rfl slot hn,
      ?_, ?_, ((openPanel_sameBut populated xout u).mono (by decide)).withReply (by decide) _⟩
    · simp [State.withReply, openPanel, u]
    · simp [State.withReply, openPanel, u]
    · simp [State.withReply, openPanel, u]
    · simpa only [State.withReply, State.slotAt, openPanel, slotFromMasks] using get_slotsFromMasks populated xout hslot
    · simp [State.withReply, openPanel, u]
    · simp [State.withReply, openPanel, u]

/-! ### GROUP answers of a BATCH_CLEAR (R112) -/

@[simp] theorem elapse_netState (n : Nat) (s : State) (slot net : Nat) :
    (elapse n s).netState slot net = s.netState slot net := by
  simp [State.netState]

theorem groupList_congr {a b : State} (h : a.netStates = b.netStates) (slot k : Nat) (position : Option Nat) :
    a.groupList slot k position = b.groupList slot k position := by
  induction k generalizing position with
  | zero => rfl
  | succ k ih =>
    cases position with
    | none => rfl
    | some net => simp only [State.groupList, State.netState, h, ih]

@[simp] theorem elapse_groupList (n : Nat) (s : State) (slot k : Nat) (position : Option Nat) :
    (elapse n s).groupList slot k position = s.groupList slot k position :=
  groupList_congr (elapse_netStates n s) slot k position

theorem walkOn_isNone (s : State) (slot : Nat) :
    (s.walkOn slot).isNone = !(s.groups.walk.map Walk.request).toList.any (fun r => decide (r.slot = slot)) := by
  unfold State.walkOn
  cases s.groups.walk with
  | none => rfl
  | some w => by_cases h : w.request.slot = slot <;> simp [h]

/-- The leader that a GROUP reply reports is the one the statements speak of. -/
theorem viewLeader_eq_leaderSeen (s : State) : s.viewLeader = s.leaderSeen := by
  funext slot net
  unfold State.viewLeader State.leaderSeen State.walkOn
  cases s.groups.walk with
  | none => rfl
  | some w => by_cases h : w.request.slot = slot <;> simp [h]

theorem groupData_eq_groupReply (s : State) (slot net : Nat) (incomplete : Bool) :
    groupData s slot net incomplete = s.groupReply slot net (s.leaderSeen slot net) incomplete := by
  simp only [groupData, viewLeader_eq_leaderSeen, bitIf, decide_eq_true_eq]
  rfl

/-- What a GROUP reply reports is not changed by time. -/
theorem groupReply_elapse (n : Nat) (s : State) : (elapse n s).groupReply = s.groupReply := by
  funext slot net leader incomplete
  simp [State.groupReply]

theorem leaderSeen_elapse (n : Nat) (s : State) : (elapse n s).leaderSeen = s.leaderSeen := by
  funext slot net
  simp [State.leaderSeen]

/-- The requests that a BATCH_CLEAR removes, as the statement lists them. -/
theorem openMerges_eq (s : State) : s.openMerges = (s.groups.walk.map Walk.request).toList ++ s.groups.queue := by
  unfold State.openMerges
  cases s.groups.walk <;> rfl

theorem clearIncomplete_eq (s : State) (slot : Nat) : s.clearIncomplete slot
    = (s.incompleteFlag slot || s.openMerges.any (fun r => decide (r.slot = slot))) := by
  rw [State.clearIncomplete, State.settled, walkOn_isNone, openMerges_eq, List.any_append]
  have hq : (s.groups.queue.all fun r => decide (r.slot ≠ slot))
      = !s.groups.queue.any (fun r => decide (r.slot = slot)) := by
    rw [List.not_any_eq_all_not]; simp
  rw [hq, Bool.not_and, Bool.not_not, Bool.not_not, Bool.or_comm (s.groups.queue.any _)]

/-! ### Marks and releases -/

theorem setIncomplete_incompleteFlag (k : Nat) (s : State) {slot : Nat} (h : slot < 8) :
    (setIncomplete k s).incompleteFlag slot = (s.incompleteFlag slot || decide (k = slot)) := by
  have bit : (1#8 <<< k).getLsbD slot = decide (k = slot) := by
    rw [BitVec.getLsbD_shiftLeft, Bool.eq_iff_iff]
    simp [h]
    omega
  simp [State.incompleteFlag, setIncomplete, bit]

/-- The slots of some requests are marked incomplete, and no others (R115). -/
theorem foldl_setIncomplete_incompleteFlag (l : List MergeRequest) (s : State) {slot : Nat} (h : slot < 8) :
    (l.foldl (fun s r => setIncomplete r.slot s) s).incompleteFlag slot
      = (s.incompleteFlag slot || l.any (fun r => decide (r.slot = slot))) := by
  induction l generalizing s with
  | nil => simp
  | cons r rest ih => rw [List.foldl_cons, ih, setIncomplete_incompleteFlag _ _ h, List.any_cons, Bool.or_assoc]

/-- The reports of some requests are released as UNRESOLVED, and no others (R115). -/
theorem foldl_releaseReport_reports (l : List MergeRequest) (s : State) :
    (l.foldl (fun s r => releaseReport r.report .unresolved s) s).reports
      = s.reports.released (fun id => l.any (fun r => decide (r.report = id))) .unresolved := by
  induction l generalizing s with
  | nil => simp [ReportUnit.released]
  | cons r rest ih =>
    rw [List.foldl_cons, ih]
    simp only [ReportUnit.released, releaseReport, List.map_map]
    congr 1
    refine List.map_congr_left fun e _ => ?_
    by_cases h : e.id = r.report
    · simp [Function.comp, h]
    · simp [Function.comp, h, Ne.symm h]

/-! ### The signature state of a BATCH_CLEAR (R10, R134) -/

/-- After a BATCH_CLEAR each net but 4,095 has the preset of its Net Table record as its reference, or none. -/
theorem get_presetSignatures {lo net : Nat} (hn : net < 4095) {nets : Sparse NetRecord}
    (w : Sparse.wfFrom netInitial lo nets = true) :
    Sparse.get signatureInitial (presetSignatures nets) net
      = { list := [], source := none, reference := (Sparse.get netInitial nets net).preset } := by
  induction nets generalizing lo with
  | nil => rfl
  | cons x rest ih =>
    obtain ⟨a, r⟩ := x
    simp only [Sparse.wfFrom, Bool.and_eq_true, decide_eq_true_eq] at w
    have below := Sparse.get_below netInitial (k := a) (Nat.lt_succ_self a) w.2
    have ih := ih w.2
    simp only [presetSignatures] at ih ⊢
    by_cases ha : a = net
    · subst ha
      cases hp : r.preset with
      | none => simp [hp, ih, below, netInitial, Sparse.get]
      | some p => simp [hp, hn, Sparse.get]
    · cases hp : r.preset with
      | none => simp [hp, ih, ha, Sparse.get]
      | some p => by_cases h : a < 4095 <;> simp [hp, h, ih, ha, Sparse.get]

/-! ### The statement -/

theorem clearGroups_incompleteFlag (s : State) {slot : Nat} (h : slot < 8) :
    (clearGroups s).incompleteFlag slot
      = (s.incompleteFlag slot || s.openMerges.any (fun r => decide (r.slot = slot))) := by
  rw [← foldl_setIncomplete_incompleteFlag s.openMerges s h]
  simp [clearGroups, State.incompleteFlag]

theorem clearGroups_reports (s : State) : (clearGroups s).reports
    = s.reports.released (fun id => s.openMerges.any (fun r => decide (r.report = id))) .unresolved := by
  simp [clearGroups, foldl_releaseReport_reports]

theorem clearGroups_empties (s : State) :
    (clearGroups s).groups.queue = [] ∧ (clearGroups s).groups.walk = none ∧ (clearGroups s).netStates = [] := by
  simp [clearGroups]

theorem answerAllGroups_link (flag : Nat → Bool) (s : State) : (answerAllGroups flag s).link = { s.link with
    replies := s.link.replies.map (s.groupAnswered s.leaderSeen flag) } := by
  refine congrArg (fun l => { s.link with replies := l }) (List.map_congr_left fun r _ => ?_)
  unfold State.groupAnswered
  cases h : r.answer with
  | given code data => rfl
  | waitingGroup slot net => 
    exact congrArg (fun data => { r with answer := .given .ok data }) (groupData_eq_groupReply s slot net (flag slot))

/-- The state that a BATCH_CLEAR hands to the boards: the GROUPs answered, the next batch begun, the panel closed. -/
def batchBegun (s : State) : State :=
  { answerAllGroups s.clearIncomplete s with
    board := { s.board with batch := s.board.batch + 1, panelOpen := false } }

theorem clearBatch_eq (s : State) : clearBatch s = clearSignatures (clearGroups (batchBegun s)) := rfl

theorem batchBegun_sameBut (s : State) : SameBut [.board, .link] s (batchBegun s) := by
  refine ⟨rfl, fun x hx => ?_⟩
  cases x <;> simp_all [Block.Same, batchBegun]

theorem clearGroups_sameBut (s : State) : SameBut [.netStates, .groups, .reports] s (clearGroups s) := by
  refine ⟨by simp, fun x hx => ?_⟩
  cases x <;> simp_all [Block.Same]

theorem clearSignatures_sameBut (s : State) : SameBut [.sigs] s (clearSignatures s) := by
  refine ⟨by simp, fun x hx => ?_⟩
  cases x <;> simp_all [Block.Same]

theorem clearBatch_sameBut (s : State) :
    SameBut [.board, .netStates, .groups, .sigs, .reports, .link] s (clearBatch s) := by
  have h1 := (batchBegun_sameBut s).mono (l' := [.board, .netStates, .groups, .sigs, .reports, .link]) (by decide)
  have h2 := (clearGroups_sameBut (batchBegun s)).mono
    (l' := [.board, .netStates, .groups, .sigs, .reports, .link]) (by decide)
  have h3 := (clearSignatures_sameBut (clearGroups (batchBegun s))).mono
    (l' := [.board, .netStates, .groups, .sigs, .reports, .link]) (by decide)
  exact (h1.trans h2).trans h3

/-- Settles O24: BATCH_CLEAR answers the GROUPs first, from the groups as they stand, and then clears board by board. -/
theorem batchClearEmptiesBatch : Obligations.BatchClearEmptiesBatch := by
  unfold Obligations.BatchClearEmptiesBatch
  intro dt seq s hs hcan u removed marked
  have becomes := takeEvent_takeFrame_becomes hs dt (takeBatchClear seq)
  obtain ⟨-, wnets, -⟩ := State.canonical_tables hcan
  constructor
  · intro he
    have busy : (!u.entries.isEmpty) = true := by simpa [u] using he
    have refused : takeBatchClear seq u = u.withReply (answered kindRequest seq .busy []) := if_pos busy
    rw [refused] at becomes
    exact becomes
  · intro he
    have free : ¬(!u.entries.isEmpty) = true := by simp [u, he]
    have cleared : takeBatchClear seq u = (clearBatch u).withReply
        (answered kindRequest seq .ok (be16 (clearBatch u).board.batch.toNat)) := if_neg free
    have hmerges : (batchBegun u).openMerges = removed := by simp [openMerges_eq, batchBegun, removed, u]
    have hflag : ∀ slot, (batchBegun u).incompleteFlag slot = s.incompleteFlag slot := by
      simp [batchBegun, State.incompleteFlag, u]
    have hmarked : u.clearIncomplete = marked := by
      funext slot
      rw [clearIncomplete_eq, openMerges_eq]
      simp [u, State.incompleteFlag, marked, removed]
    have hboard : (clearBatch u).board = { s.board with batch := s.board.batch + 1, panelOpen := false } := by
      simp [clearBatch_eq, batchBegun, u]
    obtain ⟨hqueue, hwalk, hnets⟩ := clearGroups_empties (batchBegun u)
    have hanswered : u.groupAnswered = s.groupAnswered := by
      funext leader incomplete r
      simp only [State.groupAnswered, u, groupReply_elapse]
    rw [cleared] at becomes
    refine ⟨_, becomes, ?_, hboard, fun slot net hn => netState_of_nil ?_ slot hn, ?_, ?_, fun slot hslot => ?_, ?_,
      fun net hn => ?_, ?_, ?_, ?_, rfl, rfl, rfl, (clearBatch_sameBut u).withReply (by decide) _⟩
    · simp only [State.withReply, hboard]
      simp [clearBatch_eq, batchBegun, answerAllGroups_link, hmarked, hanswered, u, leaderSeen_elapse]
    · simpa [State.withReply, clearBatch_eq] using hnets
    · simpa [State.withReply, clearBatch_eq] using hqueue
    · simpa [State.withReply, clearBatch_eq] using hwalk
    · have flag := clearGroups_incompleteFlag (batchBegun u) hslot
      rw [hflag, hmerges] at flag
      simpa [State.withReply, clearBatch_eq, State.incompleteFlag, marked] using flag
    · have reports := clearGroups_reports (batchBegun u)
      rw [hmerges, show (batchBegun u).reports = u.reports from rfl] at reports
      simpa [State.withReply, clearBatch_eq] using reports
    · have tables : (batchBegun u).tables = s.tables := by simp [batchBegun, u]
      have refs := get_presetSignatures hn wnets
      simpa [State.withReply, clearBatch_eq, clearSignatures, State.signature, State.netAt, tables] using refs
    · simp [State.withReply, clearBatch_eq, clearSignatures, batchBegun, u]
    · simp [State.withReply, clearBatch_eq, clearSignatures, batchBegun, u]
    · simp [State.withReply, clearBatch_eq, clearSignatures, batchBegun, u]

end Sys2Proof.Machine
end

section
/-! SUPPORT. XOUT and the SKIP at the end of an attempt: entries by tag, order lists with nothing QUEUED, the fixing of one
entry's outcome, and events after which the arbiter has nothing to do (R18, R35, R36, R39, R40, R44, R84, R171). -/

namespace Sys2Proof.Machine

/-! ### Entries by tag -/

/-- Of entries with distinct tags, those that share one's tag are that one. -/
theorem eq_of_tag_eq {l : List Entry} (hnd : (l.map Entry.tag).Nodup) {x y : Entry} (hx : x ∈ l) (hy : y ∈ l)
    (h : y.tag = x.tag) : y = x :=
  List.inj_on_of_nodup_map hnd hy hx h

/-- Of entries with distinct tags, one has a given one's tag. -/
theorem map_tag_filter {l : List Entry} (hnd : (l.map Entry.tag).Nodup) {x : Entry} (hx : x ∈ l) :
    (l.filter (fun y => decide (y.tag = x.tag))).map Entry.tag = [x.tag] := by
  induction l with
  | nil => cases hx
  | cons y rest ih =>
    obtain ⟨hy, hrest⟩ := List.nodup_cons.mp hnd
    rcases List.mem_cons.mp hx with rfl | hx
    · have hnone : rest.filter (fun z => decide (z.tag = x.tag)) = [] :=
        List.filter_eq_nil_iff.mpr fun z hz => by
          simpa using fun h : z.tag = x.tag => hy (h ▸ List.mem_map_of_mem hz)
      simp [hnone]
    · have hne : y.tag ≠ x.tag := fun h => hy (h ▸ List.mem_map_of_mem hx)
      simpa [hne] using ih hrest hx

theorem entry?_of_mem {s : State} (hnd : (s.entries.map Entry.tag).Nodup) {x : Entry} (hx : x ∈ s.entries) :
    s.entry? x.tag = some x := by
  unfold State.entry?
  cases h : s.entries.find? (fun e => e.tag == x.tag) with
  | none => simpa using List.find?_eq_none.mp h x hx
  | some y =>
    have htag : y.tag = x.tag := by simpa using List.find?_some h
    rw [eq_of_tag_eq hnd hx (List.mem_of_find?_eq_some h) htag]

theorem modifyEntry_tags {f : Entry → Entry} (hf : ∀ e, (f e).tag = e.tag) (s : State) (tag : Half) :
    (s.modifyEntry tag f).entries.map Entry.tag = s.entries.map Entry.tag := by
  simp only [State.modifyEntry, List.map_map]
  refine List.map_congr_left fun e _ => ?_
  simp only [Function.comp]
  split
  · exact hf e
  · rfl

theorem mem_modifyEntry {f : Entry → Entry} {s : State} {x : Entry} (hx : x ∈ s.entries) :
    f x ∈ (s.modifyEntry x.tag f).entries :=
  List.mem_map.mpr ⟨x, hx, if_pos rfl⟩

/-- A changed entry that leaves the table leaves no trace there. -/
theorem removeEntry_modifyEntry {f : Entry → Entry} (hf : ∀ e, (f e).tag = e.tag) (s : State) (tag : Half) :
    (s.modifyEntry tag f).removeEntry tag = s.removeEntry tag := by
  have kept : (s.entries.map (fun e => if e.tag = tag then f e else e)).filter (fun e => e.tag != tag)
      = s.entries.filter (fun e => e.tag != tag) := by
    induction s.entries with
    | nil => rfl
    | cons e rest ih =>
      by_cases h : e.tag = tag
      · simpa [h, hf] using ih
      · simpa [h] using ih
  exact congrArg (fun l => { s with entries := l }) kept

theorem without_eq_removeEntry (s : State) (tag : Half) : s.without tag = s.removeEntry tag := by
  simp [State.without, State.removeEntry, bne, Bool.beq_eq_decide_eq]

/-- No entry is QUEUED: no head can advance (R26). -/
def State.NoneQueued (s : State) : Prop := ∀ e ∈ s.entries, e.state ≠ .queued

theorem modifyEntry_noneQueued {f : Entry → Entry} {s : State} {tag : Half} (h : s.NoneQueued)
    (hf : ∀ e, (f e).state ≠ .queued) : (s.modifyEntry tag f).NoneQueued := by
  intro e he
  obtain ⟨x, hx, rfl⟩ := List.mem_map.mp he
  split
  · exact hf x
  · exact h x hx

theorem advanceHead_of_noneQueued {s : State} (h : s.NoneQueued) (n : LaneId) : advanceHead n s = s := by
  unfold advanceHead
  split
  · rfl
  · rename_i e rest he
    have hmem : e ∈ s.entries := List.mem_of_mem_filter (he ▸ List.mem_cons_self : e ∈ s.orderList n)
    exact if_neg (h e hmem)

theorem advanceHeads_of_noneQueued {s : State} (h : s.NoneQueued) : advanceHeads s = s := by
  simp [advanceHeads, allLanes, advanceHead_of_noneQueued h]

/-! ### Fixing outcomes (R36) -/

/-- Where no entry's outcome is to be fixed and none is QUEUED, nothing happens. -/
theorem fixEntries_of_none {p : Entry → Bool} {s : State} (h : s.NoneQueued) (hp : ∀ e ∈ s.entries, p e = false)
    (o : FixedOutcome) : fixEntries p o s = s := by
  have tags : s.entries.filter (fun e => e.outcome.isNone && p e) = [] := by
    simp +contextual [hp]
  have kept : s.entries.map (fun e => if e.outcome.isNone && p e then e.fix o else e) = s.entries := by
    refine (List.map_congr_left fun e he => ?_).trans (List.map_id _)
    simp [hp e he]
  unfold fixEntries
  rw [tags, kept]
  exact advanceHeads_of_noneQueued h

/-- An entry releases its generator, with no switch that the release could let change the source (R35, R138). -/
theorem releaseGen_eq {s : State} (hnd : (s.entries.map Entry.tag).Nodup) {x : Entry} (hx : x ∈ s.entries)
    (hp : x.gen = none ∨ s.tb.pendingSwitch = none) :
    releaseGen x.tag s = { s.modifyEntry x.tag (fun y => { y with gen := none }) with
      gens := releasedGens s.gens x.gen } := by
  simp only [releaseGen, entry?_of_mem hnd hx]
  cases hg : x.gen with
  | none =>
    have same : s.entries.map (fun y => if y.tag = x.tag then { y with gen := none } else y) = s.entries := by
      refine (List.map_congr_left fun y hy => ?_).trans (List.map_id _)
      split
      · rename_i ht
        rw [eq_of_tag_eq hnd hx hy ht]
        simp [← hg]
      · rfl
    simp only [State.modifyEntry, same, releasedGens]
  | some g =>
    have hnone : s.tb.pendingSwitch = none := hp.resolve_left (by simp [hg])
    have unchanged : ∀ a : State, a.tb = s.tb → (if (a.gen g).users = 0 then checkSwitch a else a) = a := by
      intro a ha
      simp [checkSwitch, ha, hnone]
    exact unchanged _ rfl

/-- An entry with a fixed outcome retires into a free place (R36, R44). -/
theorem retireFixed_eq {s : State} (hnd : (s.entries.map Entry.tag).Nodup) {x : Entry} (hx : x ∈ s.entries)
    {o : FixedOutcome} (ho : x.outcome = some o) (hfree : s.reportFree = true) :
    retireFixed x.tag s = (placeReport
      (x.report (s.stepOf x) s.now .verdict (some o.verdict) o.cause none false false .absent) false s).removeEntry
        x.tag := by
  simp [retireFixed, entry?_of_mem hnd hx, ho, hfree]

/-- An entry as its outcome is fixed as SKIP (R36). -/
def State.skipFixed (s : State) (x : Entry) : State := s.modifyEntry x.tag (fun y => y.fix .skip)

/-- An entry that has been fixed as SKIP and has released its generator (R36). -/
def State.skipReleased (s : State) (x : Entry) : State :=
  { (s.skipFixed x).modifyEntry x.tag (fun y => { y with gen := none }) with gens := releasedGens s.gens x.gen }

/-- The part with the SKIP report of an entry placed and its generator released, the entry still in the table (R35). -/
def State.skipReported (s : State) (x : Entry) : State :=
  { s.withReport
      (dispatchReport x (s.stepOf x).exponent s.now .verdict (some .skip) none none false false .absent) false with
    gens := releasedGens s.gens x.gen }

section
variable {s : State} (hnd : (s.entries.map Entry.tag).Nodup) {x : Entry}
include hnd

theorem skipFixed_nodup : ((s.skipFixed x).entries.map Entry.tag).Nodup :=
  (modifyEntry_tags (f := fun y => y.fix .skip) (fun _ => rfl) s x.tag).symm ▸ hnd

theorem skipReleased_nodup : ((s.skipReleased x).entries.map Entry.tag).Nodup :=
  (modifyEntry_tags (f := fun y => { y with gen := none }) (fun _ => rfl) (s.skipFixed x) x.tag).symm ▸
    skipFixed_nodup hnd

variable (hx : x ∈ s.entries)
include hx

/-- With nothing QUEUED behind it, a SKIP fixes the entry, releases its generator and retires it. -/
theorem skipEntry_steps (ho : x.outcome = none) (hq : s.NoneQueued) :
    skipEntry x.tag s = retireFixed x.tag (releaseGen x.tag (s.skipFixed x)) := by
  have only : ∀ y ∈ s.entries, (y.outcome.isNone && y.tag == x.tag) = decide (y.tag = x.tag) := by
    intro y hy
    by_cases ht : y.tag = x.tag
    · simp [eq_of_tag_eq hnd hx hy ht, ho]
    · simp [ht]
  have tags : (s.entries.filter (fun y => y.outcome.isNone && y.tag == x.tag)).map Entry.tag = [x.tag] := by
    rw [List.filter_congr only]
    exact map_tag_filter hnd hx
  have fixed : ({ s with entries := s.entries.map (fun y =>
      if y.outcome.isNone && y.tag == x.tag then y.fix .skip else y) } : State) = s.skipFixed x := by
    refine congrArg (fun l => { s with entries := l }) (List.map_congr_left fun y hy => ?_)
    simp only [only y hy, decide_eq_true_eq]
  have heads : advanceHeads (s.skipFixed x) = s.skipFixed x :=
    advanceHeads_of_noneQueued (modifyEntry_noneQueued hq fun _ h => nomatch h)
  simp only [skipEntry, fixEntries]
  rw [tags, fixed, heads, List.foldl_cons, List.foldl_nil, List.foldl_cons, List.foldl_nil]

/-- The outcome of one entry is fixed as SKIP with a place free: its report is placed in the same event, and it leaves with
its generator released (R35, R36, R44). -/
theorem skipEntry_eq (ho : x.outcome = none) (hq : s.NoneQueued)
    (hp : x.gen = none ∨ s.tb.pendingSwitch = none) (hfree : s.reportFree = true) :
    skipEntry x.tag s = (s.withReport
      (dispatchReport x (s.stepOf x).exponent s.now .verdict (some .skip) none none false false .absent) false).retiring
        x := by
  have released : releaseGen x.tag (s.skipFixed x) = s.skipReleased x :=
    releaseGen_eq (x := x.fix .skip) (skipFixed_nodup hnd) (mem_modifyEntry (f := fun y => y.fix .skip) hx) hp
  have hmem : ({ x.fix .skip with gen := none } : Entry) ∈ (s.skipReleased x).entries :=
    mem_modifyEntry (s := s.skipFixed x) (f := fun y => { y with gen := none })
      (mem_modifyEntry (f := fun y => y.fix .skip) hx)
  have retired := retireFixed_eq (skipReleased_nodup hnd) hmem (o := .skip) rfl hfree
  rw [skipEntry_steps hnd hx ho hq, released]
  refine retired.trans ?_
  calc _ = (((s.skipReported x).skipFixed x).modifyEntry x.tag (fun y => { y with gen := none })).removeEntry x.tag := rfl
    _ = ((s.skipReported x).skipFixed x).removeEntry x.tag :=
      removeEntry_modifyEntry (f := fun y => { y with gen := none }) (fun _ => rfl) _ _
    _ = (s.skipReported x).removeEntry x.tag := removeEntry_modifyEntry (f := fun y => y.fix .skip) (fun _ => rfl) _ _
    _ = (s.skipReported x).without x.tag := (without_eq_removeEntry _ _).symm

end

/-! ### The end of an attempt in SKIP (R39, R84) -/

/-- An entry whose attempt has ended (R29). -/
def Entry.ended (e : Entry) : Entry := { e with state := .judging, deadline := none }

/-- An entry whose attempt has ended in a trigger (R31). -/
def Entry.triggered (t : Trigger) (e : Entry) : Entry := { e.ended with trigger := some t }

/-- An attempt's end gives SKIP: its entry is marked, or a trigger with budget left meets an XOUT slot (R39, R84). -/
def State.EndsInSkip (s : State) (e : Entry) (how : AttemptEnd) : Prop :=
  e.xoutMark = true ∨ (e.xoutMark = false ∧ (∃ t, triggerOf (s.stepOf e) e how = some t)
    ∧ e.attempt < (s.stepOf e).retryLimit + 1 ∧ s.slotAt e.slot = .xout)

theorem triggerOf_ended (st : StepRecord) (e : Entry) (how : AttemptEnd) :
    triggerOf st e.ended how = triggerOf st e how := by
  cases how <;> rfl

/-- A trigger with budget left on an XOUT slot decides SKIP (R84). -/
theorem decideEntry_skip {s : State} (hnd : (s.entries.map Entry.tag).Nodup) {x : Entry} (hx : x ∈ s.entries)
    {t : Trigger} (ht : x.trigger = some t) (hstate : x.state = .judging) (ho : x.outcome = none)
    (hbudget : x.attempt < (s.stepOf x).retryLimit + 1) (hslot : s.slotAt x.slot = .xout) :
    decideEntry x.tag s = skipEntry x.tag s := by
  have ready : x.ready = true := by simp [Entry.ready, ht, hstate, ho]
  simp [decideEntry, entry?_of_mem hnd hx, ready, decision, ht, retryOr, budgetRemains, hbudget, hslot, carryOut]

/-- A retiring entry leaves no trace of a change that kept its tag. -/
theorem retiring_modifyEntry {f : Entry → Entry} (hf : ∀ y, (f y).tag = y.tag) (s : State) {x : Entry}
    (hg : (f x).gen = x.gen) : (s.modifyEntry x.tag f).retiring (f x) = s.retiring x := by
  simp only [State.retiring, hg, hf, without_eq_removeEntry]
  exact removeEntry_modifyEntry hf { s with gens := releasedGens s.gens x.gen } x.tag

theorem modifyEntry_modifyEntry {f g : Entry → Entry} (hf : ∀ y, (f y).tag = y.tag) (s : State) (tag : Half) :
    (s.modifyEntry tag f).modifyEntry tag g = s.modifyEntry tag (fun y => g (f y)) := by
  refine congrArg (fun l => { s with entries := l }) ?_
  simp only [State.modifyEntry, List.map_map]
  refine List.map_congr_left fun y _ => ?_
  by_cases h : y.tag = tag <;> simp [h, hf]

/-- The SKIP of an entry that has been changed meanwhile in nothing that its report or its retirement reads. -/
theorem skipEntry_modifyEntry {f : Entry → Entry} (hf : ∀ y, (f y).tag = y.tag) (hstate : ∀ y, (f y).state ≠ .queued)
    {s : State} {x : Entry} (hnd : (s.entries.map Entry.tag).Nodup) (hx : x ∈ s.entries) (hg : (f x).gen = x.gen)
    (ho : (f x).outcome = none) (hstep : (f x).step = x.step)
    (hreport : ∀ exponent now, dispatchReport (f x) exponent now .verdict (some .skip) none none false false .absent
      = dispatchReport x exponent now .verdict (some .skip) none none false false .absent)
    (hq : s.NoneQueued) (hp : x.gen = none ∨ s.tb.pendingSwitch = none) (hfree : s.reportFree = true) :
    skipEntry x.tag (s.modifyEntry x.tag f) = (s.withReport
      (dispatchReport x (s.stepOf x).exponent s.now .verdict (some .skip) none none false false .absent) false).retiring
        x := by
  have hnd' : ((s.modifyEntry x.tag f).entries.map Entry.tag).Nodup := (modifyEntry_tags hf s x.tag).symm ▸ hnd
  have hstepOf : (s.modifyEntry x.tag f).stepOf (f x) = s.stepOf x := by
    simp [State.stepOf, State.stepAt, hstep]
  have skipped := skipEntry_eq hnd' (mem_modifyEntry hx) ho (modifyEntry_noneQueued hq hstate) (hg ▸ hp) hfree
  rw [hf, hstepOf, hreport] at skipped
  exact skipped.trans (retiring_modifyEntry hf (s.withReport _ false) hg)

section
variable {s : State} {n : LaneId} {e : Entry} {number : Nat} (hnd : (s.entries.map Entry.tag).Nodup)
  (he : e ∈ s.entries) (ho : e.outcome = none) (hq : s.NoneQueued)
  (hp : e.gen = none ∨ s.tb.pendingSwitch = none) (hfree : s.reportFree = true)
  (hopen : (s.lane n).openAttempt = some { tag := e.tag, attempt := number })

/-- The part after the SKIP of an entry whose attempt of a lane has ended. -/
def State.attemptSkipped (s : State) (n : LaneId) (e : Entry) (number : Nat) : State :=
  ({ s with lanes := s.lanes.set n { s.lane n with
      lastClosed := some { tag := e.tag, attempt := number }
      openAttempt := none
      selection := none } }.withReport
    (dispatchReport e (s.stepOf e).exponent s.tb.microseconds .verdict (some .skip) none none false
      false .absent) false).retiring e

include hopen in
theorem closeAttempt_eq : closeAttempt n s = { s with lanes := s.lanes.set n { s.lane n with
    lastClosed := some { tag := e.tag, attempt := number }
    openAttempt := none
    selection := none } } := by
  have hopen' : (s.lanes.get n).openAttempt = some { tag := e.tag, attempt := number } := hopen
  simp only [closeAttempt, State.modifyLane, hopen']
  rfl

include hnd he in
theorem entry?_ended : ((closeAttempt n s).modifyEntry e.tag
    (fun y => { y with state := .judging, deadline := none })).entry? e.tag = some e.ended :=
  entry?_of_mem ((modifyEntry_tags (f := Entry.ended) (fun _ => rfl) (closeAttempt n s) e.tag).symm ▸ hnd)
    (mem_modifyEntry (f := Entry.ended) (s := closeAttempt n s) he)

include hnd he in
theorem endAttempt_marked (hmark : e.xoutMark = true) (how : AttemptEnd) :
    endAttempt n e.tag how s = skipEntry e.tag ((closeAttempt n s).modifyEntry e.tag Entry.ended) := by
  simp only [endAttempt, entry?_ended hnd he]
  exact if_pos hmark

include hnd he in
theorem endAttempt_triggered (hmark : e.xoutMark = false) {how : AttemptEnd} {t : Trigger}
    (ht : triggerOf (s.stepOf e) e how = some t) :
    endAttempt n e.tag how s = tryDecide e.tag ((closeAttempt n s).modifyEntry e.tag (Entry.triggered t)) := by
  have found : triggerOf (((closeAttempt n s).modifyEntry e.tag
      (fun y => { y with state := .judging, deadline := none })).stepOf e.ended) e.ended how = some t :=
    (triggerOf_ended _ e how).trans ht
  simp only [endAttempt, entry?_ended hnd he]
  rw [if_neg (by simp [Entry.ended, hmark]), found]
  exact congrArg (tryDecide e.tag) (modifyEntry_modifyEntry (f := Entry.ended) (fun _ => rfl) (closeAttempt n s) e.tag)

include hnd he ho hq hp hfree hopen in
/-- An attempt that ends in SKIP: its report is placed in the same event and its entry leaves (R35, R36, R39, R40, R44,
R84). -/
theorem endAttempt_skip {how : AttemptEnd} (hskip : s.EndsInSkip e how) :
    endAttempt n e.tag how s = s.attemptSkipped n e number := by
  have target : s.attemptSkipped n e number = ((closeAttempt n s).withReport
      (dispatchReport e (s.stepOf e).exponent s.now .verdict (some .skip) none none false false .absent)
        false).retiring e := by
    rw [closeAttempt_eq hopen]; rfl
  rw [target]
  rcases hskip with hmark | ⟨hmark, ⟨t, ht⟩, hbudget, hslot⟩
  · rw [endAttempt_marked hnd he hmark]
    exact skipEntry_modifyEntry (s := closeAttempt n s) (f := Entry.ended) (fun _ => rfl) (fun _ h => nomatch h) hnd he
      rfl ho rfl (fun _ _ => rfl) hq hp hfree
  · have decided : tryDecide e.tag ((closeAttempt n s).modifyEntry e.tag (Entry.triggered t))
        = skipEntry e.tag ((closeAttempt n s).modifyEntry e.tag (Entry.triggered t)) :=
      (if_pos hfree).trans (decideEntry_skip (x := e.triggered t) (t := t)
        ((modifyEntry_tags (f := Entry.triggered t) (fun _ => rfl) (closeAttempt n s) e.tag).symm ▸ hnd)
        (mem_modifyEntry (s := closeAttempt n s) he) rfl rfl ho hbudget hslot)
    rw [endAttempt_triggered hnd he hmark ht, decided]
    exact skipEntry_modifyEntry (s := closeAttempt n s) (f := Entry.triggered t) (fun _ => rfl) (fun _ h => nomatch h) hnd
      he rfl ho rfl (fun _ _ => rfl) hq hp hfree

end

/-! ### Events after which the arbiter has nothing to do (R139) -/

/-- An event in which no pass is called for, or whose pass serves no one, is taken as its effect alone. -/
theorem takeArbitrated_becomes_of_idle {s : State} (h : s.resetLow = false) (dt : Nat) (f : State → State)
    (k : passTriggered (elapse dt s) (f (elapse dt s)) = false ∨ (f (elapse dt s)).waiting = []) :
    Becomes (takeArbitrated dt f s) (f (elapse dt s)) := by
  cases hpass : passTriggered (elapse dt s) (f (elapse dt s)) with
  | false => exact takeArbitrated_becomes h dt f hpass
  | true =>
    have hwait := k.resolve_left (by simp [hpass])
    have idle : arbiterPass (f (elapse dt s)) = f (elapse dt s) := by
      unfold arbiterPass
      split
      · rfl
      · rw [hwait]; rfl
    exact idle ▸ takeArbitrated_passes h dt f hpass

/-- An entry that does not wait for excitation leaves those that do. -/
theorem waiting_without {s : State} (hnd : (s.entries.map Entry.tag).Nodup) {e : Entry} (he : e ∈ s.entries)
    (hstate : e.state ≠ .waitExc) : (s.without e.tag).waiting = s.waiting := by
  simp only [State.waiting, State.without, List.filter_filter]
  refine List.filter_congr fun x hx => ?_
  by_cases ht : x.tag = e.tag
  · simp [eq_of_tag_eq hnd he hx ht, hstate]
  · simp [ht]

/-! ### The statement -/

/-- XOUT of a slot with nothing to fix sets the slot and the marks (R18, R39). -/
theorem xoutSlot_eq {s : State} {slot : Nat} (hq : s.NoneQueued)
    (hw : ∀ e ∈ s.entries, e.slot = slot → e.state ≠ .waitExc) :
    xoutSlot slot s = { s with
      board := { s.board with slots := s.board.slots.put slotInitial slot .xout }
      entries := s.entries.map (fun e =>
        if e.slot = slot ∧ e.state = .forwarded then { e with xoutMark := true } else e) } := by
  have unfixed : ∀ e ∈ s.entries.map (fun e =>
      if e.slot = slot ∧ e.state = .forwarded then { e with xoutMark := true } else e),
      e.state ≠ .queued ∧ (e.slot = slot → e.state ≠ .waitExc) := by
    intro e he
    obtain ⟨x, hx, rfl⟩ := List.mem_map.mp he
    split
    · rename_i h
      simp [h.2]
    · exact ⟨hq x hx, hw x hx⟩
  refine fixEntries_of_none (fun e he => (unfixed e he).1) (fun e he => ?_) .skip
  obtain ⟨h1, h2⟩ := unfixed e he
  by_cases hslot : e.slot = slot <;> simp [hslot, h1, h2]

/-- A mark leaves the waiting entries as they are. -/
theorem waiting_marked (l : List Entry) (slot : Nat) :
    (l.map (fun e => if e.slot = slot ∧ e.state = .forwarded then { e with xoutMark := true } else e)).filter
      (fun e => decide (e.state = .waitExc)) = l.filter (fun e => decide (e.state = .waitExc)) := by
  induction l with
  | nil => rfl
  | cons e rest ih =>
    by_cases h : e.slot = slot ∧ e.state = .forwarded
    · simpa [h] using ih
    · by_cases hw : e.state = .waitExc <;> simpa [h, hw] using ih

/-- An XOUT with nothing to fix, and the refusal of a slot above 7 (R171). -/
theorem xout_marks (dt : Nat) (seq slot : Byte) (s : State) (hs : s.TakesFrames) :
    let u := elapse dt s
    (7 < slot.toNat →
      Becomes (exec (.xout dt seq slot) s) (u.withReply (answered kindRequest seq .badRequest [])))
    ∧ (slot.toNat ≤ 7 → (∀ e ∈ s.entries, e.state ≠ .queued) →
        (∀ e ∈ s.entries, e.slot = slot.toNat → e.state ≠ .waitExc) →
        BecomesSome (exec (.xout dt seq slot) s) fun t =>
          t.link = { u.link with replies := s.link.replies ++ [answered kindRequest seq .ok []] }
          ∧ (∀ k, s.board.slots.wf slotInitial = true →
              t.slotAt k = if k = slot.toNat then .xout else s.slotAt k)
          ∧ t.board = { s.board with slots := t.board.slots }
          ∧ t.entries = s.entries.map (fun e =>
              if e.slot = slot.toNat ∧ e.state = .forwarded then { e with xoutMark := true } else e)
          ∧ SameBut [.board, .entries, .link] u t) := by
  intro u
  obtain ⟨hlow, hrecv, hroom⟩ := hs
  have taken : ∀ f, takeFrame f u = f u := takeFrame_taken (by simpa [u]) (by simpa [u])
  constructor
  · intro hslot
    have effect : takeFrame (fun s => if 7 < slot.toNat then replyRefusal seq .badRequest s
        else replyOk seq [] (xoutSlot slot.toNat s)) u = u.withReply (answered kindRequest seq .badRequest []) :=
      (taken _).trans (if_pos hslot)
    exact effect ▸ takeArbitrated_becomes_of_idle hlow dt _
      (Or.inl (effect.symm ▸ passTriggered_of_same rfl (fun _ => rfl) (fun _ => rfl) rfl))
  · intro hslot hq hw
    have marked : xoutSlot slot.toNat u = _ :=
      xoutSlot_eq (by simpa [u, State.NoneQueued] using hq) (by simpa [u] using hw)
    have effect : takeFrame (fun s => if 7 < slot.toNat then replyRefusal seq .badRequest s
        else replyOk seq [] (xoutSlot slot.toNat s)) u
          = (xoutSlot slot.toNat u).withReply (answered kindRequest seq .ok []) :=
      (taken _).trans (if_neg (by omega))
    rw [marked] at effect
    have becomes := takeArbitrated_becomes_of_idle hlow dt (takeFrame (fun s =>
        if 7 < slot.toNat then replyRefusal seq .badRequest s else replyOk seq [] (xoutSlot slot.toNat s)))
      (Or.inl (effect.symm ▸
        passTriggered_of_same (waiting_marked u.entries slot.toNat) (fun _ => rfl) (fun _ => rfl) rfl))
    rw [show takeFrame _ (elapse dt s) = _ from effect] at becomes
    refine ⟨_, becomes, ?_, fun k w => ?_, ?_, ?_, rfl, fun x hx => ?_⟩
    · simp [State.withReply, u]
    · simpa [State.withReply, State.slotAt, u] using Sparse.get_put slotInitial w slot.toNat .xout k
    · simp [State.withReply, u]
    · simp [State.withReply, u]
    · cases x <;> simp_all [Block.Same, State.withReply]

theorem takeAnswer_delivered {s : State} {n : LaneId} {x : AttemptId} (hup : (s.lane n).state = .up)
    (hopen : (s.lane n).openAttempt = some x) (how : AttemptEnd) : takeAnswer n x how s = endAttempt n x.tag how s := by
  simp [takeAnswer, hup, Lane.classify, hopen]

theorem expireAttempt_reached {s : State} {n : LaneId} {x : AttemptId} {e : Entry} {d : Word}
    (hopen : (s.lane n).openAttempt = some x) (he : s.entry? x.tag = some e) (hd : e.deadline = some d)
    (hstate : e.state = .forwarded) (hreach : (s.now - d).toNat < 2147483648) :
    expireAttempt n s = endAttempt n x.tag .expiry s := by
  simp only [expireAttempt, hopen, he, hd]
  exact if_pos ⟨hstate, decide_eq_true hreach⟩

/-- The conditions on a good BURST in which the DU finds a trigger (R31). -/
theorem triggerOf_answered {st : StepRecord} {e : Entry} {f : BurstFrame}
    (h : f.contact.getLsbD 0 = true ∨ f.contact.getLsbD 1 = true ∨ f.pairCount.toNat ≠ st.samples
      ∨ e.tbFault = true) : ∃ t, triggerOf st e (.answered f) = some t := by
  by_cases hc : (f.contact.getLsbD 0 || f.contact.getLsbD 1) = true
  · exact ⟨.contact, if_pos hc⟩
  · by_cases hp : f.pairCount.toNat ≠ st.samples
    · exact ⟨.burstBad, (if_neg hc).trans (if_pos hp)⟩
    · have htb : e.tbFault = true := by
        rw [Bool.or_eq_true, not_or] at hc
        exact ((h.resolve_left hc.1).resolve_left hc.2).resolve_left hp
      exact ⟨.tbFault, (if_neg hc).trans ((if_neg hp).trans (if_pos htb))⟩

/-- Whatever ends the attempt of an entry that gets SKIP, the arbiter has nothing to do after it (R139): the entry does not
wait, and with a generator to release nobody waits. -/
theorem attemptSkipped_idle {s : State} (hnd : (s.entries.map Entry.tag).Nodup) {e : Entry} (he : e ∈ s.entries)
    (hstate : e.state = .forwarded) (hg : e.gen = none ∨ s.waiting = []) (n : LaneId) (number : Nat) :
    passTriggered s (s.attemptSkipped n e number) = false ∨ (s.attemptSkipped n e number).waiting = [] := by
  have waits : (s.attemptSkipped n e number).waiting = s.waiting :=
    waiting_without (s := s) hnd he (by simp [hstate])
  rcases hg with hnone | hempty
  · have gens : (s.attemptSkipped n e number).gens = s.gens := congrArg (releasedGens s.gens) hnone
    exact Or.inl (passTriggered_of_same waits (fun g => by rw [State.gen, gens]; rfl)
      (fun g => by rw [State.gen, gens]; rfl) rfl)
  · exact Or.inr (waits.trans hempty)

/-- Settles O22: the first part is XOUT with nothing to fix; in the second every end of the attempt comes to `endAttempt`,
which fixes the entry as SKIP and retires it. -/
theorem xoutMarksForwardedEntries : Obligations.XoutMarksForwardedEntries := by
  unfold Obligations.XoutMarksForwardedEntries
  refine ⟨xout_marks, ?_⟩
  intro dt n e number s hlow hout he hlane hstate ho hup hopen hq hg hroom u a fault expiry expires
  have hnd : (u.entries.map Entry.tag).Nodup := by
    simp only [State.outstandingOk, Bool.and_eq_true, decide_eq_true_eq] at hout
    simpa [u] using hout.2
  have he' : e ∈ u.entries := by simpa [u] using he
  have hup' : (u.lane n).state = .up := by simpa [u] using hup
  have hopen' : (u.lane n).openAttempt = some { tag := e.tag, attempt := number.toNat } := by simpa [u] using hopen
  have target : a = u.attemptSkipped n e number.toNat := by simp only [a, State.attemptSkipped, u, elapse_stepOf]
  have idle := attemptSkipped_idle hnd he' hstate (hg.imp_right fun h => by simpa [u] using h.2) n number.toNat
  have skipped : ∀ how, u.EndsInSkip e how → endAttempt n e.tag how u = u.attemptSkipped n e number.toNat := by
    intro how
    exact endAttempt_skip hnd he' ho (by simpa [u, State.NoneQueued] using hq)
      (hg.imp_right fun h => by simpa [u] using h.1) (by simpa [State.reportFree, u, Config.reportCapacity] using hroom)
      hopen'
  have becomes : ∀ (f : State → State) how, f u = endAttempt n e.tag how u → u.EndsInSkip e how →
      Becomes (takeArbitrated dt f s) a := by
    intro f how hf hskip
    have effect : f u = u.attemptSkipped n e number.toNat := hf.trans (skipped how hskip)
    exact target ▸ effect ▸ takeArbitrated_becomes_of_idle hlow dt f (effect.symm ▸ idle)
  have faulted : u.EndsInSkip e .faulted → Becomes fault a :=
    becomes _ .faulted (takeAnswer_delivered hup' hopen' .faulted)
  have expired : u.EndsInSkip e .expiry → expires → Becomes expiry a := by
    rintro hskip ⟨d, hd, hreach⟩
    exact becomes _ .expiry (expireAttempt_reached hopen' (entry?_of_mem hnd he') hd hstate hreach) hskip
  have burst : ∀ f : BurstFrame, burstGood f = true → f.tag = e.tag → f.attempt = number →
      u.EndsInSkip e (.answered f) → Becomes (exec (.burst dt n f) s) a := by
    rintro f hgood htag rfl hskip
    refine becomes (takeBurst n f) (.answered f) ?_ hskip
    rw [takeBurst, if_pos hgood, htag]
    exact takeAnswer_delivered hup' hopen' (.answered f)
  constructor
  · intro hmark
    exact ⟨faulted (Or.inl hmark), expired (Or.inl hmark), fun f h1 h2 h3 => burst f h1 h2 h3 (Or.inl hmark)⟩
  · intro hmark hbudget hslot
    have hskip : ∀ how t, triggerOf (s.stepOf e) e how = some t → u.EndsInSkip e how := by
      intro how t ht
      exact Or.inr ⟨hmark, ⟨t, by simpa [u] using ht⟩, by simpa [u] using hbudget,
        by simpa [u, State.slotAt] using hslot⟩
    refine ⟨faulted (hskip _ .contact rfl), expired (hskip _ .timeout rfl), fun f h1 h2 h3 hbad => ?_⟩
    obtain ⟨t, ht⟩ := triggerOf_answered hbad
    exact burst f h1 h2 h3 (hskip _ t ht)

end Sys2Proof.Machine
end

section
/-! SUPPORT. What every command comes to, said once: an effect between the passing of time and the end of the event. -/

namespace Sys2Proof.Machine

/-- What a command does to the part between the passing of time and the end of the event; the commands of power and of the
RESET pin act otherwise (R175). -/
def effectOf (c : Instr) (s : State) : State :=
  match c with
  | .powerOn _ | .resetPinAssert _ | .resetPinRelease _ => s
  | .linkFrameError _ received =>
    if s.link.receiving && (receiveLink received).isNone then countLinkError s else s
  | .replyListOverflow _ => takeFrame id s
  | .unknownFrameKind _ seq kind =>
    if knownKind kind then s else takeFrame (enterReply kind seq (.given .badRequest [])) s
  | .dispatch _ seq payload => takeFrame (takeDispatch seq payload) s
  | .table _ seq payload => takeFrame (takeTable seq payload) s
  | .badRequest _ seq payload =>
    if requestMalformed payload then takeFrame (replyRefusal seq .badRequest) s else s
  | .get _ seq id =>
    takeFrame (fun s => match settingOf id.toNat with
      | some x => replyOk seq (be32 (s.setting x)) s
      | none => replyRefusal seq .badRequest s) s
  | .setLaneEnable _ seq value => takeSet seq .laneEnable (writeLaneEnable value) s
  | .setEventDelay _ seq value => takeSet seq .eventDelay (writeEventDelay value) s
  | .setRawCopy _ seq value =>
    takeSet seq .rawCopy (fun s => { s with link := { s.link with rawCopy := decide (value ≠ 0) } }) s
  | .setLearnCount _ seq value =>
    takeSet seq .learnCount (fun s => { s with sigs := { s.sigs with nextK := clampLearnCount value.toNat } }) s
  | .setDeferAge _ seq value =>
    takeSet seq .deferAge (fun s => { s with sigs := { s.sigs with deferAge := clampDeferAge value.toNat } }) s
  | .setTbSource _ seq value => takeSet seq .tbSource (writeTbSource value) s
  | .setTbFail _ seq value =>
    takeSet seq .tbFail (fun s => if value = 0 then s else { s with tb := { s.tb with tbFail := false } }) s
  | .status _ seq => takeFrame (fun s => replyOk seq (statusData s) s) s
  | .fetchEvent _ seq =>
    takeFrame (fun s => replyOk seq (fetchData s.events) { s with events := s.events.fetch }) s
  | .group _ seq slot net => takeFrame (takeGroup seq slot net) s
  | .panelStart _ seq populated xout => takeFrame (takePanelStart seq populated xout) s
  | .xout _ seq slot =>
    takeFrame (fun s => if 7 < slot.toNat then replyRefusal seq .badRequest s
      else replyOk seq [] (xoutSlot slot.toNat s)) s
  | .batchClear _ seq => takeFrame (takeBatchClear seq) s
  | .laneReset _ seq lane =>
    takeFrame (fun s => match laneOf lane.toNat with
      | none => replyRefusal seq .badRequest s
      | some n => replyOk seq [] (resetLane n s)) s
  | .linkReset _ seq =>
    takeFrame (fun s =>
      let s := answerAllGroups s.incompleteFlag s
      { s with link := { s.link with
          receiving := false
          replies := s.link.replies ++
            [{ kind := kindRequest, seq := seq, answer := .given .ok [], linkReset := true }] } }) s
  | .linkResetEffect _ => if s.sendingLinkReset then powerUp .link false s else s
  | .marker _ lane => takeMarker lane s
  | .silenceTimeout _ lane => failLane lane s
  | .burst _ lane frame => takeBurst lane frame s
  | .fault _ lane frame => takeFault lane frame s
  | .reductionComplete _ lane => completeReduction lane s
  | .attemptExpiry _ lane => expireAttempt lane s
  | .orderSent _ lane => endOrder lane s
  | .relabel _ => walkStep s
  | .walkEnd _ => walkFinish s
  | .scanStep _ => scanOne s
  | .deferralDeadline _ => placeAllExpired (expireDue s)
  | .retuneSettleStart _ gen => beginSettling gen s
  | .retuneComplete _ gen => finishRetune gen s
  | .loopLock _ => lockLoop s
  | .lockTimeout _ => timeoutLock s
  | .switchRefinLoss _ => loseSwitch s
  | .failover _ => failOver s
  | .microsecondWrap _ | .laneFrameDiscard _ _ _ => s
  | .attnSent _ => endAttn s
  | .replySent _ => endReply s
  | .reportSent _ => endReport s
  | .rawFrameSent _ => endRaw s

/-- The commands after which the arbiter may have to make a pass (R139). -/
def arbitrated : Instr → Bool
  | .dispatch _ _ _ | .setLaneEnable _ _ _ | .setTbSource _ _ _ | .xout _ _ _ | .laneReset _ _ _
  | .silenceTimeout _ _ | .burst _ _ _ | .fault _ _ _ | .reductionComplete _ _ | .attemptExpiry _ _
  | .retuneComplete _ _ | .loopLock _ | .lockTimeout _ | .switchRefinLoss _ | .failover _ | .reportSent _ => true
  | _ => false

/-- The commands of power and of the RESET pin (R175). -/
def ofPower : Instr → Bool
  | .powerOn _ | .resetPinAssert _ | .resetPinRelease _ => true
  | _ => false

/-- Every command but those of power and the RESET pin is taken as an event with its effect. -/
theorem exec_eq_effect {c : Instr} (h : ofPower c = false) (s : State) :
    exec c s = if arbitrated c then takeArbitrated c.dt (effectOf c) s else takeEvent c.dt (effectOf c) s := by
  cases c with
  | powerOn | resetPinAssert | resetPinRelease => cases h
  | _ => rfl

/-- How a command can leave the part: as it was, freshly powered up, entering reset, or after time and the command's effect,
with the arbiter's pass where the event may call for one, at the end of the event. -/
theorem exec_next_cases {c : Instr} {s t : State} (h : exec c s = .next t) :
    t = s ∨ (c.resets = true ∧ ∃ cause low, t = powerUp cause low s) ∨ t = enterReset (elapse c.dt s)
      ∨ t = conclude (effectOf c (elapse c.dt s))
      ∨ t = conclude (arbiterAfter (elapse c.dt s) (effectOf c (elapse c.dt s))) := by
  cases hp : ofPower c with
  | false =>
    rw [exec_eq_effect hp] at h
    split at h <;> cases h <;> cases s.resetLow <;> simp
  | true =>
    cases c with
    | powerOn dt => cases h; exact Or.inr (Or.inl ⟨rfl, _, _, rfl⟩)
    | resetPinRelease dt =>
      cases h
      split
      · exact Or.inr (Or.inl ⟨rfl, _, _, rfl⟩)
      · exact Or.inl rfl
    | resetPinAssert dt =>
      cases h
      split
      · exact Or.inl rfl
      · exact Or.inr (Or.inr (Or.inl rfl))
    | _ => cases hp

theorem takeFrame_cases (f : State → State) (s : State) :
    takeFrame f s = s ∨ takeFrame f s = countLinkError s ∨ takeFrame f s = f s := by
  unfold takeFrame
  split
  · exact Or.inl rfl
  · split
    · exact Or.inr (Or.inl rfl)
    · exact Or.inr (Or.inr rfl)

/-- What the counting of a discarded frame and the taking of a good one leave alone, the receiver leaves alone. -/
theorem takeFrame_keeps {β : Type} (g : State → β) {f : State → State} (hc : ∀ s, g (countLinkError s) = g s)
    {s : State} (h : g (f s) = g s) : g (takeFrame f s) = g s := by
  rcases takeFrame_cases f s with e | e | e <;> rw [e]
  · exact hc s
  · exact h

end Sys2Proof.Machine
end

section
/-! SUPPORT. The bounds of the Outstanding Table (R22): every effect but that of an accepted DISPATCH leaves of the entries'
tags and lanes at most what was there, in order, and an accepted DISPATCH has passed the checks. -/

namespace Sys2Proof.Machine

/-! ### Tags and lanes -/

/-- What an entry keeps from its acceptance to its retirement, as far as the bounds of the table go. -/
def Entry.key (e : Entry) : Half × LaneId := (e.tag, e.lane)

/-- The tags and lanes of the Outstanding Table, in acceptance order. -/
def State.keys (s : State) : List (Half × LaneId) := s.entries.map Entry.key

/-- The bounds of R22 speak of tags and lanes alone. -/
theorem outstandingOk_iff (s : State) : s.outstandingOk = true
    ↔ s.keys.length ≤ 16 ∧ (∀ n, (s.keys.filter (fun k => decide (k.2 = n))).length ≤ 4)
      ∧ (s.keys.map Prod.fst).Nodup := by
  have tags : s.keys.map Prod.fst = s.entries.map Entry.tag := by simp [State.keys, Entry.key, Function.comp_def]
  have lanes : ∀ n, (s.keys.filter (fun k => decide (k.2 = n))).length
      = (s.entries.filter (fun e => decide (e.lane = n))).length := by
    intro n
    rw [State.keys, List.filter_map, List.length_map]
    rfl
  have all : ∀ p : LaneId → Bool, allLanes.all p = true ↔ ∀ n, p n = true := by
    intro p
    simp [allLanes, Fin.forall_fin_succ]
  have len : s.keys.length = s.entries.length := List.length_map _
  simp only [State.outstandingOk, Bool.and_eq_true, all, tags, lanes, len, and_assoc, decide_eq_true_eq]
  rfl

/-- A table with no other tags and lanes than one within the bounds is within them. -/
theorem outstandingOk_of_sublist {a b : State} (h : b.keys.Sublist a.keys) (ha : a.outstandingOk = true) :
    b.outstandingOk = true := by
  obtain ⟨hlen, hlanes, htags⟩ := (outstandingOk_iff a).mp ha
  exact (outstandingOk_iff b).mpr ⟨h.length_le.trans hlen, fun n => (h.filter _).length_le.trans (hlanes n),
    htags.sublist (h.map _)⟩

theorem nodup_of_outstandingOk {s : State} (h : s.outstandingOk = true) : (s.entries.map Entry.tag).Nodup := by
  simp only [State.outstandingOk, Bool.and_eq_true, decide_eq_true_eq] at h
  exact h.2

/-! ### Operations that keep every entry in its place -/

theorem keys_of_entries {a b : State} (h : a.entries = b.entries) : a.keys = b.keys := congrArg (List.map Entry.key) h

theorem sublist_of_eq {α : Type} {l l' : List α} (h : l = l') : l.Sublist l' := h ▸ List.Sublist.refl l

/-- Entries changed in neither tag nor lane. -/
theorem map_key {f : Entry → Entry} (hf : ∀ e, (f e).key = e.key) (l : List Entry) :
    (l.map f).map Entry.key = l.map Entry.key := by
  simp [hf]

/-- What forwarding, attaching and releasing leave of an entry: tag, lane and fixed outcome. -/
def Entry.fixing (e : Entry) : Half × LaneId × Option FixedOutcome := (e.tag, e.lane, e.outcome)

/-- The tags, lanes and fixed outcomes of the Outstanding Table, in acceptance order. -/
def State.fixings (s : State) : List (Half × LaneId × Option FixedOutcome) := s.entries.map Entry.fixing

theorem keys_of_fixings {a b : State} (h : b.fixings = a.fixings) : b.keys = a.keys := by
  have keys : ∀ s : State, s.keys = s.fixings.map (fun k => (k.1, k.2.1)) := by
    intro s
    simp [State.keys, State.fixings, Entry.key, Entry.fixing]
  rw [keys, keys, h]

theorem fixings_of_entries {a b : State} (h : a.entries = b.entries) : a.fixings = b.fixings :=
  congrArg (List.map Entry.fixing) h

theorem modifyEntry_fixings {f : Entry → Entry} (hf : ∀ e, (f e).fixing = e.fixing) (s : State) (tag : Half) :
    (s.modifyEntry tag f).fixings = s.fixings := by
  simp only [State.fixings, State.modifyEntry, List.map_map]
  refine List.map_congr_left fun e _ => ?_
  by_cases h : e.tag = tag <;> simp [h, hf]

@[simp] theorem forward_fixings (tag : Half) (s : State) : (forward tag s).fixings = s.fixings := by
  unfold forward
  split
  · rfl
  · exact modifyEntry_fixings (fun _ => by rfl) _ tag

@[simp] theorem advanceHead_fixings (n : LaneId) (s : State) : (advanceHead n s).fixings = s.fixings := by
  unfold advanceHead
  split
  · rfl
  · split
    · split
      · exact modifyEntry_fixings (fun _ => by rfl) s _
      · exact forward_fixings _ s
    · rfl

@[simp] theorem advanceHeads_fixings (s : State) : (advanceHeads s).fixings = s.fixings :=
  foldl_keeps State.fixings _ (fun s n => advanceHead_fixings n s) _ s

@[simp] theorem releaseGen_fixings (tag : Half) (s : State) : (releaseGen tag s).fixings = s.fixings := by
  have released : ∀ g, ((s.modifyEntry tag (fun x => { x with gen := none })).modifyGen g Generator.release).fixings
      = s.fixings := fun g => modifyEntry_fixings (fun _ => by rfl) s tag
  simp only [releaseGen]
  split
  · rfl
  · split
    · rfl
    · split
      · exact (fixings_of_entries (checkSwitch_entries _)).trans (released _)
      · exact released _

theorem foldl_releaseGen_fixings (tags : List Half) (s : State) :
    (tags.foldl (fun s t => releaseGen t s) s).fixings = s.fixings :=
  foldl_keeps State.fixings _ (fun s t => releaseGen_fixings t s) tags s

theorem attach_fixings (tag : Half) (g : GenId) (s : State) : (attach tag g s).fixings = s.fixings :=
  (forward_fixings _ _).trans (modifyEntry_fixings (fun _ => by rfl) s tag)

@[simp] theorem serveEntry_fixings (e : Entry) (later : List Entry) (s : State) :
    (serveEntry e later s).fixings = s.fixings := by
  unfold serveEntry
  split
  · rfl
  · split
    · exact attach_fixings _ _ s
    · split
      · exact attach_fixings _ _ s
      · split
        · rfl
        · split <;> rfl

@[simp] theorem serveAll_fixings (l : List Entry) (s : State) : (serveAll l s).fixings = s.fixings := by
  induction l generalizing s with
  | nil => rfl
  | cons e later ih => exact (ih _).trans (serveEntry_fixings e later s)

@[simp] theorem arbiterPass_fixings (s : State) : (arbiterPass s).fixings = s.fixings := by
  unfold arbiterPass; split <;> simp

@[simp] theorem arbiterAfter_fixings (before s : State) : (arbiterAfter before s).fixings = s.fixings := by
  unfold arbiterAfter; split <;> simp

@[simp] theorem advanceHead_keys (n : LaneId) (s : State) : (advanceHead n s).keys = s.keys :=
  keys_of_fixings (advanceHead_fixings n s)

@[simp] theorem advanceHeads_keys (s : State) : (advanceHeads s).keys = s.keys :=
  keys_of_fixings (advanceHeads_fixings s)

@[simp] theorem releaseGen_keys (tag : Half) (s : State) : (releaseGen tag s).keys = s.keys :=
  keys_of_fixings (releaseGen_fixings tag s)

theorem foldl_releaseGen_keys (tags : List Half) (s : State) :
    (tags.foldl (fun s t => releaseGen t s) s).keys = s.keys :=
  keys_of_fixings (foldl_releaseGen_fixings tags s)

@[simp] theorem forward_keys (tag : Half) (s : State) : (forward tag s).keys = s.keys :=
  keys_of_fixings (forward_fixings tag s)

@[simp] theorem arbiterAfter_keys (before s : State) : (arbiterAfter before s).keys = s.keys :=
  keys_of_fixings (arbiterAfter_fixings before s)

theorem modifyEntry_keys {f : Entry → Entry} (hf : ∀ e, (f e).key = e.key) (s : State) (tag : Half) :
    (s.modifyEntry tag f).keys = s.keys :=
  map_key (fun e => by split <;> simp [hf]) s.entries

/-! ### Operations by which entries leave -/

/-- An effect leaves of the entries' tags and lanes at most what was there, in order. -/
def Shrinks (f : State → State) : Prop := ∀ s, (f s).keys.Sublist s.keys

theorem shrinks_of_keys {f : State → State} (h : ∀ s, (f s).keys = s.keys) : Shrinks f :=
  fun s => (h s).symm ▸ List.Sublist.refl _

theorem shrinks_of_entries {f : State → State} (h : ∀ s, (f s).entries = s.entries) : Shrinks f :=
  shrinks_of_keys fun s => keys_of_entries (h s)

theorem Shrinks.comp {f g : State → State} (hf : Shrinks f) (hg : Shrinks g) : Shrinks (fun s => f (g s)) :=
  fun s => (hf (g s)).trans (hg s)

theorem Shrinks.foldl {α : Type} {f : State → α → State} (h : ∀ a, Shrinks (f · a)) (l : List α) :
    Shrinks (l.foldl f) := by
  induction l with
  | nil => exact fun s => List.Sublist.refl _
  | cons a l ih => exact fun s => (ih (f s a)).trans (h a s)

theorem removeEntry_shrinks (tag : Half) : Shrinks (State.removeEntry · tag) :=
  fun _ => List.Sublist.map _ List.filter_sublist

theorem retireFixed_shrinks (tag : Half) : Shrinks (retireFixed tag) := by
  intro s
  unfold retireFixed
  split
  · exact List.Sublist.refl _
  · split
    · exact List.Sublist.refl _
    · split
      · exact removeEntry_shrinks tag (placeReport _ _ s)
      · exact List.Sublist.refl _

theorem fixEntries_shrinks (p : Entry → Bool) (o : FixedOutcome) : Shrinks (fixEntries p o) := by
  intro s
  refine (Shrinks.foldl (f := fun s t => retireFixed t s) retireFixed_shrinks _ _).trans ?_
  rw [foldl_releaseGen_keys, advanceHeads_keys]
  exact sublist_of_eq (map_key (fun e => by split <;> rfl) s.entries)

theorem skipEntry_shrinks (tag : Half) : Shrinks (skipEntry tag) := fixEntries_shrinks _ _

theorem closeEntry_shrinks (e : Entry) : Shrinks (closeEntry e) := by
  intro s
  rw [closeEntry, advanceHead_keys, ← releaseGen_keys e.tag s]
  exact removeEntry_shrinks e.tag _

theorem retire_shrinks (e : Entry) (t : Terminal) : Shrinks (retire e t) :=
  (closeEntry_shrinks e).comp (shrinks_of_entries fun s => by split <;> simp)

theorem retireSignature_shrinks (e : Entry) (v : Nat) (sat : Bool) : Shrinks (retireSignature e v sat) := by
  intro s
  simp only [retireSignature]
  split <;> exact (closeEntry_shrinks e _).trans (sublist_of_eq (keys_of_entries (by simp)))

theorem carryOut_shrinks (e : Entry) (d : Decision) : Shrinks (carryOut e d) := by
  cases d with
  | retry escalate =>
    exact shrinks_of_keys fun s => (forward_keys _ _).trans (modifyEntry_keys (fun _ => by rfl) s e.tag)
  | skip => exact skipEntry_shrinks e.tag
  | terminal t => exact retire_shrinks e t
  | signature v sat => exact retireSignature_shrinks e v sat

theorem decideEntry_shrinks (tag : Half) : Shrinks (decideEntry tag) := by
  intro s
  unfold decideEntry
  split
  · exact List.Sublist.refl _
  · split
    · split
      · exact List.Sublist.refl _
      · exact carryOut_shrinks _ _ s
    · exact List.Sublist.refl _

theorem tryDecide_shrinks (tag : Half) : Shrinks (tryDecide tag) := by
  intro s
  unfold tryDecide
  split
  · exact decideEntry_shrinks tag s
  · exact List.Sublist.refl _

theorem endAttempt_shrinks (n : LaneId) (tag : Half) (how : AttemptEnd) : Shrinks (endAttempt n tag how) := by
  intro s
  have ended : ((closeAttempt n s).modifyEntry tag (fun e => { e with state := .judging, deadline := none })).keys
      = s.keys := modifyEntry_keys (fun _ => by rfl) (closeAttempt n s) tag
  simp only [endAttempt]
  rw [← ended]
  split
  · exact List.Sublist.refl _
  · split
    · exact skipEntry_shrinks tag _
    · split
      · exact (tryDecide_shrinks tag _).trans (sublist_of_eq (modifyEntry_keys (fun _ => by rfl) _ tag))
      · split
        · exact shrinks_of_entries (by simp) _
        · exact List.Sublist.refl _

theorem takeAnswer_shrinks (n : LaneId) (a : AttemptId) (how : AttemptEnd) : Shrinks (takeAnswer n a how) := by
  intro s
  unfold takeAnswer
  split
  · split
    · exact endAttempt_shrinks n a.tag how s
    · exact shrinks_of_entries (postEvent_entries _ _) s
    · exact shrinks_of_entries (postEvent_entries _ _) s
  · exact List.Sublist.refl _

theorem expireAttempt_shrinks (n : LaneId) : Shrinks (expireAttempt n) := by
  intro s
  unfold expireAttempt
  split
  · exact List.Sublist.refl _
  · split
    · exact List.Sublist.refl _
    · split
      · exact List.Sublist.refl _
      · split
        · exact endAttempt_shrinks n _ .expiry s
        · exact List.Sublist.refl _

theorem completeReduction_shrinks (n : LaneId) : Shrinks (completeReduction n) := by
  intro s
  unfold completeReduction
  split
  · exact List.Sublist.refl _
  · dsimp only
    split
    · exact List.Sublist.refl _
    · exact (tryDecide_shrinks _ _).trans (sublist_of_eq (modifyEntry_keys (fun _ => by rfl) _ _))

theorem loseLanes_shrinks (lost : LaneId → Bool) (o : FixedOutcome) : Shrinks (loseLanes lost o) := by
  intro s
  have idle : ∀ n, Shrinks (fun s => if lost n then s.setReduction n none else s) := fun n =>
    shrinks_of_entries fun s => by split <;> rfl
  exact (fixEntries_shrinks _ o _).trans (Shrinks.foldl idle allLanes s)

/-! ### The granting of a place -/

theorem offerEntry_shrinks (tag : Half) : Shrinks (offerEntry tag) := by
  intro s
  unfold offerEntry
  split
  · exact List.Sublist.refl _
  · split
    · exact retireFixed_shrinks tag s
    · exact tryDecide_shrinks tag s

theorem offerEntries_shrinks (tags : List Half) : Shrinks (offerEntries tags) := by
  induction tags with
  | nil => exact fun s => List.Sublist.refl _
  | cons tag rest ih =>
    intro s
    simp only [offerEntries]
    split
    · exact offerEntry_shrinks tag s
    · exact (ih _).trans (offerEntry_shrinks tag s)

theorem offerSide_shrinks (side : Side) : Shrinks (offerSide side) := by
  cases side with
  | dispatch => exact fun s => offerEntries_shrinks _ s
  | signature => exact shrinks_of_entries offerSignature_entries

theorem grantPlace_shrinks : Shrinks grantPlace := by
  intro s
  simp only [grantPlace]
  have first := offerSide_shrinks s.firstSide s
  have second := (offerSide_shrinks s.firstSide.other (offerSide s.firstSide s)).trans first
  split
  · exact first
  · split <;> exact second

/-! ### Commands -/

theorem takeFrame_shrinks {f : State → State} (h : Shrinks f) : Shrinks (takeFrame f) := by
  intro s
  rcases takeFrame_cases f s with e | e | e <;> rw [e]
  · exact List.Sublist.refl _
  · exact h s

theorem takeSet_shrinks {f : State → State} (h : Shrinks f) (seq : Byte) (x : Setting) : Shrinks (takeSet seq x f) :=
  takeFrame_shrinks fun s => h s

theorem writeLaneEnable_shrinks (value : Word) : Shrinks (writeLaneEnable value) := by
  intro s
  have switched : (switchLanes s.link.laneEnable (clampMask value) s).entries = s.entries :=
    foldl_keeps State.entries _ (fun s n => by (repeat' split) <;> rfl) allLanes s
  exact (loseLanes_shrinks _ .laneLost _).trans (sublist_of_eq (keys_of_entries switched))

theorem writeTbSource_keys (value : Word) (s : State) : (writeTbSource value s).keys = s.keys := by
  have asked : (checkSwitch (requestSwitch (sourceOf value) s)).keys = s.keys :=
    keys_of_entries (checkSwitch_entries _)
  simp only [writeTbSource]
  split
  · split <;> rfl
  · split
    · rfl
    · exact (arbiterAfter_keys _ _).trans asked

theorem xoutSlot_shrinks (slot : Nat) : Shrinks (xoutSlot slot) := by
  intro s
  exact (fixEntries_shrinks _ .skip _).trans (sublist_of_eq (map_key (fun e => by split <;> rfl) s.entries))

theorem failLane_shrinks (n : LaneId) : Shrinks (failLane n) := by
  intro s
  unfold failLane
  split
  · rw [keys_of_entries (postEvent_entries _ _ _)]
    exact loseLanes_shrinks _ _ _
  · exact List.Sublist.refl _

theorem failOver_keys (s : State) : (failOver s).keys = s.keys := by
  unfold failOver
  split
  · refine (map_key (fun e => by split <;> rfl) _).trans (keys_of_entries (postEvent_entries _ _ _))
  · rfl

theorem endReport_shrinks : Shrinks endReport := by
  intro s
  unfold endReport
  split
  · exact grantPlace_shrinks _
  · exact List.Sublist.refl _

theorem takeTable_entries (seq : Byte) (payload : List Byte) (s : State) :
    (takeTable seq payload s).entries = s.entries := by
  have written : ∀ seg, (writeSegment seg s).entries = s.entries := by
    intro seg
    have folded : (seg.records.foldl (fun s (r : Nat × List Byte) => writeRecord seg.table r.1 r.2 s) s).entries
        = s.entries := by
      refine foldl_keeps State.entries _ (fun s r => ?_) _ s
      cases seg.table with
      | net => simp only [writeRecord, netRecordEffect]; split <;> rfl
      | _ => rfl
    simp only [writeSegment]
    split
    · rw [requestScan_entries]; exact folded
    · exact folded
  simp only [takeTable]
  split <;> simp [written]

@[simp] theorem powerUp_keys (cause : ResetCause) (low : Bool) (s : State) : (powerUp cause low s).keys = [] :=
  keys_of_entries (a := powerUp cause low s) (b := State.blank)
    ((conclude_entries _).trans (postEvent_entries _ _ _))

theorem clearBatch_entries (s : State) : (clearBatch s).entries = s.entries := by
  simp [clearBatch]

/-- No command but DISPATCH enters anything into the Outstanding Table. -/
theorem effectOf_shrinks {c : Instr} (hd : ∀ dt seq p, c ≠ .dispatch dt seq p) : Shrinks (effectOf c) := by
  cases c with
  | dispatch dt seq p => exact absurd rfl (hd dt seq p)
  | powerOn | resetPinAssert | resetPinRelease | orderSent | microsecondWrap | laneFrameDiscard =>
    exact shrinks_of_entries fun _ => by rfl
  | replyListOverflow | status | fetchEvent | linkReset =>
    exact takeFrame_shrinks (shrinks_of_entries fun _ => by rfl)
  | setEventDelay | setRawCopy | setLearnCount | setDeferAge =>
    exact takeSet_shrinks (shrinks_of_entries fun _ => by rfl) _ _
  | linkFrameError =>
    exact shrinks_of_entries fun s => by simp only [effectOf]; split <;> rfl
  | unknownFrameKind dt seq kind =>
    intro s
    simp only [effectOf]
    split
    · exact List.Sublist.refl _
    · exact takeFrame_shrinks (shrinks_of_entries fun _ => by rfl) s
  | table dt seq p => exact takeFrame_shrinks (shrinks_of_entries (takeTable_entries seq p))
  | badRequest dt seq p =>
    intro s
    simp only [effectOf]
    split
    · exact takeFrame_shrinks (shrinks_of_entries fun _ => by rfl) s
    · exact List.Sublist.refl _
  | get => exact takeFrame_shrinks (shrinks_of_entries fun s => by split <;> rfl)
  | setLaneEnable dt seq value => exact takeSet_shrinks (writeLaneEnable_shrinks value) seq _
  | setTbSource dt seq value => exact takeSet_shrinks (shrinks_of_keys (writeTbSource_keys value)) seq _
  | setTbFail => exact takeSet_shrinks (shrinks_of_entries fun s => by split <;> rfl) _ _
  | group => exact takeFrame_shrinks (shrinks_of_entries fun s => by unfold takeGroup; split <;> rfl)
  | panelStart => exact takeFrame_shrinks (shrinks_of_entries fun s => by unfold takePanelStart; split <;> rfl)
  | xout dt seq slot =>
    refine takeFrame_shrinks fun s => ?_
    split
    · exact List.Sublist.refl _
    · exact xoutSlot_shrinks _ s
  | batchClear =>
    exact takeFrame_shrinks (shrinks_of_entries fun s => by
      unfold takeBatchClear; split <;> simp [replyOk, replyRefusal, clearBatch_entries])
  | laneReset =>
    refine takeFrame_shrinks fun s => ?_
    split
    · exact List.Sublist.refl _
    · exact loseLanes_shrinks _ _ _
  | linkResetEffect =>
    intro s
    simp only [effectOf]
    split
    · rw [powerUp_keys]
      exact List.nil_sublist _
    · exact List.Sublist.refl _
  | marker =>
    exact shrinks_of_entries fun s => by simp only [effectOf, takeMarker]; (repeat' split) <;> simp
  | silenceTimeout dt lane => exact failLane_shrinks lane
  | burst =>
    intro s
    simp only [effectOf, takeBurst]
    split
    · exact takeAnswer_shrinks _ _ _ s
    · exact List.Sublist.refl _
  | fault =>
    intro s
    simp only [effectOf, takeFault]
    split
    · exact takeAnswer_shrinks _ _ _ s
    · exact List.Sublist.refl _
  | reductionComplete dt lane => exact completeReduction_shrinks lane
  | attemptExpiry dt lane => exact expireAttempt_shrinks lane
  | relabel => exact shrinks_of_entries fun s => by simp only [effectOf, walkStep]; (repeat' split) <;> simp
  | walkEnd => exact shrinks_of_entries fun s => by simp only [effectOf, walkFinish]; (repeat' split) <;> simp
  | scanStep => exact shrinks_of_entries scanOne_entries
  | deferralDeadline => exact shrinks_of_entries fun s => by simp [effectOf]
  | retuneSettleStart => exact shrinks_of_entries fun s => by simp only [effectOf, beginSettling]; split <;> rfl
  | retuneComplete => exact shrinks_of_entries fun s => by simp only [effectOf, finishRetune]; split <;> rfl
  | loopLock => exact shrinks_of_entries fun s => by simp only [effectOf, lockLoop]; split <;> simp
  | lockTimeout => exact shrinks_of_entries fun s => by simp only [effectOf, timeoutLock]; split <;> simp
  | switchRefinLoss => exact shrinks_of_entries fun s => by simp only [effectOf, loseSwitch]; split <;> simp
  | failover => exact shrinks_of_keys failOver_keys
  | attnSent => exact shrinks_of_entries fun s => by simp only [effectOf, endAttn]; split <;> rfl
  | replySent =>
    intro s
    simp only [effectOf, endReply]
    split
    · rw [powerUp_keys]
      exact List.nil_sublist _
    · exact shrinks_of_entries (f := fun s => if s.sending .reply then dropReply (freeTransmitter s) else s)
        (fun s => by split <;> rfl) s
  | reportSent => exact endReport_shrinks
  | rawFrameSent => exact shrinks_of_entries fun s => by simp only [effectOf, endRaw]; split <;> rfl

/-! ### DISPATCH -/

/-- The entry of an accepted DISPATCH is the only one that joins the table. -/
theorem acceptDispatch_keys (d : DispatchFields) (lane : LaneId) (s : State) :
    (acceptDispatch d lane s).keys.Sublist (s.keys ++ [(d.tag, lane)]) := by
  have entered : ∀ e : Entry, e.key = (d.tag, lane) →
      ({ s with entries := s.entries ++ [e] } : State).keys = s.keys ++ [(d.tag, lane)] := by
    intro e he
    simp [State.keys, he]
  unfold acceptDispatch
  dsimp only
  split
  · rw [← entered ((newEntry d lane s.board.panelSequence _).fix .skip) rfl]
    exact retireFixed_shrinks d.tag _
  · rw [advanceHead_keys, entered _ rfl]

/-- The checks of R22 that speak of the Outstanding Table. -/
theorem room_of_no_refusal {s : State} {d : DispatchFields} (h : dispatchRefusal s d = none) :
    (∀ e ∈ s.entries, e.tag ≠ d.tag) ∧ s.entries.length < 16
      ∧ (s.entries.filter (fun e => decide (e.lane.val = d.lane))).length < 4 := by
  unfold dispatchRefusal at h
  iterate 7 (split at h; · cases h)
  rename_i htag hlen hlane
  exact ⟨by simpa using htag, Nat.lt_of_not_le hlen, Nat.lt_of_not_le hlane⟩

theorem laneOf_eq_some {k : Nat} {n : LaneId} : laneOf k = some n ↔ n.val = k := by
  unfold laneOf
  split
  · rw [Option.some.injEq, ← Fin.val_inj]
    exact eq_comm
  · simp; omega

/-- A DISPATCH keeps the table within its bounds (R22). -/
theorem takeDispatch_outstandingOk (seq : Byte) (payload : List Byte) {s : State} (h : s.outstandingOk = true) :
    (takeDispatch seq payload s).outstandingOk = true := by
  unfold takeDispatch
  dsimp only
  split
  · exact h
  · rename_i d _
    split
    · exact h
    · rename_i lane hno hlane
      obtain ⟨htag, hroom, hlanes⟩ := room_of_no_refusal hno
      obtain ⟨-, hall, hnd⟩ := (outstandingOk_iff s).mp h
      have entered := acceptDispatch_keys d lane s
      have hkeys : s.keys.length = s.entries.length := List.length_map _
      have bounded : (s.keys ++ [(d.tag, lane)]).length ≤ 16
          ∧ (∀ n, ((s.keys ++ [(d.tag, lane)]).filter (fun k => decide (k.2 = n))).length ≤ 4)
          ∧ ((s.keys ++ [(d.tag, lane)]).map Prod.fst).Nodup := by
        refine ⟨by simp; omega, fun n => ?_, ?_⟩
        · rw [List.filter_append, List.length_append]
          by_cases hn : lane = n
          · have own : (s.keys.filter (fun k => decide (k.2 = n))).length < 4 := by
              rw [State.keys, List.filter_map, List.length_map]
              refine lt_of_eq_of_lt (congrArg List.length (List.filter_congr fun e _ => ?_)) hlanes
              exact decide_eq_decide.mpr (by simp [Entry.key, ← Fin.val_inj, laneOf_eq_some.mp hlane, ← hn])
            have one : ([(d.tag, lane)].filter (fun k => decide (k.2 = n))).length ≤ 1 := List.length_filter_le _ _
            omega
          · have elsewhere : [(d.tag, lane)].filter (fun k => decide (k.2 = n)) = [] := by simp [hn]
            rw [elsewhere]
            exact hall n
        · rw [List.map_append]
          refine List.nodup_append.mpr ⟨hnd, List.nodup_singleton _, fun a ha b hb hab => ?_⟩
          rw [List.mem_singleton.mp hb] at hab
          obtain ⟨e, he, rfl⟩ : ∃ e ∈ s.entries, e.tag = a := by
            simpa [State.keys, Entry.key] using ha
          exact htag e he hab
      obtain ⟨b1, b2, b3⟩ := bounded
      exact (outstandingOk_iff _).mpr ⟨entered.length_le.trans b1,
        fun n => (entered.filter _).length_le.trans (b2 n), b3.sublist (entered.map _)⟩
    · exact h

/-! ### The statements -/

theorem exec_outstandingOk {c : Instr} {s t : State} (h : exec c s = .next t) (hs : s.outstandingOk = true) :
    t.outstandingOk = true := by
  have hu : (elapse c.dt s).outstandingOk = true := by simpa [State.outstandingOk] using hs
  have effect : (effectOf c (elapse c.dt s)).outstandingOk = true := by
    by_cases hd : ∃ dt seq p, c = .dispatch dt seq p
    · obtain ⟨dt, seq, p, rfl⟩ := hd
      change (takeFrame (takeDispatch seq p) (elapse dt s)).outstandingOk = true
      rcases takeFrame_cases (takeDispatch seq p) (elapse dt s) with e | e | e <;> rw [e]
      · exact hu
      · exact hu
      · exact takeDispatch_outstandingOk seq p hu
    · exact outstandingOk_of_sublist (effectOf_shrinks (fun dt seq p e => hd ⟨dt, seq, p, e⟩) _) hu
  have same : ∀ {a b : State}, b.keys = a.keys → a.outstandingOk = true → b.outstandingOk = true :=
    fun e => outstandingOk_of_sublist (sublist_of_eq e)
  rcases exec_next_cases h with rfl | ⟨-, cause, low, rfl⟩ | rfl | rfl | rfl
  · exact hs
  · exact outstandingOk_of_sublist (a := State.blank)
      (sublist_of_eq (powerUp_keys cause low s)) (by decide)
  · exact same rfl hu
  · exact same (keys_of_entries (conclude_entries _)) effect
  · exact same ((keys_of_entries (conclude_entries _)).trans (arbiterAfter_keys _ _)) effect

/-- Settles O56: entries enter by DISPATCH alone, which checks for room and for the tag, and nothing else changes a tag or a
lane. -/
theorem stepKeepsOutstandingTable : Obligations.StepKeepsOutstandingTable := by
  unfold Obligations.StepKeepsOutstandingTable
  intro s t hs h
  unfold step at h
  split at h
  · cases h
    unfold tick
    split
    · exact hs
    · simpa [State.outstandingOk] using hs
  · exact exec_outstandingOk (s := { s with pending := _ }) h hs

/-- Settles O60: every invariant is read off `State.reset`. -/
theorem resetHasInvariants : Obligations.ResetHasInvariants := by
  unfold Obligations.ResetHasInvariants
  exact ⟨by decide, by decide, by decide, by decide, by decide⟩

end Sys2Proof.Machine
end

section
/-! SUPPORT. The panel sequence and the batch number (R43): PANEL_START and BATCH_CLEAR alone write them, and they are refused
while an entry is outstanding (R170, R172). -/

namespace Sys2Proof.Machine

/-- The panel sequence and the batch number of the Board Map (R16). -/
def BoardMap.numbers (b : BoardMap) : Word × Half := (b.panelSequence, b.batch)

/-- An effect leaves the panel sequence and the batch number as they are while an entry is outstanding. -/
def KeepsNumbers (f : State → State) : Prop := ∀ s, s.entries ≠ [] → (f s).board.numbers = s.board.numbers

theorem keepsNumbers_of_board {f : State → State} (h : ∀ s, (f s).board = s.board) : KeepsNumbers f :=
  fun s _ => congrArg BoardMap.numbers (h s)

theorem KeepsNumbers.takeFrame {f : State → State} (h : KeepsNumbers f) : KeepsNumbers (takeFrame f) :=
  fun s hs => takeFrame_keeps (fun s => s.board.numbers) (fun _ => rfl) (h s hs)

theorem KeepsNumbers.takeSet {f : State → State} (h : ∀ s, (f s).board = s.board) (seq : Byte) (x : Setting) :
    KeepsNumbers (takeSet seq x f) :=
  KeepsNumbers.takeFrame (keepsNumbers_of_board h)

/-! ### Effects that leave the Board Map alone -/

theorem takeDispatch_board (seq : Byte) (payload : List Byte) (s : State) :
    (takeDispatch seq payload s).board = s.board := by
  have accepted : ∀ d lane, (acceptDispatch d lane s).board = s.board := fun d lane => by
    unfold acceptDispatch; dsimp only; split <;> simp
  unfold takeDispatch
  (repeat' split) <;> simp [accepted]

theorem takeTable_board (seq : Byte) (payload : List Byte) (s : State) :
    (takeTable seq payload s).board = s.board := by
  have written : ∀ seg, (writeSegment seg s).board = s.board := by
    intro seg
    have folded : (seg.records.foldl (fun s (r : Nat × List Byte) => writeRecord seg.table r.1 r.2 s) s).board
        = s.board := by
      refine foldl_keeps State.board _ (fun s r => ?_) _ s
      cases seg.table with
      | net => simp only [writeRecord, netRecordEffect]; split <;> rfl
      | _ => rfl
    simp only [writeSegment]
    split
    · rw [requestScan_board]; exact folded
    · exact folded
  simp only [takeTable]
  split <;> simp [written]

theorem writeLaneEnable_board (value : Word) (s : State) : (writeLaneEnable value s).board = s.board := by
  have switched : (switchLanes s.link.laneEnable (clampMask value) s).board = s.board :=
    foldl_keeps State.board _ (fun s n => by (repeat' split) <;> rfl) allLanes s
  simp [writeLaneEnable, switched]

theorem writeTbSource_board (value : Word) (s : State) : (writeTbSource value s).board = s.board := by
  simp only [writeTbSource, cancelSwitch, requestSwitch]
  (repeat' split) <;> simp

theorem resetLane_board (n : LaneId) (s : State) : (resetLane n s).board = s.board := by
  simp [resetLane]

/-! ### Effects on the Board Map -/

/-- An XOUT writes the slots alone (R18). -/
theorem xoutSlot_numbers (slot : Nat) (s : State) : (xoutSlot slot s).board.numbers = s.board.numbers := by
  simp only [xoutSlot, fixEntries_board]
  rfl

/-- PANEL_START is refused under an entry (R170). -/
theorem takePanelStart_keepsNumbers (seq populated xout : Byte) : KeepsNumbers (takePanelStart seq populated xout) := by
  intro s hs
  have busy : s.panelBusy = true := by simp [State.panelBusy, hs]
  rw [takePanelStart, if_pos busy]
  rfl

/-- BATCH_CLEAR is refused under an entry (R172). -/
theorem takeBatchClear_keepsNumbers (seq : Byte) : KeepsNumbers (takeBatchClear seq) := by
  intro s hs
  have busy : (!s.entries.isEmpty) = true := by simpa using hs
  rw [takeBatchClear, if_pos busy]
  rfl

/-- No command but a reset changes the panel sequence or the batch number while an entry is outstanding. -/
theorem effectOf_keepsNumbers {c : Instr} (hr : c.resets = false) : KeepsNumbers (effectOf c) := by
  cases c with
  | powerOn | resetPinRelease | linkResetEffect | replySent => cases hr
  | resetPinAssert | orderSent | microsecondWrap | laneFrameDiscard => exact keepsNumbers_of_board fun _ => by rfl
  | replyListOverflow | status | fetchEvent | linkReset =>
    exact KeepsNumbers.takeFrame (keepsNumbers_of_board fun _ => by rfl)
  | setEventDelay | setRawCopy | setLearnCount | setDeferAge => exact KeepsNumbers.takeSet (fun _ => by rfl) _ _
  | linkFrameError => exact keepsNumbers_of_board fun s => by simp only [effectOf]; split <;> rfl
  | unknownFrameKind dt seq kind =>
    intro s hs
    simp only [effectOf]
    split
    · rfl
    · exact KeepsNumbers.takeFrame (keepsNumbers_of_board fun _ => by rfl) s hs
  | dispatch dt seq p => exact KeepsNumbers.takeFrame (keepsNumbers_of_board (takeDispatch_board seq p))
  | table dt seq p => exact KeepsNumbers.takeFrame (keepsNumbers_of_board (takeTable_board seq p))
  | badRequest dt seq p =>
    intro s hs
    simp only [effectOf]
    split
    · exact KeepsNumbers.takeFrame (keepsNumbers_of_board fun _ => by rfl) s hs
    · rfl
  | get => exact KeepsNumbers.takeFrame (keepsNumbers_of_board fun s => by split <;> rfl)
  | setLaneEnable dt seq value => exact KeepsNumbers.takeSet (writeLaneEnable_board value) seq _
  | setTbSource dt seq value => exact KeepsNumbers.takeSet (writeTbSource_board value) seq _
  | setTbFail => exact KeepsNumbers.takeSet (fun s => by split <;> rfl) _ _
  | group => exact KeepsNumbers.takeFrame (keepsNumbers_of_board fun s => by unfold takeGroup; split <;> rfl)
  | panelStart dt seq populated xout => exact (takePanelStart_keepsNumbers seq populated xout).takeFrame
  | xout dt seq slot =>
    refine KeepsNumbers.takeFrame fun s _ => ?_
    split
    · rfl
    · exact xoutSlot_numbers _ s
  | batchClear dt seq => exact (takeBatchClear_keepsNumbers seq).takeFrame
  | laneReset =>
    refine KeepsNumbers.takeFrame (keepsNumbers_of_board fun s => ?_)
    split
    · rfl
    · exact resetLane_board _ s
  | marker => exact keepsNumbers_of_board fun s => by simp only [effectOf, takeMarker]; (repeat' split) <;> simp
  | silenceTimeout => exact keepsNumbers_of_board fun s => by simp only [effectOf, failLane]; split <;> simp
  | burst => exact keepsNumbers_of_board fun s => by simp only [effectOf, takeBurst]; split <;> simp
  | fault => exact keepsNumbers_of_board fun s => by simp only [effectOf, takeFault]; split <;> simp
  | reductionComplete dt lane => exact keepsNumbers_of_board (completeReduction_board lane)
  | attemptExpiry dt lane => exact keepsNumbers_of_board (expireAttempt_board lane)
  | relabel => exact keepsNumbers_of_board fun s => by simp only [effectOf, walkStep]; (repeat' split) <;> simp
  | walkEnd => exact keepsNumbers_of_board fun s => by simp only [effectOf, walkFinish]; (repeat' split) <;> simp
  | scanStep => exact keepsNumbers_of_board scanOne_board
  | deferralDeadline => exact keepsNumbers_of_board fun s => by simp [effectOf]
  | retuneSettleStart => exact keepsNumbers_of_board fun s => by simp only [effectOf, beginSettling]; split <;> rfl
  | retuneComplete => exact keepsNumbers_of_board fun s => by simp only [effectOf, finishRetune]; split <;> rfl
  | loopLock => exact keepsNumbers_of_board fun s => by simp only [effectOf, lockLoop]; split <;> simp
  | lockTimeout => exact keepsNumbers_of_board fun s => by simp only [effectOf, timeoutLock]; split <;> simp
  | switchRefinLoss => exact keepsNumbers_of_board fun s => by simp only [effectOf, loseSwitch]; split <;> simp
  | failover => exact keepsNumbers_of_board fun s => by simp only [effectOf, failOver]; split <;> simp
  | attnSent => exact keepsNumbers_of_board fun s => by simp only [effectOf, endAttn]; split <;> rfl
  | reportSent => exact keepsNumbers_of_board fun s => by simp only [effectOf, endReport]; split <;> simp
  | rawFrameSent => exact keepsNumbers_of_board fun s => by simp only [effectOf, endRaw]; split <;> rfl

/-- Settles O8: of all effects only those of PANEL_START, BATCH_CLEAR and the resets reach the two numbers, and the first two
are refused. -/
theorem panelNumbersFixedUnderEntries : Obligations.PanelNumbersFixedUnderEntries := by
  unfold Obligations.PanelNumbersFixedUnderEntries
  intro c s t hr hs h
  have effect := effectOf_keepsNumbers hr (elapse c.dt s) (by simpa using hs)
  have numbers : t.board.numbers = s.board.numbers := by
    rcases exec_next_cases h with rfl | ⟨hreset, -⟩ | rfl | rfl | rfl
    · rfl
    · exact absurd hreset (by simp [hr])
    · simp [enterReset]
    · rw [conclude_board, effect, elapse_board]
    · rw [conclude_board, arbiterAfter_board, effect, elapse_board]
  exact Prod.mk.inj numbers

end Sys2Proof.Machine
end

section
/-! SUPPORT. DISPATCH: the checks of R22 in order, the payload read back, and what an accepted one comes to (R21 to R23, R26,
R27, R36, R44, R55, R139 to R143). -/

namespace Sys2Proof.Machine

/-! ### Reads that time leaves alone -/

@[simp] theorem elapse_stepAt (n : Nat) (s : State) (i : Nat) : (elapse n s).stepAt i = s.stepAt i := by
  simp [State.stepAt]

@[simp] theorem elapse_slotAt (n : Nat) (s : State) (slot : Nat) : (elapse n s).slotAt slot = s.slotAt slot := by
  simp [State.slotAt]

@[simp] theorem elapse_freqAt (n : Nat) (s : State) (i : Nat) : (elapse n s).freqAt i = s.freqAt i := by
  simp [State.freqAt]

@[simp] theorem elapse_excluded (n : Nat) (s : State) (net : Option Nat) :
    (elapse n s).excluded net = s.excluded net := by
  cases net <;> simp [State.excluded, State.netAt]

@[simp] theorem elapse_laneUp (n : Nat) (s : State) (k : Nat) : (elapse n s).laneUp k = s.laneUp k := by
  unfold State.laneUp
  cases laneOf k <;> simp

@[simp] theorem elapse_orderList (n : Nat) (s : State) (m : LaneId) : (elapse n s).orderList m = s.orderList m := by
  simp [State.orderList]

@[simp] theorem elapse_reportFree (n : Nat) (s : State) : (elapse n s).reportFree = s.reportFree := by
  simp [State.reportFree]

theorem elapse_pendingSwitch (n : Nat) (s : State) : (elapse n s).tb.pendingSwitch = s.tb.pendingSwitch := by
  simp

theorem elapse_source (n : Nat) (s : State) : (elapse n s).tb.source = s.tb.source := by
  simp

/-! ### The checks of R22 -/

theorem laneUp_iff (s : State) (k : Nat) : s.laneUp k = true
    ↔ k ≤ 3 ∧ s.link.laneEnable.getLsbD k = true ∧ ∀ n : LaneId, n.val = k → (s.lane n).state = .up := by
  unfold State.laneUp
  cases hk : laneOf k with
  | none =>
    have hlt : ¬k < 4 := fun h => by simp [laneOf, h] at hk
    simp; omega
  | some n =>
    obtain rfl := laneOf_eq_some.mp hk
    have only : (∀ m : LaneId, m.val = n.val → (s.lane m).state = .up) ↔ (s.lane n).state = .up :=
      ⟨fun h => h n rfl, fun h m hm => Fin.val_inj.mp hm ▸ h⟩
    simp [only]
    omega

/-- The seven checks as R22 words them. -/
theorem dispatchRefusal_eq (s : State) (d : DispatchFields) : dispatchRefusal s d =
    if s.board.panelOpen = false then some .noPanel
    else if ¬(d.step ≤ 16383 ∧ s.stepAt d.step ≠ none) then some .badStep
    else if ¬(d.slot ≤ 7 ∧ (s.slotAt d.slot = .active ∨ s.slotAt d.slot = .xout)) then some .badSlot
    else if ¬(d.lane ≤ 3 ∧ s.link.laneEnable.getLsbD d.lane = true
        ∧ ∀ n : LaneId, n.val = d.lane → (s.lane n).state = .up) then some .laneDown
    else if s.entries.any (fun e => decide (e.tag = d.tag)) then some .dupTag
    else if ¬(s.entries.length < 16) then some .tableFull
    else if ¬((s.entries.filter (fun e => decide (e.lane.val = d.lane))).length < 4) then some .laneFull
    else none := by
  have slot : ∀ x : SlotState, x = .empty ↔ ¬(x = .active ∨ x = .xout) := by
    intro x; cases x <;> simp
  unfold dispatchRefusal
  refine if_congr (by simp) rfl (if_congr ?_ rfl (if_congr ?_ rfl (if_congr ?_ rfl (if_congr ?_ rfl
    (if_congr ?_ rfl (if_congr ?_ rfl rfl))))))
  · rw [not_and_or, Nat.not_le, not_not, Option.isNone_iff_eq_none]
  · rw [not_and_or, Nat.not_le, slot]
  · rw [← laneUp_iff]; simp
  · simp only [Bool.beq_eq_decide_eq]
  · exact Nat.not_lt.symm
  · exact Nat.not_lt.symm

theorem dispatchRefusal_elapse (n : Nat) (s : State) (d : DispatchFields) :
    dispatchRefusal (elapse n s) d = dispatchRefusal s d := by
  simp [dispatchRefusal]

/-! ### Taking a frame after which the arbiter may pass -/

/-- A frame that calls for no pass, or whose pass serves no one, comes to its effect alone (R139, R165). -/
theorem takeArbitrated_takeFrame_becomes {s : State} (h : s.TakesFrames) (dt : Nat) (f : State → State)
    (k : passTriggered (elapse dt s) (f (elapse dt s)) = false ∨ (f (elapse dt s)).waiting = []) :
    Becomes (takeArbitrated dt (takeFrame f) s) (f (elapse dt s)) := by
  obtain ⟨hlow, hrecv, hroom⟩ := h
  have taken : takeFrame f (elapse dt s) = f (elapse dt s) := takeFrame_taken (by simpa) (by simpa) f
  exact taken ▸ takeArbitrated_becomes_of_idle hlow dt (takeFrame f) (taken.symm ▸ k)

/-- A frame that calls for a pass ends in one (R139, R165). -/
theorem takeArbitrated_takeFrame_passes {s : State} (h : s.TakesFrames) (dt : Nat) (f : State → State)
    (k : passTriggered (elapse dt s) (f (elapse dt s)) = true) :
    Becomes (takeArbitrated dt (takeFrame f) s) (arbiterPass (f (elapse dt s))) := by
  obtain ⟨hlow, hrecv, hroom⟩ := h
  have taken : takeFrame f (elapse dt s) = f (elapse dt s) := takeFrame_taken (by simpa) (by simpa) f
  exact taken ▸ takeArbitrated_passes hlow dt (takeFrame f) (taken.symm ▸ k)

/-! ### Refusals -/

theorem takeDispatch_wrongLength {payload : List Byte} (h : payload.length ≠ 7) (seq : Byte) (s : State) :
    takeDispatch seq payload s = s.withReply (answered kindDispatch seq .badDispatch []) := by
  simp only [takeDispatch, dispatchFields, if_neg h]
  rfl

theorem takeDispatch_refused {payload : List Byte} {d : DispatchFields} {s : State} {code : ReplyCode}
    (hd : dispatchFields payload = some d) (h : dispatchRefusal s d = some code) (seq : Byte) :
    takeDispatch seq payload s = s.withReply (answered kindDispatch seq code []) := by
  simp only [takeDispatch, hd, h]
  rfl

/-- Settles O25: the checks of R22, as the model has them, are those of the statement one by one. -/
theorem dispatchRefusedByFirstFailedCheck : Obligations.DispatchRefusedByFirstFailedCheck := by
  unfold Obligations.DispatchRefusedByFirstFailedCheck
  intro dt seq payload s hs u tag stepIndex slot lane check code hcheck
  have refused : takeDispatch seq payload u = u.withReply (answered kindDispatch seq code []) := by
    by_cases hlen : payload.length = 7
    · have hd : dispatchFields payload = some
          { tag := tag, step := stepIndex, slot := slot, lane := lane, raw := fieldAt payload 6 1 % 2 == 1 } :=
        if_pos hlen
      refine takeDispatch_refused hd ?_ seq
      rw [dispatchRefusal_elapse, dispatchRefusal_eq, ← hcheck]
      exact (if_neg (not_not.mpr hlen)).symm
    · have hcode : ReplyCode.badDispatch = code := Option.some.inj ((if_pos hlen).symm.trans hcheck)
      exact hcode ▸ takeDispatch_wrongLength hlen seq u
  exact refused ▸ takeArbitrated_takeFrame_becomes hs dt (takeDispatch seq payload)
    (Or.inl (refused.symm ▸ passTriggered_of_same rfl (fun _ => rfl) (fun _ => rfl) rfl))

/-! ### An accepted DISPATCH -/

/-- The 7 bytes of a DISPATCH payload (R179). -/
def dispatchPayload (tag : Half) (i slot : Nat) (n : LaneId) (raw : Bool) : List Byte :=
  be16 tag.toNat ++ be16 i ++ [byte slot, byte n.val, byte (if raw then 1 else 0)]

/-- The fields that such a payload carries. -/
@[reducible] def DispatchFields.to (n : LaneId) (tag : Half) (i slot : Nat) (raw : Bool) : DispatchFields :=
  { tag := tag, step := i, slot := slot, lane := n.val, raw := raw }

/-- The fields of a DISPATCH payload are read back (R179). -/
theorem dispatchFields_dispatchPayload (tag : Half) {i slot : Nat} (hi : i ≤ 16383) (hslot : slot ≤ 7) (n : LaneId)
    (raw : Bool) : dispatchFields (dispatchPayload tag i slot n raw) = some (.to n tag i slot raw) := by
  have htag : tag.toNat % 65536 = tag.toNat := Nat.mod_eq_of_lt tag.isLt
  have h1 : i % 65536 = i := Nat.mod_eq_of_lt (by omega)
  have h2 : slot % 256 = slot := Nat.mod_eq_of_lt (by omega)
  have h3 : n.val % 256 = n.val := Nat.mod_eq_of_lt (by omega)
  have h4 : ((if raw then 1 else 0) % 256 % 2 == 1) = raw := by cases raw <;> rfl
  have hlen : (dispatchPayload tag i slot n raw).length = 7 := by simp [dispatchPayload, be16]
  refine (if_pos hlen).trans ?_
  simp only [dispatchPayload, List.append_assoc,
    fieldAt_zero_one, fieldAt_cons_succ, fieldAt_be16, fieldAt_be16_add_two, byte_toNat, htag, h1, h2, h3, h4,
    BitVec.ofNat_toNat, BitVec.setWidth_eq]

/-- The state with an entry at the tail of the Outstanding Table (R23). -/
def State.entering (s : State) (e : Entry) : State := { s with entries := s.entries ++ [e] }

/-- A DISPATCH that passes the checks of R22. -/
structure State.Accepts (s : State) (tag : Half) (i slot : Nat) (n : LaneId) (st : StepRecord) : Prop where
  panelOpen : s.board.panelOpen = true
  index : i ≤ 16383
  step : s.stepAt i = some st
  slot_le : slot ≤ 7
  slotState : s.slotAt slot = .active ∨ s.slotAt slot = .xout
  enabled : s.link.laneEnable.getLsbD n.val = true
  up : (s.lane n).state = .up
  tag : ∀ e ∈ s.entries, e.tag ≠ tag
  room : s.entries.length < 16
  laneRoom : (s.entries.filter (fun e => decide (e.lane = n))).length < 4

theorem State.Accepts.elapse {s : State} {tag : Half} {i slot : Nat} {n : LaneId} {st : StepRecord}
    (h : s.Accepts tag i slot n st) (dt : Nat) : (elapse dt s).Accepts tag i slot n st := by
  obtain ⟨h1, h2, h3, h4, h5, h6, h7, h8, h9, h10⟩ := h
  exact ⟨by simpa, h2, by simpa, h4, by simpa, by simpa, by simpa, by simpa, by simpa, by simpa⟩

theorem dispatchRefusal_none {s : State} {tag : Half} {i slot : Nat} {n : LaneId} {st : StepRecord}
    (h : s.Accepts tag i slot n st) (raw : Bool) :
    dispatchRefusal s (.to n tag i slot raw) = none := by
  obtain ⟨hpanel, hi, hst, hslot, hstate, hen, hup, htag, hroom, hlane⟩ := h
  have lanes : (∀ m : LaneId, m.val = n.val → (s.lane m).state = .up) := fun m hm => Fin.val_inj.mp hm ▸ hup
  have filter : s.entries.filter (fun e => decide (e.lane.val = n.val))
      = s.entries.filter (fun e => decide (e.lane = n)) :=
    List.filter_congr fun e _ => decide_eq_decide.mpr Fin.val_inj
  rw [dispatchRefusal_eq, if_neg (by simp [hpanel]), if_neg (by simp [hi, hst]), if_neg (by simp [hslot, hstate]),
    if_neg (not_not.mpr ⟨Nat.le_of_lt_succ n.isLt, hen, lanes⟩), if_neg (by simpa using htag), if_neg (not_not.mpr hroom),
    if_neg (not_not.mpr (filter ▸ hlane))]

/-- An accepted DISPATCH enters its entry and is answered ACCEPTED (R22, R23). -/
theorem takeDispatch_accepted {s : State} {tag : Half} {i slot : Nat} {n : LaneId} {st : StepRecord}
    (h : s.Accepts tag i slot n st) (raw : Bool) (seq : Byte) :
    takeDispatch seq (dispatchPayload tag i slot n raw) s
      = (acceptDispatch (.to n tag i slot raw) n s).withReply (answered kindDispatch seq .accepted []) := by
  simp only [takeDispatch, dispatchFields_dispatchPayload tag h.index h.slot_le, dispatchRefusal_none h,
    laneOf_eq_some.mpr rfl]
  rfl

/-! ### A new entry in the table -/

section
variable {s : State} {e : Entry} (htag : ∀ x ∈ s.entries, x.tag ≠ e.tag)
include htag

theorem entering_entry? : (s.entering e).entry? e.tag = some e := by
  have absent : s.entries.find? (fun x => x.tag == e.tag) = none :=
    List.find?_eq_none.mpr fun x hx => by simpa using htag x hx
  simp [State.entry?, State.entering, List.find?_append, absent]

theorem entering_modifyEntry (f : Entry → Entry) : (s.entering e).modifyEntry e.tag f = s.entering (f e) := by
  have kept : s.entries.map (fun x => if x.tag = e.tag then f x else x) = s.entries :=
    (List.map_congr_left fun x hx => if_neg (htag x hx)).trans (List.map_id _)
  simp [State.modifyEntry, State.entering, kept]

theorem entering_removeEntry : (s.entering e).removeEntry e.tag = s := by
  have kept : s.entries.filter (fun x => x.tag != e.tag) = s.entries :=
    List.filter_eq_self.mpr fun x hx => by simpa using htag x hx
  simp [State.removeEntry, State.entering, kept]

end

/-- An entry that does not wait leaves the waiting ones. -/
theorem entering_waiting {s : State} {e : Entry} (h : e.state ≠ .waitExc) : (s.entering e).waiting = s.waiting := by
  simp [State.waiting, State.entering, h]

theorem entering_orderList {s : State} {e : Entry} (ho : e.outcome = none) :
    (s.entering e).orderList e.lane = s.orderList e.lane ++ [e] := by
  simp [State.orderList, State.entering, ho]

theorem forward_of_entry? {s : State} {tag : Half} {e : Entry} (h : s.entry? tag = some e) :
    forward tag s = (s.modifyLane e.lane (fun l => l.send (orderOf (s.stepOf e) e))).modifyEntry tag
      (fun x => x.forwarded (s.stepOf e) s.now s.tb.source) := by
  simp [forward, h]

/-- A head that is no longer QUEUED stays (R26). -/
theorem advanceHead_of_past {s : State} {n : LaneId} {h : Entry} {rest : List Entry} (hl : s.orderList n = h :: rest)
    (hs : h.state ≠ .queued) : advanceHead n s = s := by
  simp [advanceHead, hl, hs]

theorem advanceHead_cap {s : State} {n : LaneId} {h : Entry} {rest : List Entry} (hl : s.orderList n = h :: rest)
    (hs : h.state = .queued) (hm : (s.stepOf h).method = .cap) :
    advanceHead n s = s.modifyEntry h.tag (fun x => { x with state := .waitExc }) := by
  simp [advanceHead, hl, hs, hm]

theorem advanceHead_forward {s : State} {n : LaneId} {h : Entry} {rest : List Entry} (hl : s.orderList n = h :: rest)
    (hs : h.state = .queued) (hm : (s.stepOf h).method ≠ .cap) : advanceHead n s = forward h.tag s := by
  simp [advanceHead, hl, hs, hm]

end Sys2Proof.Machine
end

section
/-! SUPPORT. What an accepted DISPATCH leads to on an idle lane, behind a head, and for an entry that is skipped (R23, R26,
R27, R36, R44). -/

namespace Sys2Proof.Machine

section
variable {s : State} {tag : Half} {i slot : Nat} {n : LaneId} {st : StepRecord}
  (h : s.Accepts tag i slot n st) (raw : Bool)
include h

/-- A DISPATCH whose entry is not skipped lets the head of its lane advance (R23). -/
theorem acceptDispatch_enters (hslot : s.slotAt slot = .active) (hA : s.excluded st.netA = false)
    (hB : s.excluded st.netB = false) :
    acceptDispatch (.to n tag i slot raw) n s
      = advanceHead n (s.entering (newEntry (.to n tag i slot raw) n
          s.board.panelSequence st)) := by
  simp [acceptDispatch, h.step, hslot, hA, hB, State.entering]

/-- A DISPATCH for an XOUT slot or an excluded net is fixed as SKIP (R23). -/
theorem acceptDispatch_skips (hskip : s.slotAt slot = .xout ∨ s.excluded st.netA = true ∨ s.excluded st.netB = true) :
    acceptDispatch (.to n tag i slot raw) n s
      = retireFixed tag (s.entering ((newEntry (.to n tag i slot raw) n
          s.board.panelSequence st).fix .skip)) := by
  simp [acceptDispatch, h.step, hskip, State.entering]

theorem stepOf_new {e : Entry} (he : e.step = i) : s.stepOf e = st := by
  simp [State.stepOf, he, h.step]

end

theorem orderList_of_noEntry {s : State} {n : LaneId} (h : ∀ e ∈ s.entries, e.lane ≠ n) : s.orderList n = [] := by
  simpa [State.orderList] using fun e he hl => absurd hl (h e he)

theorem laneRoom_of_noEntry {s : State} {n : LaneId} (h : ∀ e ∈ s.entries, e.lane ≠ n) :
    (s.entries.filter (fun e => decide (e.lane = n))).length < 4 := by
  have idle : s.entries.filter (fun e => decide (e.lane = n)) = [] :=
    List.filter_eq_nil_iff.mpr fun e he => by simpa using h e he
  simp [idle]

/-- The report of an entry whose outcome is fixed joins a queue with a place, and the entry is gone (R36, R44). -/
theorem retireFixed_entering {s : State} {e : Entry} (htag : ∀ x ∈ s.entries, x.tag ≠ e.tag) {o : FixedOutcome}
    (ho : e.outcome = some o) : retireFixed e.tag (s.entering e) = if s.reportFree then
      placeReport (e.report (s.stepOf e) s.now .verdict (some o.verdict) o.cause none false false .absent) false s
      else s.entering e := by
  have free : (s.entering e).reportFree = s.reportFree := rfl
  simp only [retireFixed, entering_entry? htag, ho, free]
  split
  · exact congrArg (placeReport _ false) (entering_removeEntry htag)
  · rfl

/-- Settles O26: the new entry is alone on its order list, so that it is the head and is forwarded. -/
theorem dispatchForwardedOnIdleLane : Obligations.DispatchForwardedOnIdleLane := by
  unfold Obligations.DispatchForwardedOnIdleLane
  intro dt seq tag i slot n raw st s hs hpanel hi hst hslot hactive hA hB hen hup htag hroom hlane hm u payload entry
  have acc : u.Accepts tag i slot n st := State.Accepts.elapse
    ⟨hpanel, hi, hst, hslot, Or.inl hactive, hen, hup, htag, hroom, laneRoom_of_noEntry hlane⟩ dt
  let new := newEntry (.to n tag i slot raw) n u.board.panelSequence st
  have hnew : u.stepOf new = st := stepOf_new acc rfl
  have lookup : (u.entering new).entry? tag = some new := entering_entry? acc.tag
  have alone : (u.entering new).orderList n = [new] := by
    refine (entering_orderList (s := u) (e := new) rfl).trans ?_
    exact congrArg (· ++ [new]) (orderList_of_noEntry (elapse_entries dt s ▸ hlane))
  have forwarded : forward tag (u.entering new)
      = (u.modifyLane n (fun l => l.send (orderOf st new))).entering (new.forwarded st u.now u.tb.source) := by
    refine (forward_of_entry? lookup).trans ?_
    rw [show (u.entering new).stepOf new = st from hnew]
    exact entering_modifyEntry (s := u.modifyLane n (fun l => l.send (orderOf st new))) (e := new) acc.tag _
  have effect : takeDispatch seq payload u
      = ((u.modifyLane n (fun l => l.send (orderOf st new))).entering (new.forwarded st u.now u.tb.source)).withReply
          (answered kindDispatch seq .accepted []) := by
    refine (takeDispatch_accepted acc raw seq).trans (congrArg (State.withReply · _) ?_)
    rw [acceptDispatch_enters acc raw (by simpa [u]) (by simpa [u]) (by simpa [u]),
      advanceHead_forward alone rfl (by rw [show (u.entering new).stepOf new = st from hnew]; exact hm)]
    exact forwarded
  have calm : passTriggered u (takeDispatch seq payload u) = false := by
    rw [effect]
    exact passTriggered_of_same (entering_waiting (by simp [Entry.forwarded])) (fun _ => rfl) (fun _ => rfl) rfl
  have becomes := takeArbitrated_takeFrame_becomes hs dt (takeDispatch seq payload) (Or.inl calm)
  rw [effect] at becomes
  have order : orderOf st new
      = { tag := tag, attempt := 1, range := st.range, samples := st.samples, stimulus := st.stimulus, gen := none } := by
    simp [orderOf, hm, new, newEntry]
  have forwardedEntry : new.forwarded st u.now u.tb.source = entry := by
    simp [Entry.forwarded, hm, new, newEntry, entry, u, State.now]
  rw [order, forwardedEntry] at becomes
  have entries : u.entries = s.entries := elapse_entries dt s
  refine Eq.trans becomes ?_
  rw [← entries]
  rfl

/-- Settles O28: behind a head past QUEUED nothing advances, and a skipped entry waits only for its report's place. -/
theorem dispatchQueuedOrSkipped : Obligations.DispatchQueuedOrSkipped := by
  unfold Obligations.DispatchQueuedOrSkipped
  intro dt seq tag i slot n raw st s hs hpanel hi hst hslot hen hup htag hroom hlane u payload entry reply o skips
  have entries : u.entries = s.entries := elapse_entries dt s
  have accepts (hstate : s.slotAt slot = .active ∨ s.slotAt slot = .xout) : u.Accepts tag i slot n st :=
    State.Accepts.elapse ⟨hpanel, hi, hst, hslot, hstate, hen, hup, htag, hroom, hlane⟩ dt
  let new := newEntry (.to n tag i slot raw) n u.board.panelSequence st
  have hnew : new = entry := by simp [new, newEntry, entry, u]
  have becomes {a : State} (hstate : s.slotAt slot = .active ∨ s.slotAt slot = .xout)
      (ha : acceptDispatch (.to n tag i slot raw) n u = a)
      (hcalm : passTriggered u (a.withReply reply) = false) : Becomes o (a.withReply reply) := by
    have effect : takeDispatch seq payload u = a.withReply reply :=
      (takeDispatch_accepted (accepts hstate) raw seq).trans (congrArg (State.withReply · _) ha)
    exact effect ▸ takeArbitrated_takeFrame_becomes hs dt (takeDispatch seq payload) (Or.inl (effect.symm ▸ hcalm))
  have skipped (hskip : skips) : (s.slotAt slot = .active ∨ s.slotAt slot = .xout)
      ∧ (u.slotAt slot = .xout ∨ u.excluded st.netA = true ∨ u.excluded st.netB = true) := by
    simp only [u, elapse_slotAt, elapse_excluded]
    exact ⟨hskip.elim Or.inr fun h => Or.inl h.1, hskip.imp id And.right⟩
  have retired (hskip : skips) : acceptDispatch (.to n tag i slot raw) n u
      = if u.reportFree then u.withReport (dispatchReport entry st.exponent u.tb.microseconds .verdict (some .skip) none
          none false false .absent) false else u.entering (entry.fix .skip) := by
    have acc := accepts (skipped hskip).1
    refine (acceptDispatch_skips acc raw (skipped hskip).2).trans
      ((retireFixed_entering (e := new.fix .skip) acc.tag rfl).trans ?_)
    rw [stepOf_new acc (e := new.fix .skip) rfl, hnew]
    rfl
  refine ⟨fun hactive hA hB ⟨head, rest, hl, hq⟩ => ?_, fun hskip hfree => ?_, fun hskip hfull => ?_⟩
  · have list : (u.entering new).orderList n = head :: (rest ++ [new]) := by
      rw [show n = new.lane from rfl, entering_orderList rfl, elapse_orderList]
      exact congrArg (· ++ [new]) hl
    have queued : acceptDispatch (.to n tag i slot raw) n u
        = u.entering entry := by
      rw [acceptDispatch_enters (accepts (Or.inl hactive)) raw (by simpa [u]) (by simpa [u]) (by simpa [u]), ← hnew]
      exact advanceHead_of_past list hq
    have calm := passTriggered_of_same (a := u) (b := (u.entering entry).withReply reply)
      (entering_waiting (by simp [entry])) (fun _ => rfl) (fun _ => rfl) rfl
    exact entries ▸ becomes (Or.inl hactive) queued calm
  · have free : u.reportFree = true := (elapse_reportFree dt s).trans (decide_eq_true hfree)
    refine becomes (skipped hskip).1 ((retired hskip).trans (if_pos free)) ?_
    exact passTriggered_of_same rfl (fun _ => rfl) (fun _ => rfl) rfl
  · have full : ¬u.reportFree = true := fun h =>
      Nat.not_lt.mpr hfull (of_decide_eq_true ((elapse_reportFree dt s).symm.trans h))
    have calm := passTriggered_of_same (a := u) (b := (u.entering (entry.fix .skip)).withReply reply)
      (entering_waiting (by simp [Entry.fix])) (fun _ => rfl) (fun _ => rfl) rfl
    exact entries ▸ becomes (skipped hskip).1 ((retired hskip).trans (if_neg full)) calm

end Sys2Proof.Machine
end

section
/-! SUPPORT. The arbiter's pass, the cases in which it serves an entry, and what an accepted CAP DISPATCH leads to (R23, R26,
R27, R138 to R141, R143). -/

namespace Sys2Proof.Machine

/-! ### Attaching (R140) -/

theorem entry?_tag {s : State} {tag : Half} {e : Entry} (h : s.entry? tag = some e) : e.tag = tag := by
  simpa using List.find?_some h

theorem entry?_modifyEntry {f : Entry → Entry} (hf : ∀ y, (f y).tag = y.tag) {s : State} {tag : Half} {e : Entry}
    (h : s.entry? tag = some e) : (s.modifyEntry tag f).entry? tag = some (f e) := by
  have kept : ((fun y => y.tag == tag) ∘ fun y => if y.tag = tag then f y else y) = fun y : Entry => y.tag == tag := by
    funext y
    by_cases ht : y.tag = tag <;> simp [ht, hf]
  simp only [State.entry?, State.modifyEntry, List.find?_map, kept]
  exact congrArg (Option.map _) h |>.trans (congrArg some (if_pos (entry?_tag h)))

/-- The entry as it attaches to a generator and is forwarded (R27, R140). -/
def Entry.attachedTo (g : GenId) (st : StepRecord) (now : Word) (source : Source) (e : Entry) : Entry :=
  ({ e with gen := some g } : Entry).forwarded st now source

/-- A generator with one user more (R138). -/
def Generator.used (x : Generator) : Generator := { x with state := .running, users := x.users + 1 }

/-- A CAP entry attaches: its generator gains a user, its ORDER names the generator (R27, R138, R140). -/
theorem attach_eq {s : State} {tag : Half} {e : Entry} (h : s.entry? tag = some e)
    (hcap : (s.stepOf e).method = .cap) (g : GenId) :
    attach tag g s = ((s.modifyGen g Generator.used).modifyLane e.lane
      (fun l => l.ordered e.tag e.attempt e.range (s.stepOf e) (some g))).modifyEntry tag
        (Entry.attachedTo g (s.stepOf e) s.now s.tb.source) := by
  let chosen : Entry → Entry := fun y => { y with gen := some g }
  have lookup : ((s.modifyEntry tag chosen).modifyGen g Generator.used).entry? tag = some (chosen e) :=
    entry?_modifyEntry (f := chosen) (fun _ => rfl) h
  have step : ((s.modifyEntry tag chosen).modifyGen g Generator.used).stepOf (chosen e) = s.stepOf e := rfl
  have order : ∀ l : Lane, l.send (orderOf (s.stepOf e) (chosen e))
      = l.ordered e.tag e.attempt e.range (s.stepOf e) (some g) := by
    intro l
    simp [Lane.send, orderOf, hcap, Lane.ordered, chosen]
  refine (forward_of_entry? lookup).trans ?_
  simp only [step, order]
  exact modifyEntry_modifyEntry (f := chosen) (fun _ => rfl) ((s.modifyGen g Generator.used).modifyLane e.lane
    (fun l => l.ordered e.tag e.attempt e.range (s.stepOf e) (some g))) tag

/-- In a table of distinct tags a change by tag changes the one entry. -/
theorem modifyEntry_eq_map {s : State} (hnd : (s.entries.map Entry.tag).Nodup) {e : Entry} (he : e ∈ s.entries)
    (a : State) (ha : a.entries = s.entries) (f : Entry → Entry) : a.modifyEntry e.tag f
      = { a with entries := s.entries.map (fun x => if x.tag = e.tag then f e else x) } := by
  refine congrArg (fun l => { a with entries := l }) ?_
  rw [ha]
  refine List.map_congr_left fun x hx => ?_
  split
  · rename_i ht
    rw [eq_of_tag_eq hnd he hx ht]
  · rfl

theorem Entry.attachedTo_cap {st : StepRecord} (hm : st.method = .cap) (g : GenId) (now : Word) (source : Source)
    (e : Entry) : e.attachedTo g st now source = { e with
      state := .forwarded
      gen := some g
      tbFault := false
      xoutMark := false
      tbInternal := decide (source = .internal)
      deadline := some (now + BitVec.ofNat 32 (100 * st.budget))
      trigger := none
      result := none } := by
  simp only [Entry.attachedTo, Entry.forwarded, if_pos hm]

/-! ### The cases of the pass (R139 to R141) -/

theorem arbiterPass_of_pending {s : State} {p : Source} (h : s.tb.pendingSwitch = some p) : arbiterPass s = s := by
  simp [arbiterPass, h]

theorem arbiterPass_serves {s : State} (h : s.tb.pendingSwitch = none) :
    arbiterPass s = serveAll s.waiting s := by
  simp [arbiterPass, h]

/-- A pass that serves one entry. -/
theorem arbiterPass_alone {s : State} {e : Entry} (h : s.tb.pendingSwitch = none) (hw : s.waiting = [e]) :
    arbiterPass s = serveEntry e [] s := by
  rw [arbiterPass_serves h, hw]
  rfl

theorem Generator.standsAt_iff {x : Generator} {i : Nat} : x.standsAt i = true
    ↔ (x.state = .idle ∨ x.state = .running) ∧ x.frequency = some i := by
  simp [Generator.standsAt]

theorem Generator.retuningTo_iff {x : Generator} {i : Nat} : x.retuningTo i = true
    ↔ x.state = .retuning ∧ x.target = some i := by
  simp [Generator.retuningTo]

theorem spokenFor_iff {s : State} {later : List Entry} {g : GenId} : s.spokenFor later g = true
    ↔ ∃ j, (s.gen g).frequency = some j ∧ ∃ x ∈ later, (s.stepOf x).freq = some j := by
  unfold State.spokenFor
  cases (s.gen g).frequency with
  | none => simp
  | some j =>
    have needs : ∀ x, decide (s.needs x = some j) = true ↔ (s.stepOf x).freq = some j := fun x => decide_eq_true_iff
    simp [needs]

section
variable {s : State} {e : Entry} {later : List Entry} {i : Nat} (hi : s.needs e = some i)
include hi

theorem serveEntry_first (h : (s.gen 0).standsAt i = true) : serveEntry e later s = attach e.tag 0 s := by
  simp [serveEntry, hi, h]

variable (h0 : (s.gen 0).standsAt i = false)
include h0

theorem serveEntry_second (h : (s.gen 1).standsAt i = true) : serveEntry e later s = attach e.tag 1 s := by
  simp [serveEntry, hi, h0, h]

variable (h1 : (s.gen 1).standsAt i = false)
include h1

theorem serveEntry_toward (h : (s.gen 0).retuningTo i = true ∨ (s.gen 1).retuningTo i = true) :
    serveEntry e later s = s := by
  simp [serveEntry, hi, h0, h1, h]

variable (r0 : (s.gen 0).retuningTo i = false) (r1 : (s.gen 1).retuningTo i = false)
include r0 r1

theorem serveEntry_retunes {g : GenId} (h : s.idleChoice later = some g) :
    serveEntry e later s = startRetune g i s := by
  simp [serveEntry, hi, h0, h1, r0, r1, h]

theorem serveEntry_waits (h : s.idleChoice later = none) : serveEntry e later s = s := by
  simp [serveEntry, hi, h0, h1, r0, r1, h]

end

/-- The choice of an idle generator, by the generators that are idle (R140, R141). -/
theorem idleChoice_both {s : State} (h0 : (s.gen 0).state = .idle) (h1 : (s.gen 1).state = .idle)
    (later : List Entry) : s.idleChoice later
      = if s.spokenFor later 0 = true ∧ ¬s.spokenFor later 1 = true then some 1 else some 0 := by
  simp [State.idleChoice, h0, h1]

theorem idleChoice_first {s : State} (h0 : (s.gen 0).state = .idle) (h1 : (s.gen 1).state ≠ .idle)
    (later : List Entry) : s.idleChoice later = some 0 := by
  simp [State.idleChoice, h0, h1]

theorem idleChoice_second {s : State} (h0 : (s.gen 0).state ≠ .idle) (h1 : (s.gen 1).state = .idle)
    (later : List Entry) : s.idleChoice later = some 1 := by
  simp [State.idleChoice, h0, h1]

theorem idleChoice_none {s : State} (h0 : (s.gen 0).state ≠ .idle) (h1 : (s.gen 1).state ≠ .idle)
    (later : List Entry) : s.idleChoice later = none := by
  simp [State.idleChoice, h0, h1]

/-! ### The start of a retune (R143) -/

/-- An output at rest takes the target divider at once. -/
theorem Generator.retuneTo_atRest {x : Generator} (h : x.output = none) (i : Nat) (rec : FreqRecord) (now : Nat) :
    x.retuneTo i rec now = { x with
      state := .retuning, target := some i, frequency := some i, latchDivider := rec.divider
      latchSettle := rec.settle, restart := false, output := some rec.divider, origin := some now
      settleRemaining := rec.settle, settling := true, oldCycleEnd := none } := by
  simp [Generator.retuneTo, h, Generator.settleFrom]

/-- A running output goes on to the end of its cycle. -/
theorem Generator.retuneTo_running {x : Generator} {d o : Nat} (hd : x.output = some d) (ho : x.origin = some o)
    (i : Nat) (rec : FreqRecord) (now : Nat) : x.retuneTo i rec now = { x with
      state := .retuning, target := some i, frequency := some i, latchDivider := rec.divider
      latchSettle := rec.settle, restart := false, settleRemaining := 0, settling := false
      oldCycleEnd := some (o + ((now - o) / (2 * d) + 1) * (2 * d)) } := by
  simp [Generator.retuneTo, hd, Generator.cycleEnd, ho]

/-- The end of the cycle that a tick stands in: after it, and at most a cycle away. -/
theorem cycleEnd_bounds {d o now : Nat} (hd : 0 < d) (ho : o ≤ now) :
    now < o + ((now - o) / (2 * d) + 1) * (2 * d) ∧ o + ((now - o) / (2 * d) + 1) * (2 * d) ≤ now + 2 * d := by
  have split := Nat.div_add_mod' (now - o) (2 * d)
  have rest := Nat.mod_lt (now - o) (show 0 < 2 * d by omega)
  rw [Nat.add_mul, Nat.one_mul]
  omega

/-! ### An accepted CAP DISPATCH -/

/-- An entry that enters WAIT_EXC calls for a pass (R139). -/
theorem passTriggered_of_enters {a b : State} {e : Entry} (hb : e ∈ b.waiting)
    (ha : ∀ x ∈ a.entries, x.tag ≠ e.tag) : passTriggered a b = true := by
  have fresh : a.isWaiting e.tag = false := by
    simpa [State.isWaiting, State.waiting] using fun x hx _ => ha x hx
  have enters : b.waiting.any (fun y => !a.isWaiting y.tag) = true := List.any_eq_true.mpr ⟨e, hb, by simp [fresh]⟩
  simp [passTriggered, enters]

/-- A generator that is not settling is the same at a later moment. -/
theorem Generator.elapse_of_not_retuning {x : Generator} (h : x.state ≠ .retuning) (now n : Nat) :
    x.elapse now n = x := by
  simp [Generator.elapse, h]

/-- A waiting entry is the last of those that wait. -/
theorem entering_waiting_last {s : State} {e : Entry} (h : e.state = .waitExc) :
    (s.entering e).waiting = s.waiting ++ [e] := by
  simp [State.waiting, State.entering, h]

section
variable {v : State} {e : Entry} {st : StepRecord} {f : Nat} (htag : ∀ x ∈ v.entries, x.tag ≠ e.tag)
  (hstate : e.state = .waitExc) (hw : v.waiting = []) (hp : v.tb.pendingSwitch = none) (hst : v.stepOf e = st)
  (hf : st.freq = some f)
include hstate hw hp hst hf

/-- With no other entry waiting, a pass serves the new one, which needs the frequency of its step (R139, R140). -/
theorem arbiterPass_entering : arbiterPass (v.entering e) = serveEntry e [] (v.entering e)
    ∧ (v.entering e).needs e = some f :=
  ⟨arbiterPass_alone (s := v.entering e) hp ((entering_waiting_last hstate).trans (congrArg (· ++ [e]) hw)),
    (congrArg StepRecord.freq hst).trans hf⟩

include htag in
/-- With XG0 at its frequency the new entry attaches to it and is forwarded (R140, case 1). -/
theorem arbiterPass_attaches (hm : st.method = .cap) (hidle : (v.gen 0).state ≠ .retuning)
    (hfreq : (v.gen 0).frequency = some f) : arbiterPass (v.entering e)
      = ((v.modifyGen 0 Generator.used).modifyLane e.lane
          (fun l => l.ordered e.tag e.attempt e.range st (some 0))).entering
        (e.attachedTo 0 st v.now v.tb.source) := by
  obtain ⟨serves, needs⟩ := arbiterPass_entering hstate hw hp hst hf
  have stands : ((v.entering e).gen 0).standsAt f = true := by
    refine Generator.standsAt_iff.mpr ⟨?_, hfreq⟩
    change (v.gen 0).state = .idle ∨ (v.gen 0).state = .running
    cases h : (v.gen 0).state with
    | idle => exact Or.inl rfl
    | running => exact Or.inr rfl
    | retuning => exact absurd h hidle
  rw [serves, serveEntry_first needs stands]
  refine (attach_eq (entering_entry? htag) ((congrArg StepRecord.method hst).trans hm) 0).trans ?_
  rw [show (v.entering e).stepOf e = st from hst]
  exact entering_modifyEntry (s := (v.modifyGen 0 Generator.used).modifyLane e.lane
    (fun l => l.ordered e.tag e.attempt e.range st (some 0))) htag (Entry.attachedTo 0 st v.now v.tb.source)

/-- With both generators idle at other frequencies XG0 is put to a retune (R140 case 3, R141). -/
theorem arbiterPass_retunes (hidle : ∀ g, (v.gen g).state = .idle ∧ (v.gen g).frequency ≠ some f) :
    arbiterPass (v.entering e) = startRetune 0 f (v.entering e) := by
  obtain ⟨serves, needs⟩ := arbiterPass_entering hstate hw hp hst hf
  have gen : ∀ g, (v.entering e).gen g = v.gen g := fun _ => rfl
  have away (g : GenId) : ((v.entering e).gen g).standsAt f = false
      ∧ ((v.entering e).gen g).retuningTo f = false := by
    simp [gen, Generator.standsAt, Generator.retuningTo, hidle g]
  have choice : (v.entering e).idleChoice [] = some 0 :=
    (idleChoice_both (hidle 0).1 (hidle 1).1 []).trans
      (if_neg fun h => absurd (spokenFor_iff.mp h.1) (by simp))
  rw [serves]
  exact serveEntry_retunes needs (away 0).1 (away 1).1 (away 0).2 (away 1).2 choice

end

section
variable {s : State} {tag : Half} {i slot : Nat} {n : LaneId} {st : StepRecord}
  (acc : s.Accepts tag i slot n st) (raw : Bool)
include acc

/-- The entry of an accepted CAP DISPATCH alone on its lane waits for excitation (R23, R26). -/
theorem acceptDispatch_cap (hslot : s.slotAt slot = .active) (hA : s.excluded st.netA = false)
    (hB : s.excluded st.netB = false) (hlane : ∀ e ∈ s.entries, e.lane ≠ n) (hm : st.method = .cap) :
    acceptDispatch (.to n tag i slot raw) n s = s.entering { newEntry (.to n tag i slot raw) n s.board.panelSequence st with
      state := .waitExc } := by
  let new := newEntry (.to n tag i slot raw) n s.board.panelSequence st
  have hnew : (s.entering new).stepOf new = st := stepOf_new acc rfl
  have alone : (s.entering new).orderList n = [new] :=
    (entering_orderList (s := s) (e := new) rfl).trans (congrArg (· ++ [new]) (orderList_of_noEntry hlane))
  rw [acceptDispatch_enters acc raw hslot hA hB]
  refine (advanceHead_cap alone rfl (hnew.symm ▸ hm)).trans ?_
  exact entering_modifyEntry (e := new) acc.tag (fun x => { x with state := .waitExc })

end

/-- Settles O27: the new entry enters WAIT_EXC, which calls for a pass; the pass and its cases are those of R139 to R141
one by one. -/
theorem capDispatchWaitsOrAttaches : Obligations.CapDispatchWaitsOrAttaches := by
  unfold Obligations.CapDispatchWaitsOrAttaches
  refine ⟨?_, fun p s h => arbiterPass_of_pending h, fun s h => arbiterPass_serves h, fun _ => rfl, fun _ _ _ => rfl, ?_, ?_⟩
  · intro dt seq tag i slot f n raw st s hs hpanel hi hst hslot hactive hA hB hen hup htag hroom hlane hm hf u payload
      waiting record o reply
    have acc : u.Accepts tag i slot n st := State.Accepts.elapse
      ⟨hpanel, hi, hst, hslot, Or.inl hactive, hen, hup, htag, hroom, laneRoom_of_noEntry hlane⟩ dt
    have entries : u.entries = s.entries := elapse_entries dt s
    let v : State := u.withReply reply
    have vtag : ∀ x ∈ v.entries, x.tag ≠ waiting.tag := acc.tag
    have step : v.stepOf waiting = st := stepOf_new acc rfl
    have effect : takeDispatch seq payload u = v.entering waiting := by
      refine (takeDispatch_accepted acc raw seq).trans ?_
      rw [acceptDispatch_cap acc raw (by simpa [u]) (by simpa [u]) (by simpa [u]) (entries ▸ hlane) hm,
        show u.board = s.board from elapse_board dt s]
      rfl
    have enters : waiting ∈ (v.entering waiting).waiting :=
      entering_waiting_last (s := v) (e := waiting) rfl ▸ List.mem_append_right _ (List.mem_singleton_self _)
    have passes : Becomes o (arbiterPass (v.entering waiting)) :=
      effect ▸ takeArbitrated_takeFrame_passes hs dt (takeDispatch seq payload)
        (effect.symm ▸ passTriggered_of_enters enters acc.tag)
    have pending : v.tb.pendingSwitch = s.tb.pendingSwitch := elapse_pendingSwitch dt s
    have still (g : GenId) (h : (s.gen g).state ≠ .retuning) : v.gen g = s.gen g :=
      (elapse_gen dt s g).trans (Generator.elapse_of_not_retuning h _ _)
    have becomes {a : State} (ha : arbiterPass (v.entering waiting) = a) : Becomes o a := ha ▸ passes
    refine ⟨entries ▸ passes, fun hp => ?_, fun hw hp hstate hfreq => ?_, fun hw hp hidle hrest => ?_⟩
    · obtain ⟨p, hp⟩ := Option.ne_none_iff_exists'.mp hp
      exact entries ▸ becomes (arbiterPass_of_pending (pending.trans hp))
    · have gen : v.gens.get 0 = s.gen 0 := still 0 hstate
      have source : v.tb.source = s.tb.source := elapse_source dt s
      have attaches := arbiterPass_attaches (v := v) vtag rfl ((elapse_waiting dt s).trans hw) (pending.trans hp) step hf hm
        (by rw [still 0 hstate]; exact hstate) (by rw [still 0 hstate]; exact hfreq)
      rw [Entry.attachedTo_cap hm, source] at attaches
      refine becomes (attaches.trans ?_)
      simp only [State.modifyGen, gen, ← entries]
      rfl
    · have same (g : GenId) : v.gen g = s.gen g := still g (by simp [hidle g])
      have gen : v.gens.get 0 = s.gen 0 := same 0
      have freq : (v.entering waiting).freqAt f = record := elapse_freqAt dt s f
      have retunes := arbiterPass_retunes (v := v) (e := waiting) rfl ((elapse_waiting dt s).trans hw)
        (pending.trans hp) step hf (fun g => by rw [same g]; exact hidle g)
      refine becomes (retunes.trans ?_)
      simp only [startRetune, freq]
      refine (congrArg (fun y => { v.entering waiting with gens := v.gens.set 0 y })
        ((congrArg (fun y : Generator => y.retuneTo f record v.tb.ticks) gen).trans
          (Generator.retuneTo_atRest hrest f record v.tb.ticks))).trans ?_
      rw [← entries]
      rfl
  · intro e later i s hok he hm hi At Toward Needed r attached
    have needs : s.needs e = some i := hi
    have stands (g : GenId) : (s.gen g).standsAt i = true ↔ At g := Generator.standsAt_iff
    have heads (g : GenId) : (s.gen g).retuningTo i = true ↔ Toward g := Generator.retuningTo_iff
    have away {g : GenId} (h : ¬At g) : (s.gen g).standsAt i = false := Bool.eq_false_iff.mpr fun k => h ((stands g).mp k)
    have apart {g : GenId} (h : ¬Toward g) : (s.gen g).retuningTo i = false :=
      Bool.eq_false_iff.mpr fun k => h ((heads g).mp k)
    have hnd := nodup_of_outstandingOk hok
    have attaches (g : GenId) : attach e.tag g s = attached g := by
      refine (attach_eq (entry?_of_mem hnd he) hm g).trans ((modifyEntry_eq_map hnd he
        ((s.modifyGen g Generator.used).modifyLane e.lane _) rfl _).trans ?_)
      rw [Entry.attachedTo_cap hm]
      rfl
    refine ⟨fun h0 => (serveEntry_first needs ((stands 0).mpr h0)).trans (attaches 0),
      fun h0 h1 => (serveEntry_second needs (away h0) ((stands 1).mpr h1)).trans (attaches 1),
      fun h0 h1 h => serveEntry_toward needs (away h0) (away h1) (h.imp (heads 0).mpr (heads 1).mpr),
      fun h0 h1 t0 t1 => ⟨fun i0 i1 => ⟨fun n0 n1 => ?_, fun hn => ?_⟩, fun i0 i1 => ?_, fun i0 i1 => ?_, fun i0 i1 => ?_⟩⟩
    · exact serveEntry_retunes needs (away h0) (away h1) (apart t0) (apart t1) ((idleChoice_both i0 i1 later).trans
        (if_pos ⟨spokenFor_iff.mpr n0, fun h => n1 (spokenFor_iff.mp h)⟩))
    · exact serveEntry_retunes needs (away h0) (away h1) (apart t0) (apart t1) ((idleChoice_both i0 i1 later).trans
        (if_neg fun h => hn ⟨spokenFor_iff.mp h.1, fun k => h.2 (spokenFor_iff.mpr k)⟩))
    · exact serveEntry_retunes needs (away h0) (away h1) (apart t0) (apart t1) (idleChoice_first i0 i1 later)
    · exact serveEntry_retunes needs (away h0) (away h1) (apart t0) (apart t1) (idleChoice_second i0 i1 later)
    · exact serveEntry_waits needs (away h0) (away h1) (apart t0) (apart t1) (idleChoice_none i0 i1 later)
  · intro g i s x record tuned
    refine ⟨fun h => ?_, fun d o hd ho hpos hle => ⟨(s.tb.ticks - o) / (2 * d) + 1, (cycleEnd_bounds hpos hle).1,
      (cycleEnd_bounds hpos hle).2, ?_⟩⟩
    · exact congrArg (fun y => { s with gens := s.gens.set g y }) (Generator.retuneTo_atRest h i record s.tb.ticks)
    · exact congrArg (fun y => { s with gens := s.gens.set g y }) (Generator.retuneTo_running hd ho i record s.tb.ticks)

end Sys2Proof.Machine
end

section
/-! SUPPORT. FAILOVER: a posted event reads the clock alone, and no entry enters or leaves WAIT_EXC (R37, R51, R139, R145,
R151). -/

namespace Sys2Proof.Machine

/-- The event unit with an event posted at a moment, or its loss noted (R176). -/
def EventUnit.posted (x : EventUnit) (code : EventCode) (parameter : Nat) (now : Word) : EventUnit :=
  if x.queue.length < Config.eventCapacity then
    { x with queue := x.queue ++
        [{ code := code, urgent := code.urgent, parameter := BitVec.ofNat 16 parameter, timestamp := now }] }
  else { x with overflow := true }

theorem postEvent_eq (code : EventCode) (parameter : Nat) (s : State) :
    postEvent code parameter s = { s with events := s.events.posted code parameter s.now } := by
  unfold postEvent EventUnit.posted
  split <;> rfl

/-- A switch that changes the source does what R150 lists. -/
theorem changeSource_eq (p : Source) (s : State) : changeSource p s = s.switchedTo p := by
  simp only [changeSource, State.switchedTo, postEvent_eq]
  rfl

/-- A pending switch that ends calls for a pass (R139). -/
theorem passTriggered_of_switch_ends {a b : State} (ha : a.tb.pendingSwitch ≠ none) (hb : b.tb.pendingSwitch = none) :
    passTriggered a b = true := by
  simp [passTriggered, hb, Option.isSome_iff_ne_none.mpr ha]

theorem markTbFault_waiting (s : State) : (markTbFault s).waiting = s.waiting := by
  have kept : ∀ l : List Entry, (l.map (fun e =>
      if e.state = .forwarded ∧ (s.stepOf e).method = .cap then { e with tbFault := true } else e)).filter
        (fun e => decide (e.state = .waitExc)) = l.filter (fun e => decide (e.state = .waitExc)) := by
    intro l
    induction l with
    | nil => rfl
    | cons e rest ih =>
      by_cases h : e.state = .forwarded ∧ (s.stepOf e).method = .cap
      · simp [h, ih]
      · simp [h, ih, List.filter_cons]
  exact kept s.entries

/-- The part after a failover (R151). -/
def State.failedOver (s : State) : State :=
  postEvent .clockFail 0
    { s with
      tb := { s.tb with source := .internal, loop := .off, pendingSwitch := none, tbFail := true }
      entries := (markTbFault s).entries
      lanes := s.lanes.map Lane.sourceChanged
      gens := s.gens.map Generator.sourceChanged }

theorem failOver_eq {s : State} (h : s.tb.source = .reference) : failOver s = s.failedOver := by
  simp only [failOver, if_pos h, State.failedOver, postEvent_eq]
  rfl

theorem failedOver_waiting (s : State) : s.failedOver.waiting = s.waiting := by
  rw [State.failedOver, postEvent_eq]
  exact markTbFault_waiting s

theorem Generator.sourceChanged_users (x : Generator) : x.sourceChanged.users = x.users := by
  unfold Generator.sourceChanged
  split <;> rfl

theorem Generator.sourceChanged_state (x : Generator) : x.sourceChanged.state = x.state := by
  unfold Generator.sourceChanged
  split <;> rfl

theorem failedOver_gen (s : State) (g : GenId) : s.failedOver.gen g = (s.gen g).sourceChanged := by
  rw [State.failedOver, postEvent_eq]
  exact PerGen.get_map _ _ g

theorem failedOver_pendingSwitch (s : State) : s.failedOver.tb.pendingSwitch = none := by
  rw [State.failedOver, postEvent_eq]

/-- Settles O51: the failover's steps in one, and a pass exactly when a pending switch ended. -/
theorem failoverForcesInternal : Obligations.FailoverForcesInternal := by
  unfold Obligations.FailoverForcesInternal
  intro dt s hlow u a
  have ha : u.failedOver = a := by
    simp only [State.failedOver, markTbFault, u, elapse_entries, elapse_stepOf, a]
    rfl
  have effect (hsource : s.tb.source = .reference) : failOver u = a :=
    (failOver_eq ((elapse_source dt s).trans hsource)).trans ha
  have pending : u.tb.pendingSwitch = s.tb.pendingSwitch := elapse_pendingSwitch dt s
  refine ⟨fun hsource => ⟨fun h => ?_, fun h => ?_⟩, fun hsource => ?_⟩
  · refine effect hsource ▸ takeArbitrated_becomes_of_idle hlow dt failOver ?_
    rw [show elapse dt s = u from rfl, effect hsource, ← ha, failedOver_waiting]
    refine h.imp (fun hp => ?_) (fun hw => (elapse_waiting dt s).trans hw)
    exact passTriggered_of_same (failedOver_waiting u)
      (fun g => (congrArg _ (failedOver_gen u g)).trans (Generator.sourceChanged_users _))
      (fun g => (congrArg _ (failedOver_gen u g)).trans (Generator.sourceChanged_state _))
      ((failedOver_pendingSwitch u).trans (pending.trans hp).symm)
  · refine effect hsource ▸ takeArbitrated_passes hlow dt failOver ?_
    rw [show elapse dt s = u from rfl, effect hsource, ← ha]
    exact passTriggered_of_switch_ends (pending ▸ h) (failedOver_pendingSwitch u)
  · have idle : failOver u = u :=
      if_neg (by simp [u, hsource])
    refine Eq.trans (takeArbitrated_becomes_of_idle hlow dt failOver (Or.inl ?_)) ?_
    · rw [show elapse dt s = u from rfl, idle]
      exact passTriggered_of_same rfl (fun _ => rfl) (fun _ => rfl) rfl
    · rw [show elapse dt s = u from rfl, idle]

end Sys2Proof.Machine
end

section
/-! SUPPORT. Ends of an attempt and completed reductions: an entry that is judged is forwarded again, or retires with its
report, its generator released (R27 to R35, R61, R63, R65, R82 to R87, R138). -/

namespace Sys2Proof.Machine

/-! ### What the end of an attempt changes in an entry -/

/-- A change of an entry in nothing but what the judging of its attempt brings: state, deadline, trigger and result. -/
def JudgesOnly (f : Entry → Entry) : Prop := ∀ y, f y =
  { y with state := (f y).state, deadline := (f y).deadline, trigger := (f y).trigger, result := (f y).result }

theorem Entry.triggered_judgesOnly (t : Trigger) : JudgesOnly (Entry.triggered t) := fun _ => rfl

/-- An entry with its quantity result (R63). -/
def Entry.withResult (q : Quantity) (e : Entry) : Entry := { e with result := some q }

theorem Entry.withResult_judgesOnly (q : Quantity) : JudgesOnly (Entry.withResult q) := fun _ => rfl

section
variable {f : Entry → Entry} (hf : JudgesOnly f)
include hf

theorem JudgesOnly.tag (y : Entry) : (f y).tag = y.tag := (congrArg Entry.tag (hf y)).trans rfl
theorem JudgesOnly.lane (y : Entry) : (f y).lane = y.lane := (congrArg Entry.lane (hf y)).trans rfl
theorem JudgesOnly.slot (y : Entry) : (f y).slot = y.slot := (congrArg Entry.slot (hf y)).trans rfl
theorem JudgesOnly.range (y : Entry) : (f y).range = y.range := (congrArg Entry.range (hf y)).trans rfl
theorem JudgesOnly.gen (y : Entry) : (f y).gen = y.gen := (congrArg Entry.gen (hf y)).trans rfl
theorem JudgesOnly.attempt (y : Entry) : (f y).attempt = y.attempt := (congrArg Entry.attempt (hf y)).trans rfl
theorem JudgesOnly.outcome (y : Entry) : (f y).outcome = y.outcome := (congrArg Entry.outcome (hf y)).trans rfl

theorem JudgesOnly.stepOf (s : State) (y : Entry) : s.stepOf (f y) = s.stepOf y :=
  (congrArg s.stepOf (hf y)).trans rfl

theorem JudgesOnly.rangeOf (s : State) (y : Entry) : s.rangeOf (f y) = s.rangeOf y :=
  (congrArg s.rangeOf (hf y)).trans rfl

theorem JudgesOnly.report (y : Entry) (st : StepRecord) (now : Word) (kind : ReportKind) (v : Option Verdict)
    (cause : Option VoidCause) (value : Option Nat) (saturated notLearned : Bool) (leader : GroupLeader) :
    (f y).report st now kind v cause value saturated notLearned leader
      = dispatchReport y st.exponent now kind v cause value saturated notLearned leader :=
  (congrArg (fun z : Entry => z.report st now kind v cause value saturated notLearned leader) (hf y)).trans rfl

theorem JudgesOnly.again (y : Entry) (escalate : Option Nat) (st : StepRecord) (now : Word) (source : Source) :
    ((f y).retry escalate).forwarded st now source = y.again escalate (now + BitVec.ofNat 32 (100 * st.budget))
      (if st.method = .cap then decide (source = .internal) else y.tbInternal) :=
  (congrArg (fun z : Entry => (z.retry escalate).forwarded st now source) (hf y)).trans rfl

theorem JudgesOnly.send (y : Entry) (escalate : Option Nat) (st : StepRecord) (l : Lane) :
    l.send (orderOf st ((f y).retry escalate)) = l.ordered y.tag (y.attempt + 1) (escalate.getD y.range) st
      (if st.method = .cap then y.gen else none) :=
  (congrArg (fun z : Entry => l.send (orderOf st (z.retry escalate))) (hf y)).trans rfl

end

/-! ### The decision (R82 to R87) -/

/-- Of an entry the decision on a quantity result reads the attempt number alone. -/
theorem judgeResult_congr {a b : Entry} (h : a.attempt = b.attempt) (st : StepRecord) (rg : RangeRecord) (x : Bool)
    (q : Quantity) : judgeResult st rg x a q = judgeResult st rg x b q := by
  simp [judgeResult, retryOr, budgetRemains, h]

/-- A ready entry meets a free place: its decision is taken and carried out (R34, R82). -/
theorem tryDecide_of_ready {s : State} {x : Entry} (hx : s.entry? x.tag = some x) (hfree : s.reportFree = true)
    (hstate : x.state = .judging) (ho : x.outcome = none) {d : Decision}
    (hd : decision (s.stepOf x) (s.rangeOf x) (decide (s.slotAt x.slot = .xout)) x = some d) :
    tryDecide x.tag s = carryOut x d s := by
  have carries : x.trigger.isSome || x.result.isSome := by
    cases ht : x.trigger with
    | some t => rfl
    | none =>
      cases hr : x.result with
      | some q => rfl
      | none => simp [decision, ht, hr] at hd
  have ready : x.ready = true := by simp [Entry.ready, hstate, ho, carries]
  simp [tryDecide, hfree, decideEntry, hx, ready, hd]

/-! ### A retry (R27, R33) -/

/-- An entry forwarded again (R27, R33). -/
def State.retried (s : State) (e : Entry) (escalate : Option Nat) : State :=
  { s with
    entries := s.entries.map (fun x => if x.tag = e.tag then
      e.again escalate (s.tb.microseconds + BitVec.ofNat 32 (100 * (s.stepOf e).budget))
        (if (s.stepOf e).method = .cap then decide (s.tb.source = .internal) else e.tbInternal) else x)
    lanes := s.lanes.set e.lane ((s.lane e.lane).ordered e.tag (e.attempt + 1) (escalate.getD e.range) (s.stepOf e)
      (if (s.stepOf e).method = .cap then e.gen else none)) }

section
variable {s : State} (hnd : (s.entries.map Entry.tag).Nodup) {e : Entry} (he : e ∈ s.entries) {f : Entry → Entry}
  (hf : JudgesOnly f)
include hnd he hf

theorem carryOut_retry (escalate : Option Nat) :
    carryOut (f e) (.retry escalate) (s.modifyEntry e.tag f) = s.retried e escalate := by
  let again : Entry → Entry := fun y => (f y).retry escalate
  have htag : ∀ y, (again y).tag = y.tag := hf.tag
  have merged : (s.modifyEntry e.tag f).modifyEntry e.tag (fun x => x.retry escalate) = s.modifyEntry e.tag again :=
    modifyEntry_modifyEntry hf.tag s e.tag
  have lookup : (s.modifyEntry e.tag again).entry? e.tag = some (again e) :=
    entry?_modifyEntry htag (entry?_of_mem hnd he)
  have step : (s.modifyEntry e.tag again).stepOf (again e) = s.stepOf e := hf.stepOf s e
  have lane : (again e).lane = e.lane := hf.lane e
  have order : ∀ l : Lane, l.send (orderOf (s.stepOf e) (again e)) = _ := hf.send e escalate (s.stepOf e)
  simp only [carryOut, hf.tag, merged, forward_of_entry? lookup, step, lane, order]
  refine (modifyEntry_modifyEntry htag (s.modifyLane e.lane (fun l => l.ordered e.tag (e.attempt + 1)
    (escalate.getD e.range) (s.stepOf e) (if (s.stepOf e).method = .cap then e.gen else none))) e.tag).trans ?_
  refine (modifyEntry_eq_map hnd he (s.modifyLane e.lane _) rfl _).trans ?_
  rw [hf.again]
  rfl

end

/-- A change of an entry that waits neither before nor after leaves the waiting ones. -/
theorem waiting_map {s : State} (hnd : (s.entries.map Entry.tag).Nodup) {e x : Entry} (he : e ∈ s.entries)
    (hstate : e.state ≠ .waitExc) (hx : x.state ≠ .waitExc) :
    (s.entries.map (fun y => if y.tag = e.tag then x else y)).filter (fun y => decide (y.state = .waitExc))
      = s.waiting := by
  rw [List.filter_map, State.waiting]
  have same : ∀ y ∈ s.entries, ((fun y => decide (y.state = .waitExc)) ∘ fun y => if y.tag = e.tag then x else y) y
      = decide (y.state = .waitExc) := by
    intro y hy
    by_cases ht : y.tag = e.tag
    · simp [eq_of_tag_eq hnd he hy ht, hx, hstate]
    · simp [ht]
  rw [List.filter_congr same]
  refine (List.map_congr_left fun y hy => if_neg fun ht => ?_).trans (List.map_id _)
  obtain ⟨hy, hwait⟩ := List.mem_filter.mp hy
  exact hstate (eq_of_tag_eq hnd he hy ht ▸ of_decide_eq_true hwait)

theorem modifyEntry_waiting {s : State} (hnd : (s.entries.map Entry.tag).Nodup) {e : Entry} (he : e ∈ s.entries)
    (hstate : e.state ≠ .waitExc) (a : State) (ha : a.entries = s.entries) {f : Entry → Entry}
    (hf : (f e).state ≠ .waitExc) : (a.modifyEntry e.tag f).waiting = s.waiting := by
  rw [modifyEntry_eq_map hnd he a ha]
  exact waiting_map hnd he hstate hf

/-- A retry leaves those that wait for excitation (R139). -/
theorem retried_waiting {s : State} (hnd : (s.entries.map Entry.tag).Nodup) {e : Entry} (he : e ∈ s.entries)
    (hstate : e.state ≠ .waitExc) (escalate : Option Nat) : (s.retried e escalate).waiting = s.waiting :=
  waiting_map hnd he hstate (by simp [Entry.again])

/-! ### A retirement (R35, R138) -/

/-- The part after an entry has released its generator and left the table; a release lets a pending switch change the
source (R35, R138, R150). -/
def State.closing (s : State) (e : Entry) : State :=
  if e.gen = none then s.retiring e else checkSwitch (s.retiring e)

theorem checkSwitch_of_calm {s : State} (h : s.tb.pendingSwitch = none) : checkSwitch s = s := by
  simp [checkSwitch, h]

theorem checkSwitch_of_pending {s : State} {p : Source} (h : s.tb.pendingSwitch = some p) : checkSwitch s
    = if (p = .internal ∨ s.tb.loop = .locked) ∧ s.noUsers = true then s.switchedTo p else s := by
  simp [checkSwitch, h, changeSource_eq]

theorem checkSwitch_of_users {s : State} {g : GenId} (h : (s.gen g).users ≠ 0) : checkSwitch s = s := by
  have busy : ¬s.noUsers = true := by
    simp only [State.noUsers, Bool.and_eq_true, decide_eq_true_eq]
    rintro ⟨h0, h1⟩
    fin_cases g
    exacts [h h0, h h1]
  cases hp : s.tb.pendingSwitch with
  | none => exact checkSwitch_of_calm hp
  | some p => exact (checkSwitch_of_pending hp).trans (if_neg fun k => busy k.2)

theorem switchedTo_removeEntry (s : State) (p : Source) (tag : Half) :
    (s.switchedTo p).removeEntry tag = (s.removeEntry tag).switchedTo p := by
  simp only [State.switchedTo, postEvent_eq]
  rfl

/-- Whether a switch changes the source does not hang on the table. -/
theorem checkSwitch_removeEntry (s : State) (tag : Half) :
    (checkSwitch s).removeEntry tag = checkSwitch (s.removeEntry tag) := by
  cases hp : s.tb.pendingSwitch with
  | none => rw [checkSwitch_of_calm hp, checkSwitch_of_calm (s := s.removeEntry tag) hp]
  | some p =>
    rw [checkSwitch_of_pending hp, checkSwitch_of_pending (s := s.removeEntry tag) hp]
    by_cases h : (p = .internal ∨ s.tb.loop = .locked) ∧ s.noUsers = true
    · rw [if_pos h, switchedTo_removeEntry]
      exact (if_pos h).symm
    · rw [if_neg h]
      exact (if_neg h).symm

theorem closing_of_calm {s : State} {e : Entry} (h : e.gen = none ∨ s.tb.pendingSwitch = none) :
    s.closing e = s.retiring e := by
  rcases h with h | h
  · exact if_pos h
  · unfold State.closing
    split
    · rfl
    · exact checkSwitch_of_calm h

/-- The release of a generator (R138). -/
theorem releaseGen_of_gen {s : State} {x : Entry} {tag : Half} {g : GenId} (hx : s.entry? tag = some x)
    (hg : x.gen = some g) : releaseGen tag s
      = checkSwitch { s.modifyEntry tag (fun y => { y with gen := none }) with gens := releasedGens s.gens x.gen } := by
  simp only [releaseGen, hx, hg]
  split
  · rfl
  · rename_i husers
    exact (checkSwitch_of_users husers).symm

theorem releaseGen_of_none {s : State} {x : Entry} {tag : Half} (hx : s.entry? tag = some x) (hg : x.gen = none) :
    releaseGen tag s = s := by
  simp [releaseGen, hx, hg]

section
variable {s : State} (hnd : (s.entries.map Entry.tag).Nodup) {e : Entry} (he : e ∈ s.entries) {f : Entry → Entry}
  (hf : JudgesOnly f)
include hnd he hf

/-- What the release of a judged entry's generator leaves, once the entry has left the table. -/
theorem removeEntry_releaseGen : (releaseGen e.tag (s.modifyEntry e.tag f)).removeEntry e.tag = s.closing e := by
  have lookup : (s.modifyEntry e.tag f).entry? e.tag = some (f e) := entry?_modifyEntry hf.tag (entry?_of_mem hnd he)
  cases hg : e.gen with
  | none =>
    rw [releaseGen_of_none lookup ((hf.gen e).trans hg), closing_of_calm (Or.inl hg), removeEntry_modifyEntry hf.tag,
      State.retiring, hg, without_eq_removeEntry]
    rfl
  | some g =>
    let freed : State := { s with gens := releasedGens s.gens e.gen }
    have leaves : ((freed.modifyEntry e.tag f).modifyEntry e.tag (fun x => { x with gen := none })).removeEntry e.tag
        = s.retiring e :=
      (removeEntry_modifyEntry (f := fun x => { x with gen := none }) (fun _ => rfl) _ e.tag).trans
        ((removeEntry_modifyEntry hf.tag freed e.tag).trans (without_eq_removeEntry _ _).symm)
    rw [releaseGen_of_gen lookup ((hf.gen e).trans hg), checkSwitch_removeEntry, State.closing,
      if_neg (by simp [hg]), ← leaves, hf.gen]
    rfl

theorem closeEntry_judged : closeEntry (f e) (s.modifyEntry e.tag f) = advanceHead e.lane (s.closing e) := by
  rw [closeEntry, hf.tag, hf.lane, removeEntry_releaseGen hnd he hf]

end

/-- With no other entry on its lane nothing advances behind a retired one (R26). -/
theorem advanceHead_alone {s a : State} {e : Entry} {n : LaneId} (ha : a.entries = (s.without e.tag).entries)
    (h : ∀ x ∈ s.entries, x.lane = n → x = e) : advanceHead n a = a := by
  have alone : a.orderList n = [] := by
    rw [State.orderList, ha]
    refine List.filter_eq_nil_iff.mpr fun x hx => ?_
    obtain ⟨hx, ht⟩ := List.mem_filter.mp hx
    have hne : x.tag ≠ e.tag := of_decide_eq_true ht
    have hlane : x.lane ≠ n := fun hl => hne (congrArg Entry.tag (h x hx hl))
    simp [hlane]
  simp [advanceHead, alone]

theorem closing_entries (s : State) (e : Entry) : (s.closing e).entries = (s.without e.tag).entries := by
  unfold State.closing
  split
  · rfl
  · exact checkSwitch_entries _

/-- The part with the report of a terminal verdict placed, its nets raised and its offsets written (R35 step 1, R91, R98). -/
def State.reported (s : State) (e : Entry) (t : Terminal) : State :=
  let raised := raiseNet e.slot (s.stepOf e).netB t.verdict (raiseNet e.slot (s.stepOf e).netA t.verdict
    (s.withReport (dispatchReport e (s.stepOf e).exponent s.tb.microseconds .verdict (some t.verdict) t.cause t.value
      t.saturated false .absent) false))
  match t.offset with
  | none => raised
  | some z => raised.setOffset e.lane e.range z

theorem raiseNet_modifyEntry (slot : Nat) (net : Option Nat) (v : Verdict) (s : State) (tag : Half)
    (f : Entry → Entry) : raiseNet slot net v (s.modifyEntry tag f) = (raiseNet slot net v s).modifyEntry tag f := by
  unfold raiseNet
  split <;> rfl

theorem reportVerdict_judged {f : Entry → Entry} (hf : JudgesOnly f) (s : State) (e : Entry) (t : Terminal) :
    reportVerdict (f e) t (s.modifyEntry e.tag f) = (s.reported e t).modifyEntry e.tag f := by
  have step : (s.modifyEntry e.tag f).stepOf (f e) = s.stepOf e := hf.stepOf s e
  have place : placeReport (dispatchReport e (s.stepOf e).exponent s.now .verdict (some t.verdict) t.cause t.value
      t.saturated false .absent) false (s.modifyEntry e.tag f)
      = (s.withReport (dispatchReport e (s.stepOf e).exponent s.tb.microseconds .verdict (some t.verdict) t.cause t.value
      t.saturated false .absent) false).modifyEntry e.tag f := rfl
  have now : (s.modifyEntry e.tag f).now = s.now := rfl
  simp only [reportVerdict, step, hf.report, now, place, raiseNet_modifyEntry, hf.slot, hf.lane, hf.range, State.reported]
  cases t.offset <;> rfl

@[simp] theorem reported_entries (s : State) (e : Entry) (t : Terminal) : (s.reported e t).entries = s.entries := by
  unfold State.reported
  split <;> simp [State.withReport]

@[simp] theorem reported_tb (s : State) (e : Entry) (t : Terminal) : (s.reported e t).tb = s.tb := by
  unfold State.reported
  split <;> simp [State.withReport]

@[simp] theorem reported_gens (s : State) (e : Entry) (t : Terminal) : (s.reported e t).gens = s.gens := by
  unfold State.reported
  split <;> simp [State.withReport]

@[simp] theorem reported_lanes (s : State) (e : Entry) (t : Terminal) : (s.reported e t).lanes = s.lanes := by
  unfold State.reported
  split <;> simp [State.withReport]

/-- A terminal outcome short of SHORT retires its entry (R35). -/
theorem carryOut_terminal {s : State} (hnd : (s.entries.map Entry.tag).Nodup) {e : Entry} (he : e ∈ s.entries)
    {f : Entry → Entry} (hf : JudgesOnly f) {t : Terminal} (ht : t.verdict ≠ .short) :
    carryOut (f e) (.terminal t) (s.modifyEntry e.tag f) = advanceHead e.lane ((s.reported e t).closing e) := by
  simp only [carryOut, retire, if_neg ht, reportVerdict_judged hf]
  exact closeEntry_judged (by simpa using hnd) (by simpa using he) hf

/-! ### The end of an attempt in a trigger (R28 to R32) -/

/-- The part with a lane's attempt closed (R29). -/
def State.attemptClosed (s : State) (n : LaneId) (a : AttemptId) : State :=
  { s with lanes := s.lanes.set n { s.lane n with lastClosed := some a, openAttempt := none, selection := none } }

section
variable {s : State} {n : LaneId} {e : Entry} {number : Nat} (hnd : (s.entries.map Entry.tag).Nodup)
  (he : e ∈ s.entries) (hstate : e.state = .forwarded) (hmark : e.xoutMark = false) (ho : e.outcome = none)
  (hopen : (s.lane n).openAttempt = some { tag := e.tag, attempt := number }) (hfree : s.reportFree = true)
  {how : AttemptEnd} {t : Trigger} (ht : triggerOf (s.stepOf e) e how = some t)
include hnd he hmark ho hopen hfree ht

/-- The trigger of an attempt's end is decided on in the same event (R31, R34, R82). -/
theorem endAttempt_decides {d : Decision} (hd : retryOr (s.stepOf e) (e.triggered t)
    (decide (s.slotAt e.slot = .xout)) none (.voided t.cause) = d) :
    endAttempt n e.tag how s = carryOut (e.triggered t) d
      ((s.attemptClosed n { tag := e.tag, attempt := number }).modifyEntry e.tag (Entry.triggered t)) := by
  have closed : closeAttempt n s = s.attemptClosed n { tag := e.tag, attempt := number } := closeAttempt_eq hopen
  have lookup := entry?_modifyEntry (f := Entry.triggered t) (fun _ => rfl)
    (s := s.attemptClosed n { tag := e.tag, attempt := number }) (entry?_of_mem hnd he)
  rw [endAttempt_triggered hnd he hmark ht, closed]
  exact tryDecide_of_ready (x := e.triggered t) lookup hfree rfl ho (congrArg some hd)

/-- With budget left, on a slot that is not XOUT, the entry is forwarded again (R32, R33). -/
theorem endAttempt_retries (hbudget : e.attempt < (s.stepOf e).retryLimit + 1) (hslot : s.slotAt e.slot ≠ .xout) :
    endAttempt n e.tag how s = (s.attemptClosed n { tag := e.tag, attempt := number }).retried e none := by
  have decides : retryOr (s.stepOf e) (e.triggered t) (decide (s.slotAt e.slot = .xout)) none (.voided t.cause)
      = .retry none := by
    simp [retryOr, budgetRemains, Entry.triggered, Entry.ended, hbudget, hslot]
  rw [endAttempt_decides hnd he hmark ho hopen hfree ht decides]
  exact carryOut_retry (s := s.attemptClosed n _) hnd he (Entry.triggered_judgesOnly t) none

/-- With the budget spent, the entry retires as VOID with the trigger's cause (R32, R86). -/
theorem endAttempt_voids (hbudget : e.attempt = (s.stepOf e).retryLimit + 1) (hlane : e.lane = n)
    (halone : ∀ x ∈ s.entries, x.lane = n → x = e) (hg : e.gen = none ∨ s.tb.pendingSwitch = none) :
    endAttempt n e.tag how s = ((s.attemptClosed n { tag := e.tag, attempt := number }).withReport
      (dispatchReport e (s.stepOf e).exponent s.tb.microseconds .verdict (some .void) (some t.cause) none false false
        .absent) false).retiring e := by
  let closed := s.attemptClosed n { tag := e.tag, attempt := number }
  have decides : retryOr (s.stepOf e) (e.triggered t) (decide (s.slotAt e.slot = .xout)) none (.voided t.cause)
      = .terminal (.voided t.cause) := by
    simp [retryOr, budgetRemains, Entry.triggered, Entry.ended, hbudget]
  have unraised : closed.reported e (.voided t.cause) = closed.withReport
      (dispatchReport e (s.stepOf e).exponent s.tb.microseconds .verdict (some .void) (some t.cause) none false false
        .absent) false := by
    have stays : ∀ net a, raiseNet e.slot net .void a = a := by
      intro net a
      cases net <;> rfl
    simp only [State.reported, Terminal.voided, stays]
    rfl
  have calm : e.gen = none ∨ (closed.reported e (.voided t.cause)).tb.pendingSwitch = none := by
    rw [reported_tb]
    exact hg
  rw [endAttempt_decides hnd he hmark ho hopen hfree ht decides]
  refine (carryOut_terminal (s := closed) hnd he (Entry.triggered_judgesOnly t) (by simp [Terminal.voided])).trans ?_
  rw [closing_of_calm calm, unraised]
  exact advanceHead_alone (s := s) rfl (hlane ▸ halone)

end

section
variable {dt : Nat} {s : State} {n : LaneId} {e : Entry} {number : Byte} {a : State} (hlow : s.resetLow = false)
  (hup : (s.lane n).state = .up) (hopen : (s.lane n).openAttempt = some { tag := e.tag, attempt := number.toNat })
  (hcalm : passTriggered (elapse dt s) a = false ∨ a.waiting = [])
include hlow hup hopen hcalm

/-- A FAULT of the open attempt comes to its end (R57). -/
theorem fault_becomes (heff : endAttempt n e.tag .faulted (elapse dt s) = a) : Becomes
    (exec (.fault dt n { crcGood := true, payloadLength := 4, tag := e.tag, attempt := number }) s) a := by
  have effect : takeFault n { crcGood := true, payloadLength := 4, tag := e.tag, attempt := number } (elapse dt s)
      = a :=
    (takeAnswer_delivered (by simpa using hup) (by simpa using hopen) .faulted).trans heff
  exact effect ▸ takeArbitrated_becomes_of_idle hlow dt (takeFault n _) (effect.symm ▸ hcalm)

/-- A good BURST of the open attempt comes to its end (R57). -/
theorem burst_becomes {f : BurstFrame} (hgood : burstGood f = true) (htag : f.tag = e.tag) (hnumber : f.attempt = number)
    (heff : endAttempt n e.tag (.answered f) (elapse dt s) = a) : Becomes (exec (.burst dt n f) s) a := by
  have effect : takeBurst n f (elapse dt s) = a := by
    rw [takeBurst, if_pos hgood, htag, hnumber]
    exact (takeAnswer_delivered (by simpa using hup) (by simpa using hopen) (.answered f)).trans heff
  exact effect ▸ takeArbitrated_becomes_of_idle hlow dt (takeBurst n f) (effect.symm ▸ hcalm)

omit hup in
/-- The expiry of the open attempt comes to its end (R28). -/
theorem expiry_becomes (hnd : (s.entries.map Entry.tag).Nodup) (he : e ∈ s.entries) (hstate : e.state = .forwarded)
    {d : Word} (hd : e.deadline = some d) (hreach : ((elapse dt s).tb.microseconds - d).toNat < 2147483648)
    (heff : endAttempt n e.tag .expiry (elapse dt s) = a) : Becomes (exec (.attemptExpiry dt n) s) a := by
  have lookup : (elapse dt s).entry? e.tag = some e := entry?_of_mem (by simpa using hnd) (by simpa using he)
  have effect : expireAttempt n (elapse dt s) = a :=
    (expireAttempt_reached (by simpa using hopen) lookup hd hstate hreach).trans heff
  exact effect ▸ takeArbitrated_becomes_of_idle hlow dt (expireAttempt n) (effect.symm ▸ hcalm)

end

/-! ### A completed reduction (R63) -/

theorem Reduction.takePairs_tag (k : Nat) (r : Reduction) : (r.takePairs k).tag = r.tag := by
  induction k generalizing r with
  | zero => rfl
  | succ k ih =>
    unfold Reduction.takePairs
    split
    · rfl
    · exact ih _

theorem Reduction.takePairs_of_length_le {k : Nat} {r : Reduction} (h : r.burst.length ≤ k) : r.takePairs k = r.takeAll := by
  have rest : ∀ (j : Nat) (x : Reduction), x.burst.length ≤ j → x.takePairs j = x.takePairs x.burst.length := by
    intro j
    induction j with
    | zero => intro x hx; rw [Nat.le_zero.mp hx]
    | succ j ih =>
      intro x hx
      cases hb : x.burst with
      | nil => simp [Reduction.takePairs, hb]
      | cons p rest =>
        have : rest.length ≤ j := by simpa [hb] using hx
        simpa [Reduction.takePairs, hb] using ih { x.addPair p with burst := rest } this
  exact rest k r h

theorem Reduction.takePairs_burst_length (k : Nat) (r : Reduction) :
    (r.takePairs k).burst.length = r.burst.length - k := by
  induction k generalizing r with
  | zero => rfl
  | succ k ih =>
    cases hb : r.burst with
    | nil => simp [Reduction.takePairs, hb]
    | cons p rest => simp [Reduction.takePairs, hb, ih]

/-- Pairs taken meanwhile are in the sums when the rest is taken (R62, R63). -/
theorem Reduction.takeAll_takePairs (k : Nat) (r : Reduction) : (r.takePairs k).takeAll = r.takeAll := by
  rw [Reduction.takeAll, Reduction.takePairs_takePairs, Reduction.takePairs_burst_length]
  exact Reduction.takePairs_of_length_le (by omega)

/-- The quantity result that a lane's reduction of an entry comes to (R63, R69). -/
def State.quantityFor (s : State) (r : Reduction) (e : Entry) : Quantity :=
  quantityOf r.takeAll (s.rangeOf e) (s.freqAt ((s.stepOf e).freq.getD 0)).g (s.stepOf e).exponent

section
variable {dt : Nat} {s : State} {n : LaneId} {e : Entry} {r : Reduction} (hnd : (s.entries.map Entry.tag).Nodup)
  (hr : s.reductions.get n = some r) (he : e ∈ s.entries) (htag : e.tag = r.tag)
include hnd hr he htag

/-- A completed reduction leaves its slot IDLE and its result with the entry, which is decided on (R34, R63). -/
theorem completeReduction_eq : completeReduction n (elapse dt s) = tryDecide e.tag
    (((elapse dt s).setReduction n none).modifyEntry e.tag (Entry.withResult (s.quantityFor r e))) := by
  have slot : (elapse dt s).reductions.get n = some (r.takePairs dt) := by simp [hr]
  have lookup : ((elapse dt s).setReduction n none).entry? e.tag = some e :=
    entry?_of_mem (by simpa using hnd) (by simpa using he)
  have quantity : quantityOf (r.takePairs dt).takeAll (((elapse dt s).setReduction n none).rangeOf e)
      (((elapse dt s).setReduction n none).freqAt
        ((((elapse dt s).setReduction n none).stepOf e).freq.getD 0)).g
      (((elapse dt s).setReduction n none).stepOf e).exponent = s.quantityFor r e := by
    rw [Reduction.takeAll_takePairs]
    simp [State.quantityFor, State.rangeOf, State.rangeAt, State.freqAt, State.stepOf, State.stepAt]
  simp only [completeReduction, slot, Reduction.takePairs_tag, ← htag, lookup, quantity]
  rfl

/-- With a free place the decision on the result is carried out (R34, R82). -/
theorem completeReduction_decides (hstate : e.state = .judging) (ho : e.outcome = none) (ht : e.trigger = none)
    (hfree : s.reportFree = true) {d : Decision}
    (hd : judgeResult (s.stepOf e) (s.rangeOf e) (decide (s.slotAt e.slot = .xout)) e (s.quantityFor r e) = d) :
    completeReduction n (elapse dt s) = carryOut (e.withResult (s.quantityFor r e)) d
      (((elapse dt s).setReduction n none).modifyEntry e.tag (Entry.withResult (s.quantityFor r e))) := by
  let x := e.withResult (s.quantityFor r e)
  let a := ((elapse dt s).setReduction n none).modifyEntry e.tag (Entry.withResult (s.quantityFor r e))
  have lookup : a.entry? x.tag = some x := entry?_modifyEntry (f := Entry.withResult (s.quantityFor r e)) (fun _ => rfl)
    (s := (elapse dt s).setReduction n none) (entry?_of_mem (by simpa using hnd) (by simpa using he))
  have decides : decision (a.stepOf x) (a.rangeOf x) (decide (a.slotAt x.slot = .xout)) x = some d := by
    have step : a.stepOf x = s.stepOf e := elapse_stepOf dt s e
    have range : a.rangeOf x = s.rangeOf e := congrArg (Option.getD · RangeRecord.blank) (elapse_rangeAt dt s e.range)
    have slot : a.slotAt x.slot = s.slotAt e.slot := elapse_slotAt dt s e.slot
    rw [step, range, slot, ← hd]
    have result : x.result = some (s.quantityFor r e) := rfl
    have trigger : x.trigger = none := ht
    simp only [decision, trigger, result]
    exact congrArg some (judgeResult_congr rfl _ _ _ _)
  exact (completeReduction_eq hnd hr he htag).trans
    (tryDecide_of_ready lookup ((elapse_reportFree dt s).trans hfree) hstate ho decides)

end

/-! ### The statements -/

theorem reportFree_of_lt {s : State} (h : s.reports.queue.length < 32) : s.reportFree = true := decide_eq_true h

/-- An event after which the same entries wait, with the generators and the switch as they were, calls for no pass. -/
theorem passTriggered_of_kept {a b : State} (hw : b.waiting = a.waiting) (hg : b.gens = a.gens) (ht : b.tb = a.tb) :
    passTriggered a b = false :=
  passTriggered_of_same hw (fun g => by rw [State.gen, hg]; rfl) (fun g => by rw [State.gen, hg]; rfl) (by rw [ht])

/-- An attempt that ends in a good BURST with no trigger starts its reduction (R31, R61). -/
theorem endAttempt_reduces {s : State} {n : LaneId} {e : Entry} (hnd : (s.entries.map Entry.tag).Nodup)
    (he : e ∈ s.entries) (hmark : e.xoutMark = false) {a : AttemptId} (hopen : (s.lane n).openAttempt = some a)
    (ha : a.tag = e.tag) {f : BurstFrame} (ht : triggerOf (s.stepOf e) e (.answered f) = none) :
    endAttempt n e.tag (.answered f) s
      = startReduction e.ended (s.stepOf e) f ((s.attemptClosed n a).modifyEntry e.tag Entry.ended) := by
  have closed : closeAttempt n s = s.attemptClosed n a := by
    obtain ⟨tag, number⟩ := a
    obtain rfl : tag = e.tag := ha
    exact closeAttempt_eq hopen
  have lookup : ((s.attemptClosed n a).modifyEntry e.tag
      (fun y => { y with state := .judging, deadline := none })).entry? e.tag = some e.ended :=
    closed ▸ entry?_ended (n := n) hnd he
  have untriggered : triggerOf (((s.attemptClosed n a).modifyEntry e.tag
      (fun y => { y with state := .judging, deadline := none })).stepOf e.ended) e.ended (.answered f) = none :=
    (triggerOf_ended _ e _).trans ht
  simp only [endAttempt, closed, lookup, untriggered]
  exact if_neg (by simp [Entry.ended, hmark])

/-- Settles O36: the DU's checks find no trigger, and the reduction that starts leaves the arbiter nothing to do. -/
theorem burstDeliveredStartsReduction : Obligations.BurstDeliveredStartsReduction := by
  unfold Obligations.BurstDeliveredStartsReduction
  intro dt n f e s hlow hok he hlane hstate ho hmark hfault hup hopen htag hcrc hcount hlength hpairs h0 h1 hsamples u z a
    copy
  subst hlane
  have hnd := nodup_of_outstandingOk hok
  have hnd' : (u.entries.map Entry.tag).Nodup := by simpa [u] using hnd
  have he' : e ∈ u.entries := by simpa [u] using he
  have hgood : burstGood f = true := by simp [burstGood, hcrc, hcount, hlength, hpairs, Config.pairCountMax]
  have noTrigger : triggerOf (u.stepOf e) e (.answered f) = none := by
    simp only [triggerOf, h0, h1]
    simp [u, hsamples, hfault]
  have reduces := endAttempt_reduces hnd' he' hmark (n := e.lane) (by simpa [u] using hopen) htag.symm noTrigger
  have tuned : (u.attemptClosed e.lane { tag := f.tag, attempt := f.attempt.toNat }).offsetAt e.lane e.range = z := by
    simp [State.offsetAt, State.attemptClosed, u, z]
  have reducing : ((u.attemptClosed e.lane { tag := f.tag, attempt := f.attempt.toNat }).modifyEntry e.tag
      Entry.ended).setReduction e.lane (some (Reduction.start e.tag e.attempt (u.stepOf e).method f.pairCount.toNat z
        f.pairs)) = a := by
    simp only [State.modifyEntry, State.attemptClosed, State.setReduction, htag, a, u, elapse_entries, elapse_stepOf]
    rfl
  have started : endAttempt e.lane e.tag (.answered f) u = captureRaw e.ended z f a :=
    reduces.trans (by rw [← reducing, ← tuned]; rfl)
  have captured : captureRaw e.ended z f a
      = if e.raw = true ∧ s.link.rawCopy = true then
          (if s.raw.length < 2 then { a with raw := s.raw ++ [copy] } else postEvent .rawDropped e.lane.val a)
        else a := by
    have raw : a.raw = s.raw := elapse_raw dt s
    have setting : a.link.rawCopy = s.link.rawCopy := elapse_rawCopy dt s
    simp only [captureRaw, raw, setting, copy, ← hpairs, ← htag, Bool.and_eq_true]
    rfl
  have calm : passTriggered u (captureRaw e.ended z f a) = false := by
    have waits : a.waiting = u.waiting := by
      rw [← reducing]
      exact modifyEntry_waiting hnd' he' (by simp [hstate]) (u.attemptClosed e.lane _) rfl (f := Entry.ended)
        (by simp [Entry.ended])
    exact passTriggered_of_kept (by simpa [State.waiting] using waits) (by simp [a]) (by simp [a])
  rw [← captured]
  exact burst_becomes hlow hup (number := f.attempt) (htag ▸ hopen) (Or.inl calm) hgood htag.symm rfl started

/-- Settles O37: both a trigger and a quantity result come to a decision, whose retry forwards the entry again. -/
theorem triggerWithBudgetIsRetried : Obligations.TriggerWithBudgetIsRetried := by
  unfold Obligations.TriggerWithBudgetIsRetried
  intro retried
  refine ⟨?_, ?_⟩
  · intro dt n e number s hlow hok he hlane hstate ho hmark hup hopen hbudget hslot hroom u a
    subst hlane
    have hnd := nodup_of_outstandingOk hok
    have hnd' : (u.entries.map Entry.tag).Nodup := by simpa [u] using hnd
    have he' : e ∈ u.entries := by simpa [u] using he
    have target : (u.attemptClosed e.lane { tag := e.tag, attempt := number.toNat }).retried e none = a := by
      simp only [a, retried, State.retried, State.attemptClosed, State.lane, PerLane.get_set_self, PerLane.set_set]
      rfl
    have calm : passTriggered u a = false ∨ a.waiting = [] := by
      rw [← target]
      exact Or.inl (passTriggered_of_kept
        (retried_waiting (s := u.attemptClosed e.lane _) hnd' he' (by simp [hstate]) none) rfl rfl)
    have ends {how : AttemptEnd} {t : Trigger} (ht : triggerOf (s.stepOf e) e how = some t) :
        endAttempt e.lane e.tag how u = a := by
      rw [← target]
      exact endAttempt_retries hnd' he' hmark ho (by simpa [u] using hopen)
        ((elapse_reportFree dt s).trans (reportFree_of_lt hroom)) (by simpa [u] using ht) (by simpa [u] using hbudget)
        (by simpa [u] using hslot)
    refine ⟨fault_becomes hlow hup hopen calm (ends rfl), fun d hd hreach => ?_, fun f hgood htag hnumber hbad => ?_⟩
    · exact expiry_becomes hlow hopen calm hnd he hstate hd hreach (ends rfl)
    · obtain ⟨t, ht⟩ := triggerOf_answered hbad
      exact burst_becomes hlow hup hopen calm hgood htag hnumber (ends ht)
  · intro dt n e r escalate s hlow hok hr he htag hlane hstate ho ht hslot hroom u st hd
    have hnd := nodup_of_outstandingOk hok
    have hnd' : (u.entries.map Entry.tag).Nodup := by simpa [u] using hnd
    have he' : e ∈ u.entries := by simpa [u] using he
    have decides : judgeResult (s.stepOf e) (s.rangeOf e) (decide (s.slotAt e.slot = .xout)) e (s.quantityFor r e)
        = .retry escalate := by
      rw [decide_eq_false hslot]
      exact hd
    have effect : completeReduction n u = (u.setReduction n none).retried e escalate :=
      (completeReduction_decides hnd hr he htag hstate ho ht (reportFree_of_lt hroom) decides).trans
        (carryOut_retry (s := u.setReduction n none) hnd' he' (Entry.withResult_judgesOnly _) escalate)
    have calm : passTriggered u ((u.setReduction n none).retried e escalate) = false :=
      passTriggered_of_kept (retried_waiting (s := u.setReduction n none) hnd' he' (by simp [hstate]) escalate) rfl rfl
    have becomes := takeArbitrated_becomes_of_idle hlow dt (completeReduction n) (Or.inl (effect.symm ▸ calm))
    rw [effect] at becomes
    exact becomes

/-- Settles O38: the trigger decides VOID, and nothing stands behind the entry that retires. -/
theorem spentBudgetEndsVoid : Obligations.SpentBudgetEndsVoid := by
  unfold Obligations.SpentBudgetEndsVoid
  intro dt n e number s hlow hok he hlane hstate ho hmark hg halone hup hopen hbudget hroom u a
  have hnd := nodup_of_outstandingOk hok
  have hnd' : (u.entries.map Entry.tag).Nodup := by simpa [u] using hnd
  have he' : e ∈ u.entries := by simpa [u] using he
  have ends {how : AttemptEnd} {t : Trigger} (ht : triggerOf (s.stepOf e) e how = some t) :
      endAttempt n e.tag how u = a t.cause := by
    refine (endAttempt_voids hnd' he' hmark ho (by simpa [u] using hopen)
      ((elapse_reportFree dt s).trans (reportFree_of_lt hroom)) (by simpa [u] using ht) (by simpa [u] using hbudget) hlane
      (by simpa [u] using halone) (hg.imp_right fun h => by simpa [u] using h.1)).trans ?_
    simp only [a, u, elapse_stepOf]
    rfl
  have calm (cause : VoidCause) : passTriggered u (a cause) = false ∨ (a cause).waiting = [] := by
    have waits : (a cause).waiting = u.waiting := waiting_without (s := u) hnd' he' (by simp [hstate])
    refine hg.imp (fun hnone => passTriggered_of_kept waits ?_ rfl) (fun h => waits.trans ((elapse_waiting dt s).trans h.2))
    exact congrArg (releasedGens u.gens) hnone
  refine ⟨fault_becomes hlow hup hopen (calm _) (ends (t := .contact) rfl), fun d hd hreach => ?_,
    fun f hgood htag hnumber => ⟨fun hbad => ?_, fun h0 h1 hpairs => ?_, fun h0 h1 hpairs hfault => ?_⟩⟩
  · exact expiry_becomes hlow hopen (calm _) hnd he hstate hd hreach (ends (t := .timeout) rfl)
  · refine burst_becomes hlow hup hopen (calm _) hgood htag hnumber (ends (t := .contact) (if_pos ?_))
    exact (Bool.or_eq_true _ _).mpr hbad
  · refine burst_becomes hlow hup hopen (calm _) hgood htag hnumber (ends (t := .burstBad) ?_)
    simp only [triggerOf, h0, h1]
    simp [hpairs]
  · refine burst_becomes hlow hup hopen (calm _) hgood htag hnumber (ends (t := .tbFault) ?_)
    simp only [triggerOf, h0, h1]
    simp [hpairs, hfault]

end Sys2Proof.Machine
end

section
/-! SUPPORT. The end of a reduction in a terminal outcome: its retirement, the switch or the pass that a released generator
brings, and the lane's next head (R26, R34, R35, R63, R77, R91, R94, R98, R138, R139, R150). -/

namespace Sys2Proof.Machine

/-! ### What a report leaves -/

theorem reported_stepOf (s : State) (e : Entry) (t : Terminal) (x : Entry) :
    (s.reported e t).stepOf x = s.stepOf x := by
  unfold State.reported
  split <;> simp [State.withReport, State.stepOf, State.stepAt, State.setOffset]

@[simp] theorem retiring_tb (s : State) (e : Entry) : (s.retiring e).tb = s.tb := rfl
@[simp] theorem retiring_lanes (s : State) (e : Entry) : (s.retiring e).lanes = s.lanes := rfl
@[simp] theorem retiring_gens (s : State) (e : Entry) : (s.retiring e).gens = releasedGens s.gens e.gen := rfl
@[simp] theorem retiring_entries (s : State) (e : Entry) : (s.retiring e).entries = (s.without e.tag).entries := rfl

@[simp] theorem switchedTo_pendingSwitch (s : State) (p : Source) : (s.switchedTo p).tb.pendingSwitch = none := by
  rw [State.switchedTo, postEvent_eq]

theorem noUsers_iff {s : State} : s.noUsers = true ↔ ∀ g, (s.gen g).users = 0 := by
  simp only [State.noUsers, Bool.and_eq_true, decide_eq_true_eq]
  refine ⟨fun h g => ?_, fun h => ⟨h 0, h 1⟩⟩
  fin_cases g
  exacts [h.1, h.2]

/-- A pending switch that may change the source stands on its target and its loop (R150). -/
def State.switchMayChange (s : State) : Prop := ∃ p, s.tb.pendingSwitch = some p ∧ (p = .internal ∨ s.tb.loop = .locked)

theorem checkSwitch_of_blocked {s : State} (h : ¬(s.switchMayChange ∧ ∀ g, (s.gen g).users = 0)) : checkSwitch s = s := by
  cases hp : s.tb.pendingSwitch with
  | none => exact checkSwitch_of_calm hp
  | some p => exact (checkSwitch_of_pending hp).trans (if_neg fun k => h ⟨⟨p, hp, k.1⟩, noUsers_iff.mp k.2⟩)

theorem closing_of_blocked {s : State} {e : Entry}
    (h : ¬(s.switchMayChange ∧ ∀ g, ((s.retiring e).gen g).users = 0)) : s.closing e = s.retiring e := by
  unfold State.closing
  split
  · rfl
  · exact checkSwitch_of_blocked h

theorem closing_of_switch {s : State} {e : Entry} {p : Source} (hg : e.gen ≠ none) (hp : s.tb.pendingSwitch = some p)
    (hmay : p = .internal ∨ s.tb.loop = .locked) (hfree : ∀ g, ((s.retiring e).gen g).users = 0) :
    s.closing e = (s.retiring e).switchedTo p := by
  rw [State.closing, if_neg hg, checkSwitch_of_pending (s := s.retiring e) hp]
  exact if_pos ⟨hmay, noUsers_iff.mpr hfree⟩

/-- A generator whose last user leaves calls for a pass (R139). -/
theorem passTriggered_of_freed {a b : State} {g : GenId} (ha : 0 < (a.gen g).users) (hb : (b.gen g).users = 0) :
    passTriggered a b = true := by
  have freed : [(0 : GenId), 1].any (fun g => (decide (0 < (a.gen g).users) && decide ((b.gen g).users = 0))
      || (decide ((a.gen g).state = .retuning) && !decide ((b.gen g).state = .retuning))) = true :=
    List.any_eq_true.mpr ⟨g, by fin_cases g <;> simp, by simp [ha, hb]⟩
  simp only [passTriggered, freed, Bool.or_true, Bool.true_or]

/-- The last user of a generator leaves it. -/
theorem releasedGens_users {gens : PerGen Generator} {g : GenId} (h : (gens.get g).users = 1) :
    ((releasedGens gens (some g)).get g).users = 0 := by
  simp [releasedGens, h]

/-! ### The head behind a retired entry (R26) -/

/-- Behind the head that retires stands the next entry of the order list. -/
theorem orderList_without {s a : State} {e : Entry} {n : LaneId} {rest : List Entry}
    (hnd : (s.entries.map Entry.tag).Nodup) (ha : a.entries = (s.without e.tag).entries)
    (h : s.orderList n = e :: rest) : a.orderList n = rest := by
  have tags : ((s.orderList n).map Entry.tag).Nodup := (List.filter_sublist.map Entry.tag).nodup hnd
  have keeps : ∀ x ∈ rest, decide (x.tag ≠ e.tag) = true := by
    intro x hx
    rw [h] at tags
    exact decide_eq_true fun ht => (List.nodup_cons.mp tags).1 (ht ▸ List.mem_map_of_mem hx)
  calc a.orderList n = (s.orderList n).filter (fun x => decide (x.tag ≠ e.tag)) := by
        rw [State.orderList, ha]
        simp only [State.without, State.orderList, List.filter_filter, Bool.and_comm]
    _ = rest := by rw [h, List.filter_cons_of_neg (by simp), List.filter_eq_self.mpr keeps]

theorem mem_of_orderList {s : State} {n : LaneId} {x : Entry} (h : x ∈ s.orderList n) :
    x ∈ s.entries ∧ x.lane = n := by
  obtain ⟨hx, hn⟩ := List.mem_filter.mp h
  exact ⟨hx, of_decide_eq_true (Bool.and_eq_true _ _ ▸ hn).1⟩

/-- A head that is QUEUED is forwarded for a step other than CAP (R26, R27). -/
theorem advanceHead_forwards {s : State} (hnd : (s.entries.map Entry.tag).Nodup) {n : LaneId} {x : Entry}
    {rest : List Entry} (hl : s.orderList n = x :: rest) (hq : x.state = .queued) (hm : (s.stepOf x).method ≠ .cap) :
    advanceHead n s = { s with
      entries := s.entries.map (fun y => if y.tag = x.tag then { x with
        state := .forwarded
        deadline := some (s.tb.microseconds + BitVec.ofNat 32 (100 * (s.stepOf x).budget))
        tbFault := false
        xoutMark := false
        trigger := none
        result := none } else y)
      lanes := s.lanes.set n ((s.lane n).ordered x.tag x.attempt x.range (s.stepOf x) none) } := by
  obtain ⟨hx, hlane⟩ := mem_of_orderList (hl ▸ List.mem_cons_self : x ∈ s.orderList n)
  subst hlane
  rw [advanceHead_forward hl hq hm, forward_of_entry? (entry?_of_mem hnd hx)]
  refine (modifyEntry_eq_map hnd hx (s.modifyLane x.lane _) rfl _).trans ?_
  simp only [Entry.forwarded, if_neg hm, orderOf]
  rfl

/-- A head that is QUEUED enters WAIT_EXC for a CAP step (R26). -/
theorem advanceHead_waits {s : State} (hnd : (s.entries.map Entry.tag).Nodup) {n : LaneId} {x : Entry}
    {rest : List Entry} (hl : s.orderList n = x :: rest) (hq : x.state = .queued) (hm : (s.stepOf x).method = .cap) :
    advanceHead n s = { s with entries := s.entries.map (fun y =>
      if y.tag = x.tag then { x with state := .waitExc } else y) } := by
  obtain ⟨hx, hlane⟩ := mem_of_orderList (hl ▸ List.mem_cons_self : x ∈ s.orderList n)
  rw [advanceHead_cap hl hq hm]
  exact modifyEntry_eq_map hnd hx s rfl _

/-- An entry that stood QUEUED and now waits calls for a pass (R139). -/
theorem passTriggered_of_waits {a b : State} (hnd : (a.entries.map Entry.tag).Nodup) {x y : Entry} (hx : x ∈ a.entries)
    (hq : x.state ≠ .waitExc) (hy : y ∈ b.waiting) (ht : y.tag = x.tag) : passTriggered a b = true := by
  have fresh : a.isWaiting y.tag = false := by
    refine Bool.eq_false_iff.mpr fun h => ?_
    obtain ⟨z, hz, hzt⟩ := List.any_eq_true.mp h
    obtain ⟨hz, hwait⟩ := List.mem_filter.mp hz
    exact hq (eq_of_tag_eq hnd hx hz ((beq_iff_eq.mp hzt).trans ht) ▸ of_decide_eq_true hwait)
  have enters : b.waiting.any (fun z => !a.isWaiting z.tag) = true := List.any_eq_true.mpr ⟨y, hy, by simp [fresh]⟩
  simp [passTriggered, enters]

/-! ### The statement -/

theorem completeReduction_idle {dt : Nat} {s : State} {n : LaneId} (h : s.reductions.get n = none) :
    completeReduction n (elapse dt s) = elapse dt s := by
  simp [completeReduction, h]

/-- The written offset is read back, and no other changes (R15, R91). -/
theorem setOffset_offsetAt {s : State} (h : s.canonical = true) (n m : LaneId) {range i : Nat} (hr : range < 32)
    (hi : i < 32) (z : Offset) :
    (s.setOffset n range z).offsetAt m i = if m = n ∧ i = range then z else s.offsetAt m i := by
  have wf : s.tables.offsets.wf offsetInitial = true := by
    simp only [State.canonical, Bool.and_eq_true] at h
    tauto
  have read := Sparse.get_put offsetInitial wf (offsetIndex n range) z (offsetIndex m i)
  refine read.trans (if_congr ?_ rfl rfl)
  have := n.isLt
  have := m.isLt
  simp only [offsetIndex, Fin.ext_iff]
  omega

/-- The part with the terminal outcome of a lane's reduction reported (R35 step 1, R63). -/
def State.reductionReported (u : State) (n : LaneId) (e : Entry) (t : Terminal) : State :=
  (u.setReduction n none).reported e t

@[simp] theorem reductionReported_tb (u : State) (n : LaneId) (e : Entry) (t : Terminal) :
    (u.reductionReported n e t).tb = u.tb := by
  simp [State.reductionReported]

@[simp] theorem reductionReported_gens (u : State) (n : LaneId) (e : Entry) (t : Terminal) :
    (u.reductionReported n e t).gens = u.gens := by
  simp [State.reductionReported]

@[simp] theorem reductionReported_lanes (u : State) (n : LaneId) (e : Entry) (t : Terminal) :
    (u.reductionReported n e t).lanes = u.lanes := by
  simp [State.reductionReported]

@[simp] theorem reductionReported_entries (u : State) (n : LaneId) (e : Entry) (t : Terminal) :
    (u.reductionReported n e t).entries = u.entries := by
  simp [State.reductionReported]

/-- The part with the entry of a terminal outcome retired (R35, R138). -/
def State.reductionRetired (u : State) (n : LaneId) (e : Entry) (t : Terminal) : State :=
  (u.reductionReported n e t).retiring e

theorem reductionRetired_stepOf (u : State) (n : LaneId) (e : Entry) (t : Terminal) (x : Entry) :
    (u.reductionRetired n e t).stepOf x = u.stepOf x :=
  reported_stepOf (u.setReduction n none) e t x

section
variable {dt : Nat} {s : State} {n : LaneId} {e : Entry} {r : Reduction} {t : Terminal} (hlow : s.resetLow = false)
  (hnd : (s.entries.map Entry.tag).Nodup) (hr : s.reductions.get n = some r) (he : e ∈ s.entries) (htag : e.tag = r.tag)
  (hlane : e.lane = n) (hstate : e.state = .judging) (ho : e.outcome = none) (ht : e.trigger = none)
  (hfree : s.reportFree = true) (hshort : t.verdict ≠ .short)
  (hd : judgeResult (s.stepOf e) (s.rangeOf e) (decide (s.slotAt e.slot = .xout)) e (s.quantityFor r e) = .terminal t)

include hnd he hstate in
theorem reductionRetired_waiting : ((elapse dt s).reductionRetired n e t).waiting = (elapse dt s).waiting := by
  have whole : ((elapse dt s).reductionReported n e t).waiting = (elapse dt s).waiting := by simp [State.waiting]
  exact (waiting_without (s := (elapse dt s).reductionReported n e t) (by simpa using hnd) (by simpa using he)
    (by simp [hstate])).trans whole

include hnd in
theorem reductionRetired_nodup : (((elapse dt s).reductionRetired n e t).entries.map Entry.tag).Nodup := by
  have sub : ((elapse dt s).reductionRetired n e t).entries.Sublist s.entries := by
    simp only [State.reductionRetired, retiring_entries, State.without, reductionReported_entries, elapse_entries]
    exact List.filter_sublist
  exact (sub.map Entry.tag).nodup hnd

include hnd hr he htag hlane hstate ho ht hfree hshort hd

theorem completeReduction_terminal : completeReduction n (elapse dt s)
    = advanceHead n (((elapse dt s).reductionReported n e t).closing e) :=
  hlane ▸ (completeReduction_decides hnd hr he htag hstate ho ht hfree hd).trans
    (carryOut_terminal (s := (elapse dt s).setReduction n none) (by simpa using hnd) (by simpa using he)
      (Entry.withResult_judgesOnly _) hshort)

include hlow

theorem reductionComplete_becomes {c : State}
    (hc : advanceHead n (((elapse dt s).reductionReported n e t).closing e) = c)
    (h : passTriggered (elapse dt s) c = false ∨ c.waiting = []) : Becomes (exec (.reductionComplete dt n) s) c := by
  have effect := (completeReduction_terminal hnd hr he htag hlane hstate ho ht hfree hshort hd).trans hc
  exact effect ▸ takeArbitrated_becomes_of_idle hlow dt (completeReduction n) (effect.symm ▸ h)

theorem reductionComplete_passes {c : State}
    (hc : advanceHead n (((elapse dt s).reductionReported n e t).closing e) = c)
    (h : passTriggered (elapse dt s) c = true) : Becomes (exec (.reductionComplete dt n) s) (arbiterPass c) := by
  have effect := (completeReduction_terminal hnd hr he htag hlane hstate ho ht hfree hshort hd).trans hc
  exact effect ▸ takeArbitrated_passes hlow dt (completeReduction n) (effect.symm ▸ h)

end

/-- With no other entry on the lane the event ends with the retirement (R26). -/
theorem advanceHead_closing {s b : State} {e : Entry} {n : LaneId} (hb : b.entries = s.entries)
    (h : ∀ x ∈ s.entries, x.lane = n → x = e) : advanceHead n (b.closing e) = b.closing e :=
  advanceHead_alone (s := s) ((closing_entries b e).trans (by rw [State.without, hb]; rfl)) h

/-- Settles O40: the decision on the result retires its entry, and what follows it hangs on the generator that it releases
and on the next entry of its lane. -/
theorem reductionCompleteDecides : Obligations.ReductionCompleteDecides := by
  unfold Obligations.ReductionCompleteDecides
  refine ⟨?_, fun s n m range i z h hr hi => ⟨setOffset_offsetAt h n m hr hi z, rfl⟩⟩
  intro dt n s hlow u o
  refine ⟨fun hnone => ?_, ?_⟩
  · have effect : completeReduction n u = u := completeReduction_idle hnone
    have becomes := takeArbitrated_becomes_of_idle hlow dt (completeReduction n)
      (Or.inl (effect.symm ▸ passTriggered_of_kept rfl rfl rfl))
    rw [effect] at becomes
    exact becomes
  intro r e hok hr he htag hlane hstate ho ht st q
  have hnd := nodup_of_outstandingOk hok
  have hndu : (u.entries.map Entry.tag).Nodup := by simpa [u] using hnd
  have heu : e ∈ u.entries := by simpa [u] using he
  refine ⟨fun hfull => ?_, ?_⟩
  · have full : (((elapse dt s).setReduction n none).modifyEntry e.tag
        (Entry.withResult (s.quantityFor r e))).reportFree = false :=
      (elapse_reportFree dt s).trans (decide_eq_false (Nat.not_lt.mpr hfull))
    have effect : completeReduction n u = (u.setReduction n none).modifyEntry e.tag (Entry.withResult q) := by
      rw [completeReduction_eq hnd hr he htag, tryDecide, if_neg (by simp [full])]
      rfl
    have calm : passTriggered u ((u.setReduction n none).modifyEntry e.tag (Entry.withResult q)) = false :=
      passTriggered_of_kept (modifyEntry_waiting hndu heu (by simp [hstate]) (u.setReduction n none) rfl
        (f := Entry.withResult q) (by simp [Entry.withResult, hstate])) rfl rfl
    have becomes := takeArbitrated_becomes_of_idle hlow dt (completeReduction n) (Or.inl (effect.symm ▸ calm))
    rw [effect, htag] at becomes
    exact (elapse_entries dt s) ▸ becomes
  intro t hroom hshort hd report raised a free mayChange
  let b := u.reductionReported n e t
  have target : b.retiring e = a := by
    have step : (u.setReduction n none).stepOf e = st := elapse_stepOf dt s e
    simp only [b, State.reductionReported, State.reported, step, hlane]
    rfl
  have becomes {c : State} (hc : advanceHead n (b.closing e) = c) (h : passTriggered u c = false ∨ c.waiting = []) :
      Becomes o c :=
    reductionComplete_becomes hlow hnd hr he htag hlane hstate ho ht (reportFree_of_lt hroom) hshort hd hc h
  have passes {c : State} (hc : advanceHead n (b.closing e) = c) (h : passTriggered u c = true) :
      Becomes o (arbiterPass c) :=
    reductionComplete_passes hlow hnd hr he htag hlane hstate ho ht (reportFree_of_lt hroom) hshort hd hc h
  have waits : a.waiting = u.waiting := target ▸ reductionRetired_waiting hnd he hstate
  have atb : a.tb = u.tb := by simp [← target, b]
  have agens : a.gens = releasedGens u.gens e.gen := by simp [← target, b]
  have btb : b.tb = u.tb := reductionReported_tb u n e t
  have pending : u.tb.pendingSwitch = s.tb.pendingSwitch := elapse_pendingSwitch dt s
  have users (k : GenId) : ((b.retiring e).gen k).users = (a.gen k).users := congrArg (fun z => (State.gen z k).users) target
  have loop : u.tb.loop = s.tb.loop := by simp [u]
  have mayChange_of : b.switchMayChange → mayChange := by
    rintro ⟨p, hp, hmay⟩
    rw [btb] at hp hmay
    exact ⟨p, pending.symm.trans hp, loop ▸ hmay⟩
  have mayChange_at {p : Source} (hp : s.tb.pendingSwitch = some p) : mayChange → p = .internal ∨ u.tb.loop = .locked := by
    rintro ⟨p', hp', hmay⟩
    rw [loop, Option.some.inj (hp.symm.trans hp')]
    exact hmay
  refine ⟨fun halone => ?_, fun x rest hlist hq hcalm => ?_⟩
  · have last : advanceHead n (b.closing e) = b.closing e :=
      advanceHead_closing (s := s) ((reductionReported_entries u n e t).trans (elapse_entries dt s)) halone
    refine ⟨fun h => ?_, fun g hg husers hp => ?_, fun g p hg hp hmay hfree => ?_⟩
    · rcases h with hnone | ⟨hempty, hblocked⟩
      · have closed : b.closing e = a := (closing_of_calm (Or.inl hnone)).trans target
        exact becomes (last.trans closed) (Or.inl (passTriggered_of_kept waits (by rw [agens, hnone]; rfl) atb))
      · have closed : b.closing e = a := (closing_of_blocked fun h => hblocked
          ⟨mayChange_of h.1, fun k => (users k).symm.trans (h.2 k)⟩).trans target
        exact becomes (last.trans closed) (Or.inr (waits.trans ((elapse_waiting dt s).trans hempty)))
    · have closed : b.closing e = a := (closing_of_calm (Or.inr (btb ▸ pending.trans hp))).trans target
      refine passes (last.trans closed) (passTriggered_of_freed (g := g) ?_ ?_)
      · simp [u, husers]
      · rw [State.gen, agens, hg]
        exact releasedGens_users (by simpa [u, State.gen] using husers)
    · have closed : b.closing e = a.switchedTo p := target ▸ closing_of_switch (by simp [hg]) (btb ▸ pending.trans hp)
        (by rw [btb]; exact mayChange_at hp hmay) (fun k => (users k).trans (hfree k))
      exact passes (last.trans closed)
        (passTriggered_of_switch_ends (by simp [pending, hp]) (switchedTo_pendingSwitch a p))
  · have closed : b.closing e = a := (closing_of_calm (hcalm.imp_right fun hp => btb ▸ pending.trans hp)).trans target
    have hnda : (a.entries.map Entry.tag).Nodup := target ▸ reductionRetired_nodup hnd
    have list : a.orderList n = x :: rest :=
      orderList_without hndu (by rw [← target, retiring_entries, State.without, reductionReported_entries]; rfl)
        ((elapse_orderList dt s n).trans hlist)
    have step : a.stepOf x = s.stepOf x := target ▸ (reductionRetired_stepOf u n e t x).trans (elapse_stepOf dt s x)
    have lanes : a.lanes = u.lanes := by simp [← target, b]
    have lane : a.lane n = u.lane n := congrArg (PerLane.get · n) lanes
    have now : a.tb.microseconds = u.tb.microseconds := congrArg Timebase.microseconds atb
    have hx : x ∈ a.entries := (mem_of_orderList (list ▸ List.mem_cons_self : x ∈ a.orderList n)).1
    refine ⟨fun hm hidle => ?_, fun hm => ?_⟩
    · have forwards := advanceHead_forwards hnda list hq (step.symm ▸ hm)
      rw [step, now, lane, lanes] at forwards
      refine becomes ((congrArg (advanceHead n) closed).trans forwards) ?_
      have kept := (waiting_map hnda hx (x := { x with
        state := .forwarded
        deadline := some (u.tb.microseconds + BitVec.ofNat 32 (100 * (s.stepOf x).budget))
        tbFault := false
        xoutMark := false
        trigger := none
        result := none }) (by simp [hq]) (by simp)).trans waits
      refine hidle.imp (fun hnone => passTriggered_of_kept kept ?_ atb)
        (fun hw => kept.trans ((elapse_waiting dt s).trans hw))
      exact agens.trans (by rw [hnone]; rfl)
    · have enters := advanceHead_waits hnda list hq (step.symm ▸ hm)
      refine passes ((congrArg (advanceHead n) closed).trans enters) ?_
      have hxu : x ∈ u.entries := by
        rw [← target, retiring_entries, State.without, reductionReported_entries] at hx
        exact List.mem_of_mem_filter hx
      exact passTriggered_of_waits hndu hxu (by simp [hq])
        (List.mem_filter.mpr ⟨List.mem_map.mpr ⟨x, hx, if_pos rfl⟩, by simp⟩) rfl

end Sys2Proof.Machine
end

section
/-! SUPPORT. The signature comparison, the taking of a value, and the retirement of a CAP SIG dispatch with the SU's answer
(R35, R78, R79, R92, R98, R109, R119 to R125). -/

namespace Sys2Proof.Machine

/-! ### The comparison (R78, R79) -/

theorem natAbs_sub_eq (c ref : Nat) : ((c : Int) - (ref : Int)).natAbs = if c ≤ ref then ref - c else c - ref := by
  split <;> omega

/-- The deviation is the least integer not below |C − ref| × 1,000 / ref (R78). -/
theorem deviation_le_iff {ref : Nat} (h : 0 < ref) (c d : Nat) :
    deviation c ref ≤ d ↔ ((c : Int) - (ref : Int)).natAbs * 1000 ≤ d * ref := by
  rw [natAbs_sub_eq]
  simp only [deviation]
  rw [Nat.div_le_iff_le_mul_add_pred h, Nat.mul_comm ref d]
  omega

/-! ### The taking of a value (R119 to R123) -/

/-- A learning entry stands behind every entry of a value not above its own (R121). -/
theorem insertLearn_eq {l : List LearnEntry} (x : LearnEntry) : insertLearn x l
    = l.takeWhile (fun a => decide (a.value ≤ x.value)) ++ x :: l.dropWhile (fun a => decide (a.value ≤ x.value)) := by
  induction l with
  | nil => rfl
  | cons a rest ih =>
    by_cases h : a.value ≤ x.value
    · simp [insertLearn, h, ih]
    · simp [insertLearn, h]

theorem learnInto_eq (x : LearnEntry) (l : List LearnEntry) : learnInto x l
    = (l.filter (fun a => decide (a.panel ≠ x.panel ∨ a.slot ≠ x.slot))).takeWhile (fun a => decide (a.value ≤ x.value))
      ++ x :: (l.filter (fun a => decide (a.panel ≠ x.panel ∨ a.slot ≠ x.slot))).dropWhile
        (fun a => decide (a.value ≤ x.value)) := by
  have others : ∀ a : LearnEntry, (!(decide (a.panel = x.panel) && decide (a.slot = x.slot)))
      = decide (a.panel ≠ x.panel ∨ a.slot ≠ x.slot) := by
    intro a
    by_cases hp : a.panel = x.panel <;> by_cases hs : a.slot = x.slot <;> simp [hp, hs]
  rw [learnInto, insertLearn_eq, List.filter_congr fun a _ => others a]

/-- The learning entry of a value (R121). -/
def SignatureValue.learned (x : SignatureValue) : LearnEntry :=
  { value := x.value, panel := x.panel, slot := x.slot, source := x.source }

/-- The signature state of a net as a learnable value joins its list (R121). -/
def SignatureValue.joined (x : SignatureValue) (list : List LearnEntry) : NetSignature :=
  { list := list, source := some x.source, reference := none }

section
variable {x : SignatureValue} {s : State}

theorem takeSignature_reference {ref : Nat} (h : (s.signature x.net).reference = some ref) :
    takeSignature x s = (s, .judged (judgeSignature x.value ref x.tolerance), false) := by
  simp [takeSignature, h]

theorem takeSignature_unlearnable (h : (s.signature x.net).reference = none) (hl : s.learnable x = false) :
    takeSignature x s = ((deferValue x true s).1, (deferValue x true s).2, true) := by
  simp [takeSignature, h, hl]

theorem takeSignature_joins (h : (s.signature x.net).reference = none) (hl : s.learnable x = true)
    (hk : (learnInto x.learned (s.signature x.net).list).length ≠ s.sigs.inForceK) :
    takeSignature x s = ((deferValue x false (s.setSignature x.net (x.joined
      (learnInto x.learned (s.signature x.net).list)))).1, (deferValue x false (s.setSignature x.net (x.joined
      (learnInto x.learned (s.signature x.net).list)))).2, false) := by
  simp only [takeSignature, h, hl, if_true]
  exact if_neg hk

theorem takeSignature_freezes (h : (s.signature x.net).reference = none) (hl : s.learnable x = true)
    (hk : (learnInto x.learned (s.signature x.net).list).length = s.sigs.inForceK) :
    takeSignature x s = (freezeReference x.net (medianOf s.sigs.inForceK (learnInto x.learned (s.signature x.net).list)) s,
      .judged (judgeSignature x.value (medianOf s.sigs.inForceK (learnInto x.learned (s.signature x.net).list))
        x.tolerance), false) := by
  simp only [takeSignature, h, hl, if_true]
  exact if_pos hk

end

theorem freezeReference_eq (net ref : Nat) (s : State) : freezeReference net ref s
    = postEvent .referenceFrozen net
      { s.setSignature net { list := [], source := none, reference := some ref } with
        sigs := { (s.setSignature net { list := [], source := none, reference := some ref }).sigs with
          scan := s.sigs.scan.requested s.sigs.deferred } } := by
  simp only [freezeReference, requestScan_eq, postEvent_eq]
  rfl

/-- A value is learnable when the list is empty or of its source and its group has one net (R109, R120). -/
theorem learnable_iff {s : State} {x : SignatureValue} : s.learnable x = true
    ↔ ((s.signature x.net).list = [] ∨ (s.signature x.net).source = some x.source) ∧ s.groupSize x.slot x.net = 1 := by
  simp [State.learnable]

/-- The size of a net's group, with the two groups of a walk on its slot taken together (R109). -/
theorem groupSize_eq (s : State) (slot net : Nat) : s.groupSize slot net = match s.groups.walk with
    | none => (s.netState slot (s.netState slot net).leader).count
    | some w =>
      if w.request.slot = slot ∧ ((s.netState slot net).leader = w.low ∨ (s.netState slot net).leader = w.high) then
        (s.netState slot w.low).count + (s.netState slot w.high).count
      else (s.netState slot (s.netState slot net).leader).count := by
  cases h : s.groups.walk with
  | none => simp [State.groupSize, State.walkOn, h]
  | some w =>
    by_cases hslot : w.request.slot = slot
    · simp [State.groupSize, State.walkOn, h, hslot]
    · simp [State.groupSize, State.walkOn, h, hslot]

/-! ### A value and the Outstanding Table -/

theorem deferValue_modifyEntry (x : SignatureValue) (notLearned : Bool) (s : State) (tag : Half) (f : Entry → Entry) :
    deferValue x notLearned (s.modifyEntry tag f)
      = ((deferValue x notLearned s).1.modifyEntry tag f, (deferValue x notLearned s).2) := by
  simp only [deferValue, postEvent_eq, State.modifyEntry_sigs]
  split
  · rfl
  · split <;> rfl

/-- The taking of a value neither reads nor writes the Outstanding Table. -/
theorem takeSignature_modifyEntry (x : SignatureValue) (s : State) (tag : Half) (f : Entry → Entry) :
    takeSignature x (s.modifyEntry tag f) = ((takeSignature x s).1.modifyEntry tag f, (takeSignature x s).2) := by
  cases h : (s.signature x.net).reference with
  | some ref => rw [takeSignature_reference h, takeSignature_reference (s := s.modifyEntry tag f) h]
  | none =>
    cases hl : s.learnable x with
    | false =>
      rw [takeSignature_unlearnable h hl, takeSignature_unlearnable (s := s.modifyEntry tag f) h hl,
        deferValue_modifyEntry]
    | true =>
      by_cases hk : (learnInto x.learned (s.signature x.net).list).length = s.sigs.inForceK
      · rw [takeSignature_freezes h hl hk, takeSignature_freezes (s := s.modifyEntry tag f) h hl hk]
        simp only [freezeReference_eq, postEvent_eq]
        rfl
      · rw [takeSignature_joins h hl hk, takeSignature_joins (s := s.modifyEntry tag f) h hl hk]
        exact congrArg (fun p : State × SignatureResult => (p.1, p.2, false))
          (deferValue_modifyEntry x false (s.setSignature x.net _) tag f)

/-! ### Retirement with the SU's answer (R92, R98) -/

/-- The part with the SU's answer to an entry's value reported and its net raised (R92, R98). -/
def State.answeredSignature (taken : State × SignatureResult × Bool) (e : Entry) (st : StepRecord) (now : Word)
    (value : Nat) (saturated : Bool) : State :=
  let placed (kind : ReportKind) (v : Option Verdict) : State :=
    taken.1.withReport (dispatchReport e st.exponent now kind v none (some value) saturated taken.2.2 .absent) false
  match taken.2.1 with
  | .judged v => raiseNet e.slot st.netA v (placed .verdict (some v))
  | .deferred => placed .pending none
  | .notDeferred => placed .verdict (some .unref)

theorem JudgesOnly.handed {f : Entry → Entry} (hf : JudgesOnly f) (e : Entry) (st : StepRecord) (value : Nat)
    (saturated : Bool) : signatureValueOf (f e) st value saturated = signatureValueOf e st value saturated :=
  (congrArg (signatureValueOf · st value saturated) (hf e)).trans rfl

@[simp] theorem answeredSignature_entries (taken : State × SignatureResult × Bool) (e : Entry) (st : StepRecord)
    (now : Word) (value : Nat) (saturated : Bool) :
    (State.answeredSignature taken e st now value saturated).entries = taken.1.entries := by
  unfold State.answeredSignature
  dsimp only
  split <;> simp [State.withReport]

@[simp] theorem answeredSignature_gens (taken : State × SignatureResult × Bool) (e : Entry) (st : StepRecord)
    (now : Word) (value : Nat) (saturated : Bool) :
    (State.answeredSignature taken e st now value saturated).gens = taken.1.gens := by
  unfold State.answeredSignature
  dsimp only
  split <;> simp [State.withReport]

@[simp] theorem answeredSignature_tb (taken : State × SignatureResult × Bool) (e : Entry) (st : StepRecord)
    (now : Word) (value : Nat) (saturated : Bool) :
    (State.answeredSignature taken e st now value saturated).tb = taken.1.tb := by
  unfold State.answeredSignature
  dsimp only
  split <;> simp [State.withReport]

theorem answeredSignature_modifyEntry (taken : State × SignatureResult × Bool) (e : Entry) (st : StepRecord) (now : Word)
    (value : Nat) (saturated : Bool) (tag : Half) (f : Entry → Entry) :
    State.answeredSignature (taken.1.modifyEntry tag f, taken.2) e st now value saturated
      = (State.answeredSignature taken e st now value saturated).modifyEntry tag f := by
  obtain ⟨s, answer, notLearned⟩ := taken
  cases answer with
  | judged v => exact raiseNet_modifyEntry e.slot st.netA v (s.withReport _ false) tag f
  | deferred => rfl
  | notDeferred => rfl

theorem retireSignature_judged {f : Entry → Entry} (hf : JudgesOnly f) (s : State) (e : Entry) (value : Nat)
    (saturated : Bool) : retireSignature (f e) value saturated (s.modifyEntry e.tag f)
      = closeEntry (f e) ((State.answeredSignature (takeSignature (signatureValueOf e (s.stepOf e) value saturated) s) e
          (s.stepOf e) s.tb.microseconds value saturated).modifyEntry e.tag f) := by
  have step : (s.modifyEntry e.tag f).stepOf (f e) = s.stepOf e := hf.stepOf s e
  have now : (takeSignature (signatureValueOf e (s.stepOf e) value saturated) s).1.now = s.tb.microseconds :=
    congrArg Timebase.microseconds (takeSignature_tb _ s)
  rw [← answeredSignature_modifyEntry]
  simp only [retireSignature, step, hf.handed, takeSignature_modifyEntry]
  rcases h : takeSignature (signatureValueOf e (s.stepOf e) value saturated) s with ⟨a, answer, notLearned⟩
  rw [h] at now
  have now' : (a.modifyEntry e.tag f).now = s.tb.microseconds := now
  refine congrArg (closeEntry (f e)) ?_
  simp only [hf.report, hf.slot, now', State.answeredSignature]
  cases answer <;> rfl

theorem carryOut_signature {s : State} (hnd : (s.entries.map Entry.tag).Nodup) {e : Entry} (he : e ∈ s.entries)
    {f : Entry → Entry} (hf : JudgesOnly f) (value : Nat) (saturated : Bool) :
    carryOut (f e) (.signature value saturated) (s.modifyEntry e.tag f)
      = advanceHead e.lane ((State.answeredSignature (takeSignature (signatureValueOf e (s.stepOf e) value saturated) s) e
          (s.stepOf e) s.tb.microseconds value saturated).closing e) :=
  (retireSignature_judged hf s e value saturated).trans (closeEntry_judged (by simpa using hnd) (by simpa using he) hf)

/-! ### The statement -/

theorem setSignature_signature {s : State} (h : s.canonical = true) (net other : Nat) (x : NetSignature) :
    (s.setSignature net x).signature other = if other = net then x else s.signature other :=
  Sparse.get_put signatureInitial (State.canonical_tables h).2.2.2.2 net x other

/-- Settles O44: the comparison is the rounded quotient, the taking of a value follows its cases, and the answer's report is
placed as its entry retires. -/
theorem signatureVerdict : Obligations.SignatureVerdict := by
  unfold Obligations.SignatureVerdict
  refine ⟨fun c ref tolerance => ⟨fun h => if_pos h, fun h => ?_⟩, ?_,
    fun s net other x h => ⟨setSignature_signature h net other x, rfl⟩, ?_⟩
  · have hne : ref ≠ 0 := by omega
    refine ⟨(deviation_le_iff h c _).mp le_rfl, fun d hd => (deviation_le_iff h c d).mpr hd, fun hd => ?_,
      fun hd hlt => ?_, fun hd hlt => ?_⟩
    · exact (if_neg hne).trans (if_pos hd)
    · exact (if_neg hne).trans ((if_neg (Nat.not_le.mpr hd)).trans (if_pos hlt))
    · exact (if_neg hne).trans ((if_neg (Nat.not_le.mpr hd)).trans (if_neg (Nat.not_lt.mpr hlt.le)))
  · intro x s sig leader size learnable own others lower list deferred
    have groupSize : s.groupSize x.slot x.net = size := groupSize_eq s x.slot x.net
    have learns : s.learnable x = true ↔ learnable :=
      learnable_iff.trans (and_congr_right fun _ => Eq.congr_left groupSize)
    have joins : learnInto x.learned sig.list = list := learnInto_eq x.learned sig.list
    have defers (notLearned : Bool) (a : State) (hd : a.sigs.deferred = s.sigs.deferred)
        (ht : a.sigs.deferredTags = s.sigs.deferredTags) (hage : a.sigs.deferAge = s.sigs.deferAge) (htb : a.tb = s.tb) :
        ((deferValue x notLearned a).1, (deferValue x notLearned a).2, notLearned) = deferred notLearned a := by
      simp only [deferValue, hd, ht, hage, htb, List.contains_iff_mem, deferred]
      split
      · rfl
      · split
        · rw [if_pos ‹_›]
        · rw [if_neg ‹_›]
          rfl
    refine ⟨fun ref h => takeSignature_reference h, fun h hl => ?_, fun h hl hk => ?_, fun median h hl hk hm => ?_⟩
    · exact (takeSignature_unlearnable h (Bool.eq_false_iff.mpr fun k => hl (learns.mp k))).trans
        (defers true s rfl rfl rfl rfl)
    · refine (takeSignature_joins h (learns.mpr hl) (joins ▸ hk)).trans ?_
      rw [joins]
      exact defers false (s.setSignature x.net (x.joined list)) rfl rfl rfl rfl
    · refine (takeSignature_freezes h (learns.mpr hl) (joins ▸ hk)).trans ?_
      have value : medianOf s.sigs.inForceK list = median.value := by simp [medianOf, hm]
      rw [joins, value, freezeReference_eq]
  · intro dt n r e value net tolerance saturated s hlow hok hr he htag hlane hstate ho ht hroom hg halone u st hnet htol hd
      taken placed
    have hnd := nodup_of_outstandingOk hok
    let w := u.setReduction n none
    have hndw : (w.entries.map Entry.tag).Nodup := by simpa [w, u] using hnd
    have hew : e ∈ w.entries := by simpa [w, u] using he
    have step : w.stepOf e = st := elapse_stepOf dt s e
    have handed : takeSignature (signatureValueOf e st value saturated) w = taken := by
      simp only [signatureValueOf, hnet, htol, Option.getD_some]
      rfl
    let b := State.answeredSignature taken e st u.tb.microseconds value saturated
    have target : b.retiring e = (match taken.2.1 with
        | .judged v => raiseNet e.slot (some net) v (placed .verdict (some v))
        | .deferred => placed .pending none
        | .notDeferred => placed .verdict (some .unref)).retiring e := by
      simp only [b, State.answeredSignature, hnet]
      rfl
    have tb : b.tb = u.tb := (answeredSignature_tb taken e st _ value saturated).trans (takeSignature_tb _ w)
    have gens : b.gens = u.gens := (answeredSignature_gens taken e st _ value saturated).trans (takeSignature_gens _ w)
    have entries : b.entries = s.entries :=
      (answeredSignature_entries taken e st _ value saturated).trans ((takeSignature_entries _ w).trans (elapse_entries dt s))
    have closed : b.closing e = b.retiring e :=
      closing_of_calm (hg.imp_right fun h => by rw [tb]; exact (elapse_pendingSwitch dt s).trans h.1)
    have effect : completeReduction n u = b.retiring e := by
      refine (completeReduction_decides hnd hr he htag hstate ho ht (reportFree_of_lt hroom) hd).trans ?_
      refine (carryOut_signature hndw hew (Entry.withResult_judgesOnly _) value saturated).trans ?_
      rw [step, handed]
      refine Eq.trans ?_ closed
      exact advanceHead_closing (s := s) entries (hlane ▸ halone)
    have waits : (b.retiring e).waiting = s.waiting :=
      (waiting_without (s := b) (entries ▸ hnd) (entries ▸ he) (by simp [hstate])).trans (by rw [State.waiting, entries]; rfl)
    have calm : passTriggered u (b.retiring e) = false ∨ (b.retiring e).waiting = [] := by
      refine hg.imp (fun hnone => passTriggered_of_kept (waits.trans (elapse_waiting dt s).symm) ?_ tb)
        (fun h => waits.trans h.2)
      rw [retiring_gens, gens, hnone]
      rfl
    have becomes := takeArbitrated_becomes_of_idle hlow dt (completeReduction n) (effect.symm ▸ calm)
    rw [effect] at becomes
    exact becomes.trans (congrArg (fun a => Host.Outcome.next (conclude a)) target)

end Sys2Proof.Machine
end

section
/-! SUPPORT. The granting of a freed Report Queue place: what each waiter does with its offer, the paused scan that goes on,
and the end of a REPORT frame (R36, R44, R127, R128, R130, R132, R156 to R159). -/

namespace Sys2Proof.Machine

/-! ### Offers and the turn (R158) -/

theorem offerEntries_places {tag : Half} {rest : List Half} {s a : State} (h : offerEntry tag s = a)
    (hp : placedBetween s a = true) : offerEntries (tag :: rest) s = a := by
  simp [offerEntries, h, hp]

theorem offerEntries_passes {tag : Half} {rest : List Half} {s a : State} (h : offerEntry tag s = a)
    (hp : placedBetween s a = false) : offerEntries (tag :: rest) s = offerEntries rest a := by
  simp [offerEntries, h, hp]

theorem firstSide_dispatch {s : State} (hw : s.dispatchWaiters ≠ [] ∨ s.signatureWaits = false)
    (h : s.reports.turn = .dispatch ∨ s.signatureWaits = false) : s.firstSide = .dispatch := by
  cases hs : s.signatureWaits with
  | false => simp [State.firstSide, hs]
  | true =>
    have waits : s.dispatchWaiters ≠ [] := hw.resolve_right (by simp [hs])
    have turn : s.reports.turn = .dispatch := h.resolve_right (by simp [hs])
    simp [State.firstSide, hs, waits, turn]

theorem firstSide_signature {s : State} (hw : s.signatureWaits = true)
    (h : s.reports.turn = .signature ∨ s.dispatchWaiters = []) : s.firstSide = .signature := by
  rcases h with h | h
  · by_cases hd : s.dispatchWaiters = [] <;> simp [State.firstSide, hw, h, hd]
  · simp [State.firstSide, hw, h]

theorem grantPlace_first {s a : State} {side : Side} (hs : s.firstSide = side) (h : offerSide side s = a)
    (hp : placedBetween s a = true) : grantPlace s = setTurn side.other a := by
  simp [grantPlace, hs, h, hp]

section
variable {s a b : State} {side : Side} (hs : s.firstSide = side) (ha : offerSide side s = a)
  (hpa : placedBetween s a = false) (hb : offerSide side.other a = b)
include hs ha hpa hb

theorem grantPlace_second (hpb : placedBetween a b = true) : grantPlace s = setTurn side b := by
  simp [grantPlace, hs, ha, hpa, hb, hpb]

theorem grantPlace_neither (hpb : placedBetween a b = false) : grantPlace s = b := by
  simp [grantPlace, hs, ha, hpa, hb, hpb]

end

theorem offerSignature_none {s : State} (h : s.signatureWaits = false) : offerSignature s = s := by
  obtain ⟨hexp, hpaused⟩ := Bool.or_eq_false_iff.mp h
  simp [offerSignature, hexp, hpaused]

/-! ### The dispatch side (R157, R158) -/

/-- An entry with a fixed outcome retired into a place (R36, R44). -/
def State.fixedRetired (s : State) (e : Entry) (o : FixedOutcome) : State :=
  (s.withReport (dispatchReport e (s.stepOf e).exponent s.tb.microseconds .verdict
    (some (if o = .skip then .skip else .void))
    (if o = .skip then none else if o = .laneLost then some .laneLost else some .laneReset)
    none false false .absent) false).without e.tag

theorem placedBetween_of_nextId {s a : State} (h : a.reports.nextId = s.reports.nextId + 1) :
    placedBetween s a = true := by
  simp [placedBetween, h]

theorem placedBetween_of_same {s a : State} (h : a.reports.nextId = s.reports.nextId) :
    placedBetween s a = false := by
  simp [placedBetween, h]

/-- The fields that R44 gives a fixed outcome's report. -/
theorem FixedOutcome.verdict_cause (o : FixedOutcome) : o.verdict = (if o = .skip then .skip else .void)
    ∧ o.cause = (if o = .skip then none else if o = .laneLost then some .laneLost else some .laneReset) := by
  cases o <;> exact ⟨rfl, rfl⟩

section
variable {s : State} (hnd : (s.entries.map Entry.tag).Nodup) {e : Entry} (he : e ∈ s.entries)
  (hfree : s.reportFree = true)
include hnd he hfree

/-- A waiter with a fixed outcome retires into the place. -/
theorem offerEntry_fixed {o : FixedOutcome} (ho : e.outcome = some o) : offerEntry e.tag s = s.fixedRetired e o := by
  obtain ⟨verdict, cause⟩ := o.verdict_cause
  simp only [offerEntry, entry?_of_mem hnd he, ho, Option.isSome_some, if_true]
  rw [retireFixed_eq hnd he ho hfree, ← without_eq_removeEntry, verdict, cause]
  rfl

omit hfree in
/-- Of the dispatch-side waiters, one with no fixed outcome is ready for its decision (R157). -/
theorem ready_of_waits (hw : e.tag ∈ s.dispatchWaiters) (ho : e.outcome = none) : e.ready = true := by
  obtain ⟨x, hx, ht⟩ := List.mem_map.mp hw
  obtain ⟨hx, hwaits⟩ := List.mem_filter.mp hx
  obtain rfl := eq_of_tag_eq hnd he hx ht
  simpa [ho] using hwaits

omit hnd he hfree in
theorem modifyEntry_id (s : State) (tag : Half) : s.modifyEntry tag id = s := by
  simp [State.modifyEntry]

/-- A waiter whose trigger leads to a retry is forwarded again and places nothing (R158). -/
theorem offerEntry_retry (hw : e.tag ∈ s.dispatchWaiters) (ho : e.outcome = none) (ht : e.trigger ≠ none)
    (hbudget : e.attempt < (s.stepOf e).retryLimit + 1) (hslot : s.slotAt e.slot ≠ .xout) :
    offerEntry e.tag s = s.retried e none := by
  obtain ⟨t, ht⟩ := Option.ne_none_iff_exists'.mp ht
  have ready := ready_of_waits hnd he hw ho
  have judging : e.state = .judging := by
    simp only [Entry.ready, Bool.and_eq_true, decide_eq_true_eq] at ready
    exact ready.1.1
  have decides : decision (s.stepOf e) (s.rangeOf e) (decide (s.slotAt e.slot = .xout)) e = some (.retry none) := by
    simp [decision, ht, retryOr, budgetRemains, hbudget, hslot]
  have retries := carryOut_retry hnd he (f := id) (fun _ => rfl) none
  rw [modifyEntry_id] at retries
  simp only [offerEntry, entry?_of_mem hnd he, ho, Option.isSome_none]
  exact (tryDecide_of_ready (entry?_of_mem hnd he) hfree judging ho decides).trans retries

end

/-! ### The Deferred List without one of its entries (R127, R128) -/

/-- The scan's position moves on, or reaches the end. -/
theorem moveScan_eq {s : State} (i : Nat) (hs : s.sigs.scan.scanning = true) (hp : s.sigs.scan.paused = false) :
    moveScan i s = s.setScan (Scan.movedTo i s.sigs.deferred.length s.sigs.scan.rescan) := by
  unfold moveScan Scan.movedTo
  split
  · rw [← hs, ← hp]
  · unfold endScan startScan State.oldestDeferred
    cases s.sigs.deferred <;> cases s.sigs.scan.rescan <;> rfl

/-- The state with another Deferred List and scan. -/
def State.withScan (s : State) (deferred : List DeferredEntry) (scan : Scan) : State :=
  { s with sigs := { s.sigs with deferred := deferred, scan := scan } }

theorem endScan_withScan (s : State) (l : List DeferredEntry) (x : Scan) : endScan (s.withScan l x)
    = s.withScan l (if x.rescan then
        { scanning := true, position := if l.length = 0 then none else some 0, rescan := false, paused := false }
      else { scanning := false, position := none, rescan := false, paused := false }) := by
  unfold endScan startScan State.oldestDeferred
  cases h : x.rescan <;> cases l <;> simp [State.withScan, State.setScan, h]

/-- A position at the entry that leaves moves to the next, or the scan ends (R127, R128). -/
theorem moveScan_withScan {s : State} {p : Nat} (hp : s.sigs.scan.position = some p)
    (l : List DeferredEntry) : moveScan p (s.withScan l s.sigs.scan)
      = s.withScan l (if l.length ≤ p then Scan.movedTo p l.length s.sigs.scan.rescan else s.sigs.scan) := by
  unfold moveScan Scan.movedTo
  by_cases h : p < l.length
  · have same : ({ s.sigs.scan with position := some p } : Scan) = s.sigs.scan := by rw [← hp]
    rw [if_neg (Nat.not_le.mpr h)]
    exact (if_pos h).trans (congrArg (s.withScan l) same)
  · rw [if_pos (Nat.not_lt.mp h), if_neg h]
    exact (if_neg h).trans (endScan_withScan s l s.sigs.scan)

theorem removeDeferred_eq (i : Nat) (s : State) : removeDeferred i s
    = s.withScan (s.sigs.deferred.eraseIdx i) (s.sigs.scan.without i (s.sigs.deferred.eraseIdx i).length) := by
  have erased : ({ s with sigs := { s.sigs with deferred := s.sigs.deferred.eraseIdx i } } : State)
      = s.withScan (s.sigs.deferred.eraseIdx i) s.sigs.scan := rfl
  unfold removeDeferred Scan.without
  rw [erased]
  cases hs : s.sigs.scan.scanning with
  | false => rfl
  | true =>
    cases hp : s.sigs.scan.position with
    | none => rfl
    | some p =>
      dsimp only
      by_cases hlt : i < p
      · rw [if_pos hlt, if_pos hlt, hs]
        rfl
      · rw [if_neg hlt, if_neg hlt]
        by_cases heq : i = p
        · rw [if_pos heq, moveScan_withScan hp]
          by_cases hle : (s.sigs.deferred.eraseIdx i).length ≤ p <;> simp [heq ▸ hle, heq]
        · rw [if_neg heq, if_neg fun h => heq h.1]

theorem removeDeferred_append {s : State} {before after : List DeferredEntry} {d : DeferredEntry}
    (h : s.sigs.deferred = before ++ d :: after) : removeDeferred before.length s
      = s.withScan (before ++ after) (s.sigs.scan.without before.length (before.length + after.length)) := by
  have erased : s.sigs.deferred.eraseIdx before.length = before ++ after := by
    rw [h, List.eraseIdx_append_of_length_le le_rfl]
    simp
  rw [removeDeferred_eq, erased, List.length_append]

/-! ### The signature side: expiry (R130) -/

/-- The oldest EXPIRED entry and what stands around it (R130). -/
def State.OldestExpired (s : State) (before : List DeferredEntry) (d : DeferredEntry) (after : List DeferredEntry) :
    Prop :=
  s.sigs.deferred = before ++ d :: after ∧ (∀ x ∈ before, x.expired = false) ∧ d.expired = true

theorem oldestExpired_eq {s : State} {before after : List DeferredEntry} {d : DeferredEntry}
    (h : s.OldestExpired before d after) : s.oldestExpired = some before.length := by
  obtain ⟨hl, hb, hd⟩ := h
  have skipped : before.findIdx? (fun x => x.expired) = none := List.findIdx?_eq_none_iff.mpr hb
  simp [State.oldestExpired, hl, List.findIdx?_append, skipped, List.findIdx?_cons, hd]

/-- The part with an EXPIRED entry placed as UNREF and gone from the list (R130, R132). -/
def State.expiredPlaced (s : State) (before : List DeferredEntry) (d : DeferredEntry) (after : List DeferredEntry) :
    State :=
  (s.withScan (before ++ after) (s.sigs.scan.without before.length (before.length + after.length))).withReport
    (deferredReport d .unref s.tb.microseconds) false

theorem offerSignature_expired {s : State} {before after : List DeferredEntry} {d : DeferredEntry}
    (h : s.OldestExpired before d after) (hfree : s.reportFree = true) :
    offerSignature s = s.expiredPlaced before d after := by
  have oldest := oldestExpired_eq h
  have entry : s.sigs.deferred[before.length]? = some d := by simp [h.1]
  simp only [offerSignature, oldest, Option.isSome_some, if_true, placeExpired, entry, hfree]
  exact removeDeferred_append (s := s.withReport _ false) h.1

theorem signatureWaits_of_expired {s : State} {before after : List DeferredEntry} {d : DeferredEntry}
    (h : s.OldestExpired before d after) : s.signatureWaits = true := by
  simp [State.signatureWaits, oldestExpired_eq h]

/-! ### The signature side: the paused scan (R127, R128) -/

theorem runScan_paused {s : State} (h : s.sigs.scan.paused = true) (k : Nat) : runScan k s = s := by
  cases k <;> simp [runScan, h]

/-- A running scan at an index (R126). -/
def Scan.at (i : Nat) (mark : Bool) : Scan := { scanning := true, position := some i, rescan := mark, paused := false }

theorem Scan.movedTo_of_lt {i length : Nat} (h : i < length) (mark : Bool) : Scan.movedTo i length mark = Scan.at i mark :=
  if_pos h

section
variable {s : State} {i : Nat} {mark : Bool} (hscan : s.sigs.scan = Scan.at i mark) {d : DeferredEntry}
  (hd : s.sigs.deferred[i]? = some d)
include hscan hd

/-- An entry whose net has no reference is passed over (R127). -/
theorem examineEntry_passes (href : (s.signature d.net).reference = none) :
    examineEntry s = s.setScan (Scan.movedTo (i + 1) s.sigs.deferred.length mark) := by
  have position : s.sigs.scan.position = some i := by rw [hscan]; rfl
  have moved := moveScan_eq (s := s) (i + 1) (by rw [hscan]; rfl) (by rw [hscan]; rfl)
  rw [show s.sigs.scan.rescan = mark by rw [hscan]; rfl] at moved
  simp only [examineEntry, position, hd, href]
  cases d.expired <;> exact moved

/-- An entry whose net has a reference pauses the scan on a full Report Queue (R128). -/
theorem examineEntry_pauses (hexp : d.expired = false) (href : (s.signature d.net).reference ≠ none)
    (hfull : s.reportFree = false) : examineEntry s
      = s.setScan { scanning := true, position := some i, rescan := mark, paused := true } := by
  obtain ⟨ref, href⟩ := Option.ne_none_iff_exists'.mp href
  have position : s.sigs.scan.position = some i := by rw [hscan]; rfl
  simp only [examineEntry, position, hd, href, hexp, hfull]
  rw [hscan]
  rfl

/-- An entry whose net has a reference is judged into a free place (R127). -/
theorem examineEntry_judges (hexp : d.expired = false) {ref : Nat} (href : (s.signature d.net).reference = some ref)
    (hfree : s.reportFree = true) : examineEntry s = judgeDeferred i d ref s := by
  have position : s.sigs.scan.position = some i := by rw [hscan]; rfl
  simp only [examineEntry, position, hd, href, hexp, hfree]
  rfl

end

/-- A scan passes over the entries whose net has no reference (R127). -/
theorem runScan_passes {mark : Bool} (k : Nat) (passed : List DeferredEntry) : ∀ (s : State) (pre rest : List DeferredEntry),
    s.sigs.deferred = pre ++ passed ++ rest → (∀ x ∈ passed, (s.signature x.net).reference = none) →
    s.sigs.scan = Scan.movedTo pre.length s.sigs.deferred.length mark →
    runScan (passed.length + k) s
      = runScan k (s.setScan (Scan.movedTo (pre.length + passed.length) s.sigs.deferred.length mark)) := by
  induction passed with
  | nil =>
    intro s pre rest hl _ hscan
    have same : s.setScan (Scan.movedTo pre.length s.sigs.deferred.length mark) = s := by rw [← hscan]; rfl
    rw [List.length_nil, Nat.add_zero, Nat.zero_add, same]
  | cons d more ih =>
    intro s pre rest hl href hscan
    have lt : pre.length < s.sigs.deferred.length := by simp [hl]
    have running : s.sigs.scan = Scan.at pre.length mark := hscan.trans (Scan.movedTo_of_lt lt mark)
    have entry : s.sigs.deferred[pre.length]? = some d := by simp [hl]
    have passes := examineEntry_passes running entry (href d List.mem_cons_self)
    have going : s.sigs.scan.paused = false := by rw [running]; rfl
    have next := ih (s.setScan (Scan.movedTo (pre.length + 1) s.sigs.deferred.length mark)) (pre ++ [d]) rest
      (by simp [State.setScan, hl]) (fun x hx => href x (List.mem_cons_of_mem d hx))
      (by simp [State.setScan])
    calc runScan ((d :: more).length + k) s
        = runScan (more.length + k) (examineEntry s) := by
          rw [List.length_cons, Nat.add_right_comm]
          simp [runScan, going]
      _ = _ := by
          rw [passes, next]
          simp only [State.setScan, List.length_append, List.length_cons, List.length_nil]
          rw [show pre.length + (0 + 1) + more.length = pre.length + (more.length + 1) by omega]

/-- The part with the report of a judged deferred entry placed and its net raised (R99, R127, R132). -/
def State.deferredJudged (s : State) (d : DeferredEntry) (v : Verdict) : State :=
  if d.panel = s.board.panelSequence then
    raiseNet d.slot (some d.net) v (s.withReport (deferredReport d v s.tb.microseconds) false)
  else s.withReport (deferredReport d v s.tb.microseconds) false

theorem raiseNet_withScan (slot : Nat) (net : Option Nat) (v : Verdict) (s : State) (l : List DeferredEntry) (x : Scan) :
    raiseNet slot net v (s.withScan l x) = (raiseNet slot net v s).withScan l x := by
  unfold raiseNet
  split <;> rfl

theorem deferredJudged_withScan (s : State) (d : DeferredEntry) (v : Verdict) (l : List DeferredEntry) (x : Scan) :
    (s.withScan l x).deferredJudged d v = (s.deferredJudged d v).withScan l x := by
  have placed : (s.withScan l x).withReport (deferredReport d v s.tb.microseconds) false
      = (s.withReport (deferredReport d v s.tb.microseconds) false).withScan l x := rfl
  have board : (s.withScan l x).board = s.board := rfl
  have tb : (s.withScan l x).tb = s.tb := rfl
  simp only [State.deferredJudged, board, tb, placed]
  split
  · exact raiseNet_withScan _ _ _ _ l x
  · rfl

@[simp] theorem deferredJudged_sigs (s : State) (d : DeferredEntry) (v : Verdict) :
    (s.deferredJudged d v).sigs = s.sigs := by
  unfold State.deferredJudged
  split <;> simp [State.withReport]

@[simp] theorem deferredJudged_entries (s : State) (d : DeferredEntry) (v : Verdict) :
    (s.deferredJudged d v).entries = s.entries := by
  unfold State.deferredJudged
  split <;> simp [State.withReport]

@[simp] theorem deferredJudged_gens (s : State) (d : DeferredEntry) (v : Verdict) :
    (s.deferredJudged d v).gens = s.gens := by
  unfold State.deferredJudged
  split <;> simp [State.withReport]

@[simp] theorem deferredJudged_tb (s : State) (d : DeferredEntry) (v : Verdict) :
    (s.deferredJudged d v).tb = s.tb := by
  unfold State.deferredJudged
  split <;> simp [State.withReport]

theorem deferredJudged_reports (s : State) (d : DeferredEntry) (v : Verdict) : (s.deferredJudged d v).reports
    = (s.withReport (deferredReport d v s.tb.microseconds) false).reports := by
  unfold State.deferredJudged
  split <;> simp

theorem judgeDeferred_append {s : State} {before after : List DeferredEntry} {d : DeferredEntry}
    (h : s.sigs.deferred = before ++ d :: after) (ref : Nat) : judgeDeferred before.length d ref s
      = (s.deferredJudged d (judgeSignature d.value ref d.tolerance)).withScan (before ++ after)
        (s.sigs.scan.without before.length (before.length + after.length)) := by
  have judged : judgeDeferred before.length d ref s
      = removeDeferred before.length (s.deferredJudged d (judgeSignature d.value ref d.tolerance)) := rfl
  rw [judged, removeDeferred_append (by rw [deferredJudged_sigs]; exact h), deferredJudged_sigs]

/-- The scan after a judged entry at an index has left: it goes on there (R127). -/
theorem Scan.without_at (i length : Nat) (mark : Bool) : (Scan.at i mark).without i length = Scan.movedTo i length mark := by
  by_cases h : length ≤ i
  · simp [Scan.without, Scan.at, h]
  · simp [Scan.without, Scan.at, h, Scan.movedTo_of_lt (Nat.not_le.mp h)]

section
variable {s : State} {before passed rest : List DeferredEntry} {d : DeferredEntry} {ref : Nat} {mark : Bool}
  (hscan : s.sigs.scan = { scanning := true, position := some before.length, rescan := mark, paused := true })
  (hl : s.sigs.deferred = before ++ d :: (passed ++ rest)) (hexp : ∀ x ∈ s.sigs.deferred, x.expired = false)
  (hd : (s.signature d.net).reference = some ref) (hpassed : ∀ x ∈ passed, (s.signature x.net).reference = none)
  (hfree : s.reportFree = true)
include hscan hl hexp hd hpassed hfree

/-- A resumed scan judges the entry at its position and passes over those whose net has no reference (R127, R128). -/
theorem resumeScan_judges : resumeScan s = runScan rest.length
    ((s.deferredJudged d (judgeSignature d.value ref d.tolerance)).withScan (before ++ passed ++ rest)
      (Scan.movedTo (before.length + passed.length) (before ++ passed ++ rest).length mark)) := by
  let judged := s.deferredJudged d (judgeSignature d.value ref d.tolerance)
  have remaining : s.scanRemaining = (passed.length + rest.length) + 1 := by
    simp only [State.scanRemaining, hscan, hl, List.length_append, List.length_cons]
    omega
  have resumed : s.setScan { s.sigs.scan with paused := false } = s.withScan s.sigs.deferred (Scan.at before.length mark) := by
    rw [hscan]
    rfl
  have entry : s.sigs.deferred[before.length]? = some d := by simp [hl]
  have examined : examineEntry (s.withScan s.sigs.deferred (Scan.at before.length mark))
      = judged.withScan (before ++ (passed ++ rest))
        (Scan.movedTo before.length (before.length + (passed ++ rest).length) mark) := by
    refine (examineEntry_judges (s := s.withScan s.sigs.deferred (Scan.at before.length mark)) rfl entry
      (hexp d (List.mem_of_getElem? entry)) hd hfree).trans ?_
    rw [judgeDeferred_append (s := s.withScan s.sigs.deferred (Scan.at before.length mark)) hl, deferredJudged_withScan]
    exact congrArg (fun x => judged.withScan _ x) (Scan.without_at before.length _ mark)
  have passes := runScan_passes (mark := mark) rest.length passed
    (judged.withScan (before ++ (passed ++ rest)) (Scan.movedTo before.length (before.length + (passed ++ rest).length) mark))
    before rest (List.append_assoc _ _ _).symm
    (fun x hx => by
      have same : (judged.withScan (before ++ (passed ++ rest))
          (Scan.movedTo before.length (before.length + (passed ++ rest).length) mark)).signature x.net
            = s.signature x.net := by
        simp [State.signature, State.withScan, judged]
      rw [same]
      exact hpassed x hx)
    (congrArg (Scan.movedTo before.length · mark) List.length_append.symm)
  rw [resumeScan, remaining, resumed]
  refine Eq.trans (show _ = runScan (passed.length + rest.length) (examineEntry _) from rfl) ?_
  rw [examined, passes, List.append_assoc]
  rfl

theorem resumeScan_ends (hrest : rest = []) : resumeScan s
    = (s.deferredJudged d (judgeSignature d.value ref d.tolerance)).withScan (before ++ passed ++ rest)
      (Scan.movedTo (before.length + passed.length) (before.length + passed.length) mark) := by
  rw [resumeScan_judges hscan hl hexp hd hpassed hfree, hrest, List.append_nil, List.length_append]
  rfl

theorem resumeScan_pauses {next : DeferredEntry} {more : List DeferredEntry} (hrest : rest = next :: more)
    (hnext : (s.signature next.net).reference ≠ none) (hlast : s.reports.queue.length = 31) : resumeScan s
    = (s.deferredJudged d (judgeSignature d.value ref d.tolerance)).withScan (before ++ passed ++ rest)
      { scanning := true, position := some (before.length + passed.length), rescan := mark, paused := true } := by
  let judged := s.deferredJudged d (judgeSignature d.value ref d.tolerance)
  have lt : before.length + passed.length < (before ++ passed ++ rest).length := by simp [hrest]
  let a := judged.withScan (before ++ passed ++ rest) (Scan.at (before.length + passed.length) mark)
  have entry : a.sigs.deferred[before.length + passed.length]? = some next := by
    show (before ++ passed ++ rest)[before.length + passed.length]? = some next
    rw [← List.length_append, List.getElem?_append_right le_rfl, Nat.sub_self, hrest]
    rfl
  have fresh : next.expired = false := hexp next (by rw [hl, hrest]; simp)
  have reference : (a.signature next.net).reference ≠ none := by
    simpa [a, State.signature, State.withScan, judged] using hnext
  have full : a.reportFree = false := by
    have queue : a.reports = (s.withReport _ false).reports := deferredJudged_reports s d _
    simp [State.reportFree, queue, State.withReport, hlast, Config.reportCapacity]
  have pauses := examineEntry_pauses (s := a) rfl entry fresh reference full
  rw [resumeScan_judges hscan hl hexp hd hpassed hfree, Scan.movedTo_of_lt lt, congrArg List.length hrest]
  refine Eq.trans (show _ = runScan more.length (examineEntry a) from rfl) ?_
  rw [pauses]
  exact runScan_paused rfl more.length

end

/-! ### The grant, by the waiters there are (R158) -/

theorem retried_tags (s : State) (e : Entry) (escalate : Option Nat) :
    (s.retried e escalate).entries.map Entry.tag = s.entries.map Entry.tag := by
  simp only [State.retried, List.map_map]
  refine List.map_congr_left fun x _ => ?_
  by_cases h : x.tag = e.tag <;> simp [h, Entry.again]

theorem offerSignature_scan {s : State} (hexp : ∀ x ∈ s.sigs.deferred, x.expired = false)
    (hpaused : s.sigs.scan.paused = true) : offerSignature s = resumeScan s := by
  have noneExpired : s.oldestExpired = none := List.findIdx?_eq_none_iff.mpr hexp
  simp [offerSignature, noneExpired, hpaused]

theorem fixedRetired_places (s : State) (e : Entry) (o : FixedOutcome) : placedBetween s (s.fixedRetired e o) = true :=
  placedBetween_of_nextId rfl

theorem grantPlace_unclaimed {s : State} (hd : s.dispatchWaiters = []) (hs : s.signatureWaits = false) :
    grantPlace s = s := by
  have offered : offerSide .dispatch s = s := by rw [offerSide, hd]; rfl
  exact grantPlace_neither (firstSide_dispatch (Or.inr hs) (Or.inr hs)) offered (placedBetween_of_same rfl)
    (offerSignature_none hs) (placedBetween_of_same rfl)

/-- An entry whose trigger leads to a retry (R32, R157). -/
structure State.Retries (s : State) (e : Entry) : Prop where
  mem : e ∈ s.entries
  unfixed : e.outcome = none
  trigger : e.trigger ≠ none
  budget : e.attempt < (s.stepOf e).retryLimit + 1
  slot : s.slotAt e.slot ≠ .xout

section
variable {s : State} (hnd : (s.entries.map Entry.tag).Nodup) (hfree : s.reportFree = true)
include hnd hfree

theorem grantPlace_fixed {e : Entry} {rest : List Half} {o : FixedOutcome} (hd : s.dispatchWaiters = e.tag :: rest)
    (he : e ∈ s.entries) (ho : e.outcome = some o) (hto : s.reports.turn = .dispatch ∨ s.signatureWaits = false) :
    grantPlace s = setTurn .signature (s.fixedRetired e o) := by
  have offered : offerSide .dispatch s = s.fixedRetired e o := by
    rw [offerSide, hd]
    exact offerEntries_places (offerEntry_fixed hnd he hfree ho) (fixedRetired_places _ _ _)
  exact grantPlace_first (firstSide_dispatch (Or.inl (by simp [hd])) hto) offered (fixedRetired_places _ _ _)

theorem offerEntries_retry {e : Entry} {rest : List Half} (hd : s.dispatchWaiters = e.tag :: rest) (h : s.Retries e) :
    offerSide .dispatch s = offerEntries rest (s.retried e none) := by
  rw [offerSide, hd]
  exact offerEntries_passes
    (offerEntry_retry hnd h.mem hfree (by simp [hd]) h.unfixed h.trigger h.budget h.slot) (placedBetween_of_same rfl)

theorem grantPlace_retry {e : Entry} (hd : s.dispatchWaiters = [e.tag]) (h : s.Retries e)
    (hs : s.signatureWaits = false) : grantPlace s = s.retried e none :=
  grantPlace_neither (firstSide_dispatch (Or.inr hs) (Or.inr hs)) (offerEntries_retry hnd hfree hd h)
    (placedBetween_of_same rfl) (offerSignature_none (s := s.retried e none) hs) (placedBetween_of_same rfl)

omit hfree in
theorem retried_mem {e y : Entry} (h : s.Retries e) (hy : y ∈ s.entries) (ho : y.outcome ≠ none) :
    y ∈ (s.retried e none).entries := by
  have hne : y.tag ≠ e.tag := fun ht => ho (eq_of_tag_eq hnd h.mem hy ht ▸ h.unfixed)
  exact List.mem_map.mpr ⟨y, hy, if_neg hne⟩

theorem grantPlace_retry_fixed {e y : Entry} {rest : List Half} {o : FixedOutcome}
    (hd : s.dispatchWaiters = e.tag :: y.tag :: rest) (h : s.Retries e) (hy : y ∈ s.entries) (ho : y.outcome = some o)
    (hto : s.reports.turn = .dispatch ∨ s.signatureWaits = false) :
    grantPlace s = setTurn .signature ((s.retried e none).fixedRetired y o) := by
  have offered : offerSide .dispatch s = (s.retried e none).fixedRetired y o := by
    rw [offerEntries_retry hnd hfree hd h]
    exact offerEntries_places (offerEntry_fixed (s := s.retried e none) ((retried_tags s e none).symm ▸ hnd)
      (retried_mem hnd h hy (by simp [ho])) hfree ho) (fixedRetired_places _ _ _)
  exact grantPlace_first (firstSide_dispatch (Or.inl (by simp [hd])) hto) offered (fixedRetired_places s y o)

theorem grantPlace_retry_expired {e : Entry} {before after : List DeferredEntry} {d : DeferredEntry}
    (hd : s.dispatchWaiters = [e.tag]) (h : s.Retries e) (hold : s.OldestExpired before d after)
    (hturn : s.reports.turn = .dispatch) :
    grantPlace s = setTurn .dispatch ((s.retried e none).expiredPlaced before d after) :=
  grantPlace_second (firstSide_dispatch (Or.inl (by simp [hd])) (Or.inl hturn)) (offerEntries_retry hnd hfree hd h)
    (placedBetween_of_same rfl) (offerSignature_expired (s := s.retried e none) hold hfree) (placedBetween_of_nextId rfl)

omit hnd in
theorem grantPlace_expired {before after : List DeferredEntry} {d : DeferredEntry} (hold : s.OldestExpired before d after)
    (hto : s.reports.turn = .signature ∨ s.dispatchWaiters = []) :
    grantPlace s = setTurn .dispatch (s.expiredPlaced before d after) :=
  grantPlace_first (firstSide_signature (signatureWaits_of_expired hold) hto) (offerSignature_expired hold hfree)
    (placedBetween_of_nextId rfl)

end

theorem grantPlace_scan {s a : State} (hexp : ∀ x ∈ s.sigs.deferred, x.expired = false)
    (hpaused : s.sigs.scan.paused = true) (hto : s.reports.turn = .signature ∨ s.dispatchWaiters = [])
    (hr : resumeScan s = a) (hp : placedBetween s a = true) : grantPlace s = setTurn .dispatch a :=
  grantPlace_first (firstSide_signature (by simp [State.signatureWaits, hpaused]) hto)
    ((offerSignature_scan hexp hpaused).trans hr) hp

/-! ### The statement -/

theorem signatureWaits_congr {a b : State} (h : a.sigs = b.sigs) : a.signatureWaits = b.signatureWaits := by
  simp [State.signatureWaits, State.oldestExpired, h]

/-- A ready waiter does not wait for excitation (R157). -/
theorem state_of_waits {s : State} (hnd : (s.entries.map Entry.tag).Nodup) {e : Entry} (he : e ∈ s.entries)
    (hw : e.tag ∈ s.dispatchWaiters) (ho : e.outcome = none) : e.state = .judging := by
  have ready := ready_of_waits hnd he hw ho
  simp only [Entry.ready, Bool.and_eq_true, decide_eq_true_eq] at ready
  exact ready.1.1

/-- An entry with a fixed outcome is JUDGING and attached to nothing (R36). -/
theorem judging_of_outcome {s : State} (h : s.excitationOk = true) {e : Entry} (he : e ∈ s.entries) {o : FixedOutcome}
    (ho : e.outcome = some o) : e.state = .judging ∧ e.gen = none := by
  simp only [State.excitationOk, Bool.and_eq_true, List.all_eq_true] at h
  have ok := h.1.1.2 e he
  simp only [Entry.attachmentOk, ho, Option.isNone_some, Bool.false_or, Bool.and_eq_true, decide_eq_true_eq,
    Option.isNone_iff_eq_none] at ok
  exact ok.1

/-- The retirement of a fixed outcome leaves those that wait for excitation. -/
theorem fixedRetired_waiting {s : State} (hnd : (s.entries.map Entry.tag).Nodup) {e : Entry} (he : e ∈ s.entries)
    (hstate : e.state = .judging) (o : FixedOutcome) : (s.fixedRetired e o).waiting = s.waiting :=
  waiting_without (s := s) hnd he (by simp [hstate])

/-- Settles O53: the freed place is granted by the waiters there are, and no grant leaves the arbiter anything to do. -/
theorem reportSentFreesPlace : Obligations.ReportSentFreesPlace := by
  unfold Obligations.ReportSentFreesPlace
  intro dt f s hlow hsend hkind u left freed turned o toDispatch toSignature retires Retries retries expires Oldest hok hroom
  have busy := (elapse_wrapsOnly dt s).busy (by simp [hsend])
  have hnd := nodup_of_outstandingOk hok
  have entries : freed.entries = s.entries := elapse_entries dt s
  have hndf : (freed.entries.map Entry.tag).Nodup := entries ▸ hnd
  have sigs : freed.sigs = s.sigs := elapse_sigs dt s
  have step (e : Entry) : freed.stepOf e = s.stepOf e := elapse_stepOf dt s e
  have turn : freed.reports.turn = s.reports.turn := elapse_turn dt s
  have waiters : freed.dispatchWaiters = s.dispatchWaiters := by rw [State.dispatchWaiters, entries]; rfl
  have signature : freed.signatureWaits = s.signatureWaits := signatureWaits_congr sigs
  have free : freed.reportFree = true := decide_eq_true hroom
  have waiting : freed.waiting = s.waiting := elapse_waiting dt s
  have ended : endReport u = grantPlace freed := by
    have sending : u.sending .report = true := by
      rw [State.sending, show u.link = s.link from busy.2.symm, hsend]
      simp [hkind]
    have queue : dropReport (freeTransmitter u) = freed := by
      simp only [dropReport, freeTransmitter, freed, left, show u.reports = s.reports from busy.1.symm]
    rw [endReport, if_pos sending, queue]
  have becomes {c : State} (hc : grantPlace freed = c) (hw : c.waiting = s.waiting) (hg : c.gens = u.gens)
      (ht : c.tb = u.tb) : Becomes o c := by
    have effect : endReport u = c := ended.trans hc
    exact effect ▸ takeArbitrated_becomes_of_idle hlow dt endReport (Or.inl (effect.symm ▸
      passTriggered_of_kept (hw.trans (elapse_waiting dt s).symm) hg ht))
  have retired (e : Entry) (x : FixedOutcome) (a : State) (hs : a.stepOf e = s.stepOf e) (ht : a.tb = u.tb) :
      a.fixedRetired e x = retires e x a := by
    simp only [State.fixedRetired, hs, ht, retires]
  have retried (e : Entry) : freed.retried e none = retries e freed := by
    simp only [State.retried, step, show freed.tb.source = s.tb.source from elapse_source dt s]
    rfl
  have expired {before after : List DeferredEntry} {d : DeferredEntry} (a : State) (hs : a.sigs = s.sigs)
      (ht : a.tb = u.tb) : a.expiredPlaced before d after = expires before d after a := by
    simp only [State.expiredPlaced, State.withScan, hs, ht, expires]
  have retrying (e : Entry) (h : Retries e) : freed.Retries e := by
    obtain ⟨he, ho, ht, hbudget, hslot⟩ := h
    exact ⟨entries ▸ he, ho, ht, by rw [step]; exact hbudget,
      by rw [show freed.slotAt e.slot = s.slotAt e.slot from elapse_slotAt dt s e.slot]; exact hslot⟩
  have kept (e : Entry) (h : Retries e) (hw : e.tag ∈ s.dispatchWaiters) : (freed.retried e none).waiting = s.waiting :=
    (retried_waiting hndf (entries ▸ h.1) (by simp [state_of_waits hnd h.1 hw h.2.1]) none).trans waiting
  have dispatchTurn (h : toDispatch) : freed.reports.turn = .dispatch ∨ freed.signatureWaits = false := by
    rw [turn, signature]; exact h
  have signatureTurn (h : toSignature) : freed.reports.turn = .signature ∨ freed.dispatchWaiters = [] := by
    rw [turn, waiters]; exact h
  refine ⟨?_, ?_, ?_, ?_, ?_, ?_, ?_⟩
  · intro hd hs
    exact becomes (grantPlace_unclaimed (waiters.trans hd) (signature.trans hs)) waiting rfl rfl
  · intro e rest x hexc hd he ho hto
    have granted := grantPlace_fixed hndf free (waiters.trans hd) (entries ▸ he) ho (dispatchTurn hto)
    have leaves := (fixedRetired_waiting hndf (entries ▸ he) (judging_of_outcome hexc he ho).1 x).trans waiting
    exact retired e x freed (step e) rfl ▸ becomes granted leaves rfl rfl
  · intro e hd h hs
    have granted := grantPlace_retry hndf free (waiters.trans hd) (retrying e h) (signature.trans hs)
    exact retried e ▸ becomes granted (kept e h (by simp [hd])) rfl rfl
  · intro e y rest x hexc hd h hy ho hto
    have granted := grantPlace_retry_fixed hndf free (waiters.trans hd) (retrying e h) (entries ▸ hy) ho
      (dispatchTurn hto)
    have leaves : ((freed.retried e none).fixedRetired y x).waiting = s.waiting :=
      (fixedRetired_waiting ((retried_tags freed e none).symm ▸ hndf)
        (retried_mem hndf (retrying e h) (entries ▸ hy) (by simp [ho])) (judging_of_outcome hexc hy ho).1 x).trans
          (kept e h (by simp [hd]))
    rw [← retried e, ← retired y x (freed.retried e none) (step y) rfl]
    exact becomes granted leaves rfl rfl
  · intro before d after hold hto
    have granted := grantPlace_expired free (by rw [State.OldestExpired, sigs]; exact hold) (signatureTurn hto)
    exact expired freed sigs rfl ▸ becomes granted waiting rfl rfl
  · intro e before d after hd h hold hturn
    have granted := grantPlace_retry_expired hndf free (waiters.trans hd) (retrying e h)
      (by rw [State.OldestExpired, sigs]; exact hold) (turn.trans hturn)
    rw [← retried e, ← expired (freed.retried e none) sigs rfl]
    exact becomes granted (kept e h (by simp [hd])) rfl rfl
  · intro before d passed rest ref mark hscan hl hexp href hpassed hlast hto v place judged
    have net (n : Nat) : freed.signature n = s.signature n := by rw [State.signature, sigs]; rfl
    have shape (scan : Scan) : setTurn .dispatch ((freed.deferredJudged d v).withScan (before ++ passed ++ rest) scan)
        = judged scan := by
      rw [← deferredJudged_withScan, State.deferredJudged,
        show (freed.withScan (before ++ passed ++ rest) scan).board = s.board from elapse_board dt s]
      rfl
    have granted {scan : Scan} (hr : resumeScan freed
        = (freed.deferredJudged d v).withScan (before ++ passed ++ rest) scan) : Becomes o (judged scan) := by
      have places := placedBetween_of_nextId (congrArg ReportUnit.nextId (deferredJudged_reports freed d v))
      have list : (freed.deferredJudged d v).waiting = freed.waiting := by rw [State.waiting, deferredJudged_entries]; rfl
      rw [← shape scan]
      exact becomes (grantPlace_scan (sigs ▸ hexp) (by rw [sigs, hscan]) (signatureTurn hto) hr places)
        (list.trans waiting) (deferredJudged_gens freed d v) (deferredJudged_tb freed d v)
    have refd : (freed.signature d.net).reference = some ref := net d.net ▸ href
    have refp : ∀ x ∈ passed, (freed.signature x.net).reference = none := fun x hx => net x.net ▸ hpassed x hx
    refine ⟨fun hrest => ?_, fun next more hrest hnext => ?_⟩
    · exact granted (resumeScan_ends (sigs ▸ hscan) (sigs ▸ hl) (sigs ▸ hexp) refd refp free hrest)
    · exact granted (resumeScan_pauses (sigs ▸ hscan) (sigs ▸ hl) (sigs ▸ hexp) refd refp free hrest
        (net next.net ▸ hnext) hlast)

end Sys2Proof.Machine
end

section
/-! SUPPORT. Outcomes fixed by an XOUT, a lost lane or a reset one: what keeps them on the way to the end of the event, and
what keeps a lost lane quiet (R36, R38, R41, R42, R44, R46, R52, R54, R64). -/

namespace Sys2Proof.Machine

/-! ### Fixed outcomes, step by step -/

theorem mem_of_fixings {a b : State} (h : b.fixings = a.fixings) {x : Entry} (hx : x ∈ b.entries) :
    ∃ y ∈ a.entries, y.tag = x.tag ∧ y.lane = x.lane ∧ y.outcome = x.outcome := by
  have mem : x.fixing ∈ a.fixings := h ▸ List.mem_map_of_mem hx
  obtain ⟨y, hy, heq⟩ := List.mem_map.mp mem
  simp only [Entry.fixing, Prod.mk.injEq] at heq
  exact ⟨y, hy, heq⟩

theorem tags_of_fixings {a b : State} (h : b.fixings = a.fixings) :
    b.entries.map Entry.tag = a.entries.map Entry.tag := by
  have tags : ∀ s : State, s.entries.map Entry.tag = s.fixings.map Prod.fst := by
    intro s
    simp [State.fixings, Entry.fixing, Function.comp_def]
  rw [tags, tags, h]

/-- The report of a fixed outcome of a tag (R44). -/
def ReportEntry.tellsFixed (r : ReportEntry) (base : Nat) (tag : Half) (o : FixedOutcome) : Prop :=
  base ≤ r.id ∧ r.report.tag = tag ∧ r.report.kind = .verdict ∧ r.report.verdict = some o.verdict
    ∧ r.report.cause = o.cause

/-- The outcome of a tag is fixed: its entry waits with the outcome, or a report numbered from a base on tells it. -/
structure State.FixedAt (s : State) (base : Nat) (tag : Half) (o : FixedOutcome) : Prop where
  nodup : (s.entries.map Entry.tag).Nodup
  base_le : base ≤ s.reports.nextId
  only : ∀ x ∈ s.entries, x.tag = tag → x.outcome = some o
  settled : (∃ x ∈ s.entries, x.tag = tag) ∨ ∃ r ∈ s.reports.queue, r.tellsFixed base tag o

theorem tellsFixed_sameReports {a b : ReportUnit} (h : a.SameReports b) {base : Nat} {tag : Half} {o : FixedOutcome}
    (hr : ∃ r ∈ a.queue, r.tellsFixed base tag o) : ∃ r ∈ b.queue, r.tellsFixed base tag o := by
  obtain ⟨r, hr, tells⟩ := hr
  have mem : ({ r with inTransmission := false } : ReportEntry) ∈ b.queue.map (fun e => { e with inTransmission := false }) :=
    h.1 ▸ List.mem_map_of_mem hr
  obtain ⟨x, hx, heq⟩ := List.mem_map.mp mem
  simp only [ReportEntry.mk.injEq, and_true] at heq
  obtain ⟨hid, hreport, -⟩ := heq
  exact ⟨x, hx, by rw [ReportEntry.tellsFixed, hid, hreport]; exact tells⟩

/-- A retirement waits, or places the report of a fixed outcome and takes its entry away (R36, R44). -/
theorem retireFixed_cases (t : Half) (s : State) : retireFixed t s = s
    ∨ ∃ e ∈ s.entries, ∃ o, e.tag = t ∧ e.outcome = some o ∧ retireFixed t s
      = (placeReport (e.report (s.stepOf e) s.now .verdict (some o.verdict) o.cause none false false .absent) false
          s).removeEntry t := by
  cases he : s.entry? t with
  | none => exact Or.inl (by simp [retireFixed, he])
  | some e =>
    cases ho : e.outcome with
    | none => exact Or.inl (by simp [retireFixed, he, ho])
    | some o =>
      by_cases hf : s.reportFree = true
      · exact Or.inr ⟨e, List.mem_of_find?_eq_some he, o, entry?_tag he, ho, by simp [retireFixed, he, ho, hf]⟩
      · exact Or.inl (by simp [retireFixed, he, ho, hf])

section
variable {a b : State} {base : Nat} {tag : Half} {o : FixedOutcome} (h : a.FixedAt base tag o)
include h

/-- What changes neither a fixed outcome nor a placed report keeps it. -/
theorem State.FixedAt.of_same (hf : b.fixings = a.fixings) (hr : a.reports.SameReports b.reports) :
    b.FixedAt base tag o where
  nodup := tags_of_fixings hf ▸ h.nodup
  base_le := hr.2.2 ▸ h.base_le
  only x hx ht := by
    obtain ⟨y, hy, htag, -, ho⟩ := mem_of_fixings hf hx
    exact ho ▸ h.only y hy (htag.trans ht)
  settled := h.settled.imp
    (fun ⟨x, hx, ht⟩ => by
      obtain ⟨y, hy, htag, -, -⟩ := mem_of_fixings hf.symm hx
      exact ⟨y, hy, htag.trans ht⟩)
    (tellsFixed_sameReports hr)

theorem State.FixedAt.of_kept (hf : b.fixings = a.fixings) (hr : b.reports = a.reports) : b.FixedAt base tag o :=
  h.of_same hf (hr ▸ ReportUnit.SameReports.refl _)

/-- A retirement of a fixed outcome keeps this one, and places its report when it is its own (R36, R44). -/
theorem State.FixedAt.retireFixed (t : Half) : (retireFixed t a).FixedAt base tag o := by
  rcases retireFixed_cases t a with same | ⟨e, he, o', htag, ho, places⟩
  · exact same.symm ▸ h
  rw [places]
  refine ⟨(List.filter_sublist.map Entry.tag).nodup h.nodup, h.base_le.trans (Nat.le_succ _),
    fun x hx => h.only x (List.mem_of_mem_filter hx), ?_⟩
  by_cases ht : t = tag
  · obtain rfl : o' = o := Option.some.inj (ho.symm.trans (h.only e he (htag.trans ht)))
    exact Or.inr ⟨_, List.mem_append_right _ (List.mem_singleton_self _), h.base_le, htag.trans ht, rfl, rfl, rfl⟩
  · refine h.settled.imp (fun ⟨x, hx, hxt⟩ => ⟨x, List.mem_filter.mpr ⟨hx, ?_⟩, hxt⟩)
      (fun ⟨r, hr, tells⟩ => ⟨r, List.mem_append_left _ hr, tells⟩)
    simpa [hxt] using fun k => ht k.symm

end

/-! ### A quiet lane -/

/-- A lane whose entries are all fixed, with no open attempt and no generator selected (R41, R42, R46). -/
structure State.LaneQuiet (s : State) (n : LaneId) : Prop where
  nodup : (s.entries.map Entry.tag).Nodup
  fixed : ∀ e ∈ s.entries, e.lane = n → e.outcome ≠ none ∧ e.state ≠ .waitExc
  openAttempt : (s.lane n).openAttempt = none
  selection : (s.lane n).selection = none

section
variable {s : State} {n : LaneId} (h : s.LaneQuiet n)
include h

theorem State.LaneQuiet.of_same {b : State} (he : b.entries = s.entries)
    (hopen : (b.lane n).openAttempt = (s.lane n).openAttempt) (hsel : (b.lane n).selection = (s.lane n).selection) :
    b.LaneQuiet n :=
  ⟨he ▸ h.nodup, he ▸ h.fixed, hopen.trans h.openAttempt, hsel.trans h.selection⟩

theorem State.LaneQuiet.modifyEntry {f : Entry → Entry} (hf : ∀ y, (f y).fixing = y.fixing) {tag : Half}
    (hstate : ∀ x ∈ s.entries, x.tag = tag → x.lane = n → (f x).state ≠ .waitExc) : (s.modifyEntry tag f).LaneQuiet n where
  nodup := tags_of_fixings (modifyEntry_fixings hf s tag) ▸ h.nodup
  fixed y hy hlane := by
    obtain ⟨x, hx, rfl⟩ := List.mem_map.mp hy
    by_cases ht : x.tag = tag
    · rw [if_pos ht] at hlane ⊢
      have same := hf x
      simp only [Entry.fixing, Prod.mk.injEq] at same
      obtain ⟨-, hl, ho⟩ := same
      exact ⟨ho ▸ (h.fixed x hx (hl ▸ hlane)).1, hstate x hx ht (hl ▸ hlane)⟩
    · rw [if_neg ht] at hlane ⊢
      exact h.fixed x hx hlane
  openAttempt := h.openAttempt
  selection := h.selection

theorem State.LaneQuiet.modifyLane {m : LaneId} (hm : m ≠ n) (f : Lane → Lane) : (s.modifyLane m f).LaneQuiet n :=
  have kept : (s.modifyLane m f).lane n = s.lane n := PerLane.get_set_of_ne s.lanes hm.symm _
  h.of_same rfl (congrArg Lane.openAttempt kept) (congrArg Lane.selection kept)

/-- Forwarding an entry of another lane. -/
theorem State.LaneQuiet.forward {tag : Half} (ht : ∀ x ∈ s.entries, x.tag = tag → x.lane ≠ n) :
    (forward tag s).LaneQuiet n := by
  unfold Machine.forward
  split
  · exact h
  · rename_i e he
    have hlane : e.lane ≠ n := ht e (List.mem_of_find?_eq_some he) (entry?_tag he)
    exact (h.modifyLane hlane _).modifyEntry (fun _ => by rfl) fun _ _ _ _ => by simp [Entry.forwarded]

theorem State.LaneQuiet.advanceHead (m : LaneId) : (advanceHead m s).LaneQuiet n := by
  unfold Machine.advanceHead
  split
  · exact h
  · rename_i e rest hl
    have he : e ∈ s.orderList m := hl ▸ List.mem_cons_self
    obtain ⟨hmem, hlane⟩ := mem_of_orderList he
    have unfixed : e.outcome = none :=
      Option.isNone_iff_eq_none.mp (Bool.and_eq_true _ _ ▸ (List.mem_filter.mp he).2).2
    have other : ∀ x ∈ s.entries, x.tag = e.tag → x.lane ≠ n := by
      intro x hx ht hn
      rw [eq_of_tag_eq h.nodup hmem hx ht] at hn
      exact (h.fixed e hmem hn).1 unfixed
    split
    · split
      · exact h.modifyEntry (fun _ => by rfl) fun x hx ht hn => absurd hn (other x hx ht)
      · exact h.forward other
    · exact h

theorem State.LaneQuiet.switchedTo (p : Source) : (s.switchedTo p).LaneQuiet n := by
  have lane : (s.switchedTo p).lane n = (s.lane n).sourceChanged := by
    rw [State.switchedTo, postEvent_eq]
    exact PerLane.get_map _ _ n
  have kept : (s.lane n).sourceChanged.openAttempt = (s.lane n).openAttempt
      ∧ (s.lane n).sourceChanged.selection = (s.lane n).selection := by
    unfold Lane.sourceChanged
    split <;> exact ⟨rfl, rfl⟩
  refine h.of_same ?_ (lane ▸ kept.1) (lane ▸ kept.2)
  rw [State.switchedTo, postEvent_eq]

theorem State.LaneQuiet.checkSwitch : (checkSwitch s).LaneQuiet n := by
  cases hp : s.tb.pendingSwitch with
  | none => exact (checkSwitch_of_calm hp).symm ▸ h
  | some p =>
    rw [checkSwitch_of_pending hp]
    split
    · exact h.switchedTo p
    · exact h

theorem State.LaneQuiet.releaseGen (tag : Half) : (releaseGen tag s).LaneQuiet n := by
  cases he : s.entry? tag with
  | none => simpa [Machine.releaseGen, he] using h
  | some e =>
    cases hg : e.gen with
    | none => exact (releaseGen_of_none he hg).symm ▸ h
    | some g =>
      rw [releaseGen_of_gen he hg]
      have freed := h.modifyEntry (f := fun y => { y with gen := none }) (tag := tag) (fun _ => by rfl)
        fun x hx _ hn => (h.fixed x hx hn).2
      exact (freed.of_same (b := { s.modifyEntry tag (fun y => { y with gen := none }) with
        gens := releasedGens s.gens e.gen }) rfl rfl rfl).checkSwitch

theorem State.LaneQuiet.retireFixed (tag : Half) : (retireFixed tag s).LaneQuiet n := by
  have sub : (Machine.retireFixed tag s).entries.Sublist s.entries := by
    rcases retireFixed_cases tag s with same | ⟨e, -, o, -, -, places⟩
    · rw [same]
    · rw [places]
      exact List.filter_sublist
  have lanes : (Machine.retireFixed tag s).lane n = s.lane n := congrArg (PerLane.get · n) (retireFixed_lanes tag s)
  exact ⟨(sub.map Entry.tag).nodup h.nodup, fun e he => h.fixed e (sub.subset he),
    (congrArg Lane.openAttempt lanes).trans h.openAttempt, (congrArg Lane.selection lanes).trans h.selection⟩

theorem State.LaneQuiet.attach {tag : Half} (ht : ∀ x ∈ s.entries, x.tag = tag → x.lane ≠ n) (g : GenId) :
    (attach tag g s).LaneQuiet n := by
  have chosen := h.modifyEntry (f := fun e => { e with gen := some g }) (tag := tag) (fun _ => by rfl)
    fun x hx hxt hn => absurd hn (ht x hx hxt)
  refine State.LaneQuiet.forward (chosen.of_same (b := (s.modifyEntry tag (fun e => { e with gen := some g })).modifyGen g
    (fun x => { x with state := .running, users := x.users + 1 })) rfl rfl rfl) fun x hx hxt => ?_
  obtain ⟨y, hy, htag, hlane, -⟩ := mem_of_fixings
    (modifyEntry_fixings (f := fun e => { e with gen := some g }) (fun _ => by rfl) s tag) hx
  exact hlane ▸ ht y hy (htag.trans hxt)

theorem State.LaneQuiet.serveEntry {e : Entry} (ht : ∀ x ∈ s.entries, x.tag = e.tag → x.lane ≠ n) (later : List Entry) :
    (serveEntry e later s).LaneQuiet n := by
  unfold Machine.serveEntry
  split
  · exact h
  · split
    · exact h.attach ht 0
    · split
      · exact h.attach ht 1
      · split
        · exact h
        · split
          · exact h.of_same rfl rfl rfl
          · exact h

end

theorem serveAll_laneQuiet {n : LaneId} (l : List Entry) : ∀ {s : State}, s.LaneQuiet n →
    (∀ e ∈ l, ∀ x ∈ s.entries, x.tag = e.tag → x.lane ≠ n) → (serveAll l s).LaneQuiet n := by
  induction l with
  | nil => exact fun h _ => h
  | cons e later ih =>
    intro s h ht
    refine ih (h.serveEntry (ht e List.mem_cons_self) later) fun y hy x hx hxt => ?_
    obtain ⟨z, hz, htag, hlane, -⟩ := mem_of_fixings (serveEntry_fixings e later s) hx
    exact hlane ▸ ht y (List.mem_cons_of_mem e hy) z hz (htag.trans hxt)

/-- Those that wait for excitation stand on other lanes, so that a pass leaves a quiet lane quiet. -/
theorem State.LaneQuiet.arbiterPass {s : State} {n : LaneId} (h : s.LaneQuiet n) : (arbiterPass s).LaneQuiet n := by
  unfold Machine.arbiterPass
  split
  · exact h
  · refine serveAll_laneQuiet s.waiting h fun e he x hx ht hn => ?_
    obtain ⟨hmem, hwait⟩ := List.mem_filter.mp he
    rw [eq_of_tag_eq h.nodup hmem hx ht] at hn
    exact (h.fixed e hmem hn).2 (of_decide_eq_true hwait)

/-! ### The fixing itself (R36) -/

theorem foldl_preserves {α : Type} {P : State → Prop} {f : State → α → State} (h : ∀ s a, P s → P (f s a))
    (l : List α) : ∀ {s : State}, P s → P (l.foldl f s) := by
  induction l with
  | nil => exact id
  | cons a l ih => exact fun hs => ih (h _ a hs)

/-- A fold over the lanes brings about what the step of one lane brings about and no other undoes. -/
theorem foldl_establishes {α : Type} {P : State → Prop} {f : State → α → State} {x : α} (hx : ∀ s, P (f s x))
    (h : ∀ s a, P s → P (f s a)) {l : List α} (hl : x ∈ l) : ∀ s : State, P (l.foldl f s) := by
  induction l with
  | nil => cases hl
  | cons a l ih =>
    intro s
    rcases List.mem_cons.mp hl with rfl | hl
    · exact foldl_preserves h l (hx s)
    · exact ih hl _

/-- The entries that meet a condition, fixed (R36). -/
def State.fixedWhere (s : State) (p : Entry → Bool) (o : FixedOutcome) : State :=
  { s with entries := s.entries.map (fun e => if e.outcome.isNone && p e then e.fix o else e) }

theorem fixedWhere_tags (s : State) (p : Entry → Bool) (o : FixedOutcome) :
    (s.fixedWhere p o).entries.map Entry.tag = s.entries.map Entry.tag := by
  simp only [State.fixedWhere, List.map_map]
  refine List.map_congr_left fun e _ => ?_
  simp only [Function.comp]
  split <;> rfl

section
variable {s : State} (hnd : (s.entries.map Entry.tag).Nodup) {p : Entry → Bool} {o : FixedOutcome}
include hnd

theorem fixEntries_fixedAt {e : Entry} (he : e ∈ s.entries) (ho : e.outcome = none) (hp : p e = true) :
    (fixEntries p o s).FixedAt s.reports.nextId e.tag o := by
  have fixed : (s.fixedWhere p o).FixedAt s.reports.nextId e.tag o := by
    refine ⟨(fixedWhere_tags s p o).symm ▸ hnd, le_rfl, fun x hx ht => ?_, Or.inl ⟨e.fix o, ?_, rfl⟩⟩
    · obtain ⟨y, hy, rfl⟩ := List.mem_map.mp hx
      have tag : y.tag = e.tag := by
        split at ht <;> exact ht
      obtain rfl := eq_of_tag_eq hnd he hy tag
      simp [ho, hp, Entry.fix]
    · exact List.mem_map.mpr ⟨e, he, if_pos (by simp [ho, hp])⟩
  have heads := fixed.of_kept (advanceHeads_fixings _) (advanceHeads_reports _)
  refine foldl_preserves (P := (State.FixedAt · s.reports.nextId e.tag o)) (f := fun a t => retireFixed t a)
    (fun _ t h => h.retireFixed t) _ ?_
  exact foldl_preserves (P := (State.FixedAt · s.reports.nextId e.tag o)) (f := fun a t => releaseGen t a)
    (fun a t h => h.of_kept (releaseGen_fixings t a) (releaseGen_reports t a)) _ heads

theorem fixEntries_laneQuiet {n : LaneId} (hp : ∀ e ∈ s.entries, e.lane = n → e.outcome = none → p e = true)
    (hjudging : ∀ e ∈ s.entries, e.outcome ≠ none → e.state ≠ .waitExc)
    (hopen : (s.lane n).openAttempt = none) (hsel : (s.lane n).selection = none) : (fixEntries p o s).LaneQuiet n := by
  have quiet : (s.fixedWhere p o).LaneQuiet n := by
    refine ⟨(fixedWhere_tags s p o).symm ▸ hnd, fun x hx hlane => ?_, hopen, hsel⟩
    obtain ⟨y, hy, rfl⟩ := List.mem_map.mp hx
    split at hlane
    · rename_i hfix
      rw [if_pos hfix]
      exact ⟨by simp [Entry.fix], by simp [Entry.fix]⟩
    · rename_i hfix
      rw [if_neg hfix]
      have some : y.outcome ≠ none := fun hnone => hfix (by simp [hnone, hp y hy hlane hnone])
      exact ⟨some, hjudging y hy some⟩
  have heads := foldl_preserves (P := (State.LaneQuiet · n)) (f := fun a m => advanceHead m a)
    (fun _ m h => h.advanceHead m) allLanes quiet
  refine foldl_preserves (P := (State.LaneQuiet · n)) (f := fun a t => retireFixed t a)
    (fun _ t h => h.retireFixed t) _ ?_
  exact foldl_preserves (P := (State.LaneQuiet · n)) (f := fun a t => releaseGen t a)
    (fun _ t h => h.releaseGen t) _ heads

end

/-! ### Lanes that are lost or reset (R41, R42, R64) -/

/-- The reductions of the lost lanes abandoned (R64). -/
def State.abandoned (s : State) (lost : LaneId → Bool) : State :=
  allLanes.foldl (fun s n => if lost n then s.setReduction n none else s) s

theorem abandoned_keeps {β : Type} (g : State → β) (hg : ∀ s n, g (s.setReduction n none) = g s) (s : State)
    (lost : LaneId → Bool) : g (s.abandoned lost) = g s :=
  foldl_keeps g _ (fun a n => by
    split
    · exact hg a n
    · rfl) _ s

theorem mem_allLanes (n : LaneId) : n ∈ allLanes := by
  fin_cases n <;> simp [allLanes]

theorem abandoned_reductions (s : State) {lost : LaneId → Bool} {n : LaneId} (h : lost n = true) :
    (s.abandoned lost).reductions.get n = none := by
  refine foldl_establishes (P := fun a => a.reductions.get n = none) (x := n) (fun a => ?_) (fun a m ha => ?_)
    (mem_allLanes n) s
  · rw [if_pos h]
    exact PerLane.get_set_self _ n none
  · split
    · by_cases hm : m = n
      · subst hm
        exact PerLane.get_set_self _ m none
      · exact (PerLane.get_set_of_ne a.reductions (fun k => hm k.symm) none).trans ha
    · exact ha

/-- What a loss brings to a lane: each of its entries fixed, its port and its reduction at rest. -/
structure State.LaneLost (s : State) (before : State) (n : LaneId) (o : FixedOutcome) : Prop where
  fixes : ∀ e ∈ before.entries, e.lane = n → e.outcome = none → s.FixedAt before.reports.nextId e.tag o
  quiet : s.LaneQuiet n
  reduction : s.reductions.get n = none

theorem loseLanes_laneLost {s : State} (hnd : (s.entries.map Entry.tag).Nodup)
    (hjudging : ∀ e ∈ s.entries, e.outcome ≠ none → e.state ≠ .waitExc) {lost : LaneId → Bool} {n : LaneId}
    (hlost : lost n = true) (hopen : (s.lane n).openAttempt = none) (hsel : (s.lane n).selection = none)
    (o : FixedOutcome) : (loseLanes lost o s).LaneLost s n o := by
  have entries : (s.abandoned lost).entries = s.entries := abandoned_keeps State.entries (fun _ _ => rfl) s lost
  have reports : (s.abandoned lost).reports = s.reports := abandoned_keeps State.reports (fun _ _ => rfl) s lost
  have lane : (s.abandoned lost).lane n = s.lane n := abandoned_keeps (State.lane · n) (fun _ _ => rfl) s lost
  refine ⟨fun e he hlane ho => ?_, ?_, ?_⟩
  · exact reports ▸ fixEntries_fixedAt (s := s.abandoned lost) (entries ▸ hnd) (entries ▸ he) ho (by simp [hlane, hlost])
  · exact fixEntries_laneQuiet (s := s.abandoned lost) (entries ▸ hnd) (fun e _ hlane _ => by simp [hlane, hlost])
      (entries ▸ hjudging) (by rw [lane, hopen]) (by rw [lane, hsel])
  · exact (congrArg (PerLane.get · n) (fixEntries_reductions _ o (s.abandoned lost))).trans (abandoned_reductions s hlost)

/-! ### The end of the event -/

theorem State.FixedAt.ends {a : State} {base : Nat} {tag : Half} {o : FixedOutcome} (h : a.FixedAt base tag o)
    (u : State) : (conclude (arbiterAfter u a)).FixedAt base tag o :=
  (h.of_kept (arbiterAfter_fixings u a) (arbiterAfter_reports u a)).of_same
    (fixings_of_entries (conclude_entries _)) (conclude_upstreamOnly _).2.1

theorem State.LaneQuiet.ends {a : State} {n : LaneId} (h : a.LaneQuiet n) (u : State) :
    (conclude (arbiterAfter u a)).LaneQuiet n := by
  have passed : (arbiterAfter u a).LaneQuiet n := by
    unfold arbiterAfter
    split
    · exact h.arbiterPass
    · exact h
  have lane : (conclude (arbiterAfter u a)).lane n = (arbiterAfter u a).lane n :=
    congrArg (PerLane.get · n) (conclude_lanes _)
  exact passed.of_same (conclude_entries _) (congrArg Lane.openAttempt lane) (congrArg Lane.selection lane)

theorem State.LaneLost.ends {a before : State} {n : LaneId} {o : FixedOutcome} (h : a.LaneLost before n o) (u : State) :
    (conclude (arbiterAfter u a)).LaneLost before n o :=
  ⟨fun e he hl ho => (h.fixes e he hl ho).ends u, h.quiet.ends u, by simpa using h.reduction⟩

theorem State.LaneLost.of_same {a b before : State} {n : LaneId} {o : FixedOutcome} (h : a.LaneLost before n o)
    (he : b.entries = a.entries) (hr : b.reports = a.reports) (hl : b.lanes = a.lanes)
    (hred : b.reductions = a.reductions) : b.LaneLost before n o :=
  ⟨fun e hm hn ho => (h.fixes e hm hn ho).of_kept (fixings_of_entries he) hr,
    h.quiet.of_same he (by rw [State.lane, hl]; rfl) (by rw [State.lane, hl]; rfl), hred ▸ h.reduction⟩

/-! ### The statement -/

theorem nodup_of_excitationOk {s : State} (h : s.excitationOk = true) : (s.entries.map Entry.tag).Nodup := by
  simp only [State.excitationOk, Bool.and_eq_true, decide_eq_true_eq] at h
  exact h.1.1.1

theorem fixed_not_waiting {s : State} (h : s.excitationOk = true) :
    ∀ e ∈ s.entries, e.outcome ≠ none → e.state ≠ .waitExc := by
  intro e he ho
  obtain ⟨o, ho⟩ := Option.ne_none_iff_exists'.mp ho
  simp [(judging_of_outcome h he ho).1]

theorem takeArbitrated_ends {s t : State} (h : s.resetLow = false) {dt : Nat} {f : State → State}
    (ht : takeArbitrated dt f s = .next t) : t = conclude (arbiterAfter (elapse dt s) (f (elapse dt s))) := by
  simpa [takeArbitrated, h] using ht.symm

/-- A lane whose bit of LANE_ENABLE is cleared is disabled (R46). -/
theorem switchLanes_disabled {before after : BitVec 4} {n : LaneId} (hb : before.getLsbD n.val = true)
    (ha : after.getLsbD n.val = false) (s : State) : ((switchLanes before after s).lane n).openAttempt = none
      ∧ ((switchLanes before after s).lane n).selection = none := by
  let quiet (a : State) : Prop := (a.lane n).openAttempt = none ∧ (a.lane n).selection = none
  let step (a : State) (m : LaneId) : State :=
    if before.getLsbD m.val && !after.getLsbD m.val then a.modifyLane m Lane.disable
    else if !before.getLsbD m.val && after.getLsbD m.val then a.modifyLane m Lane.enable
    else a
  have disables : ∀ a, quiet (step a n) := by
    intro a
    have lane : (step a n).lane n = (a.lane n).disable :=
      (congrArg (State.lane · n) (if_pos (by rw [hb, ha]; rfl))).trans (PerLane.get_set_self _ n _)
    simp only [quiet, lane]
    exact ⟨rfl, rfl⟩
  have others : ∀ a m, quiet a → quiet (step a m) := by
    intro a m h
    by_cases hm : m = n
    · exact hm ▸ disables a
    · have other : ∀ f, (a.modifyLane m f).lane n = a.lane n := fun f =>
        PerLane.get_set_of_ne a.lanes (fun k => hm k.symm) _
      have lane : (step a m).lane n = a.lane n := by
        simp only [step]
        split
        · exact other _
        · split
          · exact other _
          · rfl
      simpa only [quiet, lane] using h
  exact foldl_establishes disables others (mem_allLanes n) s

theorem switchLanes_keeps {β : Type} (g : State → β) (hg : ∀ s n f, g (s.modifyLane n f) = g s) (before after : BitVec 4)
    (s : State) : g (switchLanes before after s) = g s :=
  foldl_keeps g _ (fun a n => by
    split
    · exact hg a n _
    · split
      · exact hg a n _
      · rfl) _ s

section
variable {u : State} (hnd : (u.entries.map Entry.tag).Nodup)
  (hjudging : ∀ e ∈ u.entries, e.outcome ≠ none → e.state ≠ .waitExc) {n : LaneId}
include hnd hjudging

theorem failLane_laneLost (hup : (u.lane n).state = .up) (hsilent : (u.lane n).rate.threshold ≤ (u.lane n).silence) :
    (failLane n u).LaneLost u n .laneLost := by
  have silent : (u.lane n).silent = true := by simp [Lane.silent, hup, hsilent]
  have lane : (u.modifyLane n Lane.fail).lane n = (u.lane n).fail := PerLane.get_set_self _ n _
  have lost := loseLanes_laneLost (s := u.modifyLane n Lane.fail) hnd hjudging (lost := fun m => decide (m = n))
    (decide_eq_true rfl) (by rw [lane]; rfl) (by rw [lane]; rfl) .laneLost
  rw [failLane, if_pos silent, postEvent_eq]
  exact State.LaneLost.of_same (before := u) ⟨lost.fixes, lost.quiet, lost.reduction⟩ rfl rfl rfl rfl

theorem resetLane_laneLost : (resetLane n u).LaneLost u n .laneReset := by
  have lane : (u.modifyLane n (fun l => l.resetTo (u.link.laneEnable.getLsbD n.val))).lane n
      = (u.lane n).resetTo (u.link.laneEnable.getLsbD n.val) := PerLane.get_set_self _ n _
  have lost := loseLanes_laneLost (s := u.modifyLane n (fun l => l.resetTo (u.link.laneEnable.getLsbD n.val))) hnd
    hjudging (lost := fun m => decide (m = n)) (decide_eq_true rfl) (by rw [lane]; rfl) (by rw [lane]; rfl) .laneReset
  exact ⟨lost.fixes, lost.quiet, lost.reduction⟩

theorem writeLaneEnable_laneLost {value : Word} (hup : (u.lane n).state = .up)
    (hbefore : u.link.laneEnable.getLsbD n.val = true) (hafter : (clampMask value).getLsbD n.val = false) :
    (writeLaneEnable value u).LaneLost u n .laneLost := by
  let a := switchLanes u.link.laneEnable (clampMask value) u
  have entries : a.entries = u.entries := switchLanes_keeps State.entries (fun _ _ _ => rfl) _ _ u
  have reports : a.reports = u.reports := switchLanes_keeps State.reports (fun _ _ _ => rfl) _ _ u
  have off := switchLanes_disabled hbefore hafter u
  have lost := loseLanes_laneLost (s := { a with link := { a.link with laneEnable := clampMask value } })
    (entries ▸ hnd) (entries ▸ hjudging) (lost := fun n => u.link.laneEnable.getLsbD n.val
      && !(clampMask value).getLsbD n.val && decide ((u.lane n).state = .up)) (n := n)
    (by rw [hbefore, hafter, hup]; rfl) off.1 off.2 .laneLost
  exact ⟨fun e he => reports ▸ lost.fixes e (entries ▸ he), lost.quiet, lost.reduction⟩

end

/-- After an XOUT the entries of its slot that were QUEUED or in WAIT_EXC are fixed as SKIP (R38). -/
theorem xoutSlot_fixedAt {u : State} (hnd : (u.entries.map Entry.tag).Nodup) {e : Entry} (he : e ∈ u.entries)
    (ho : e.outcome = none) {slot : Nat} (hslot : e.slot = slot) (hstate : e.state = .queued ∨ e.state = .waitExc) :
    (xoutSlot slot u).FixedAt u.reports.nextId e.tag .skip := by
  let mark (x : Entry) : Entry := if x.slot = slot ∧ x.state = .forwarded then { x with xoutMark := true } else x
  have tags : (u.entries.map mark).map Entry.tag = u.entries.map Entry.tag := by
    rw [List.map_map]
    refine List.map_congr_left fun x _ => ?_
    simp only [Function.comp, mark]
    split <;> rfl
  have unmarked : mark e = e := if_neg fun h => by rcases hstate with hs | hs <;> rw [hs] at h <;> cases h.2
  have mem : e ∈ u.entries.map mark := List.mem_map.mpr ⟨e, he, unmarked⟩
  refine fixEntries_fixedAt (s := { u with
    board := { u.board with slots := u.board.slots.put slotInitial slot .xout }
    entries := u.entries.map mark }) (tags.symm ▸ hnd) mem ho ?_
  simpa [hslot] using hstate

/-- Settles O23: every entry of the event is fixed at once, and neither a step of the fixing nor the end of the event undoes
a fixed outcome or stirs a lost lane. -/
theorem outcomesAreFixed : Obligations.OutcomesAreFixed := by
  unfold Obligations.OutcomesAreFixed
  intro Fixed
  have told {s t : State} {e : Entry} {o : FixedOutcome} (h : t.FixedAt s.reports.nextId e.tag o) :
      Fixed e o o.verdict o.cause s t :=
    h.settled.imp (fun ⟨x, hx, ht⟩ => ⟨x, hx, ht, h.only x hx ht⟩) id
  refine ⟨?_, ?_⟩
  · intro dt seq slot s t hs hslot hexc hexec e he hslotOf hstate
    let u := elapse dt s
    have hnd : (u.entries.map Entry.tag).Nodup := by simpa [u] using nodup_of_excitationOk hexc
    have unfixed : e.outcome = none := by
      by_contra ho
      obtain ⟨o, ho⟩ := Option.ne_none_iff_exists'.mp ho
      simp [(judging_of_outcome hexc he ho).1] at hstate
    have fixes := (xoutSlot_fixedAt hnd (e := e) (by simpa [u] using he) unfixed hslotOf hstate).of_kept
      (b := replyOk seq [] (xoutSlot slot.toNat u)) rfl rfl
    have ends := fixes.ends u
    rw [takeArbitrated_ends hs.1 hexec, takeFrame_taken (by simpa using hs.2.1) (by simpa using hs.2.2),
      if_neg (by omega)]
    exact ⟨told (elapse_nextId dt s ▸ ends), ends.only⟩
  · intro c n o cause s t hexc hevent hexec
    have hnd (dt : Nat) : ((elapse dt s).entries.map Entry.tag).Nodup := by simpa using nodup_of_excitationOk hexc
    have hjudging (dt : Nat) : ∀ e ∈ (elapse dt s).entries, e.outcome ≠ none → e.state ≠ .waitExc := by
      simpa using fixed_not_waiting hexc
    have lost : ∃ dt, t.LaneLost (elapse dt s) n o ∧ o.verdict = .void ∧ o.cause = some cause := by
      rcases hevent with ⟨dt, rfl, hlow, hup, hsilent, rfl, rfl⟩ | ⟨dt, seq, value, rfl, hs, hup, hbefore, hafter, rfl, rfl⟩
        | ⟨dt, seq, lane, rfl, hs, hlane, rfl, rfl⟩
      · refine ⟨dt, ?_, rfl, rfl⟩
        rw [takeArbitrated_ends hlow hexec]
        exact (failLane_laneLost (hnd dt) (hjudging dt) hup hsilent).ends _
      · refine ⟨dt, ?_, rfl, rfl⟩
        have enabled : (elapse dt s).link.laneEnable.getLsbD n.val = true := by rw [elapse_laneEnable]; exact hbefore
        rw [takeArbitrated_ends hs.1 hexec, takeSet, takeFrame_taken (by simpa using hs.2.1) (by simpa using hs.2.2)]
        exact ((writeLaneEnable_laneLost (hnd dt) (hjudging dt) (by simpa using hup) enabled hafter).of_same
          (b := replyOk seq _ (writeLaneEnable value (elapse dt s))) rfl rfl rfl rfl).ends _
      · refine ⟨dt, ?_, rfl, rfl⟩
        rw [takeArbitrated_ends hs.1 hexec, takeFrame_taken (by simpa using hs.2.1) (by simpa using hs.2.2)]
        simp only [laneOf_eq_some.mpr hlane.symm]
        exact ((resetLane_laneLost (hnd dt) (hjudging dt)).of_same
          (b := replyOk seq [] (resetLane n (elapse dt s))) rfl rfl rfl rfl).ends _
    obtain ⟨dt, lost, hverdict, hcause⟩ := lost
    refine ⟨fun e he hlane ho => ?_, fun e he hlane => (lost.quiet.fixed e he hlane).1, lost.quiet.openAttempt,
      lost.quiet.selection, lost.reduction⟩
    have fixed := told (s := s) (elapse_nextId dt s ▸ lost.fixes e ((elapse_entries dt s).symm ▸ he) hlane ho)
    rwa [hverdict, hcause] at fixed

end Sys2Proof.Machine
end

section
/-! SUPPORT. The capacities of the queues and the ranges of the counters and settings (R45, R65, R101, R118, R123, R146,
R153, R165, R168, R176), block by block, and the operations that keep them: whatever joins a queue has found a place
in it. -/

namespace Sys2Proof.Machine

/-! ### The bounds, block by block -/

/-- The lock timer and the fractions of the timebase are in range (R146). -/
structure Timebase.Bounded (t : Timebase) : Prop where
  lockTimer : t.lockTimer ≤ 5000
  microFraction : t.microFraction < 100
  secondFraction : t.secondFraction < 1000000

/-- The Deferred List is within its capacity, and the counts and the age are among their settings (R118, R123, R168). -/
structure Signatures.Bounded (x : Signatures) : Prop where
  deferred : x.deferred.length ≤ 64
  inForceK : x.inForceK ∈ [1, 3, 5, 7]
  nextK : x.nextK ∈ [1, 3, 5, 7]
  deferAge : 1 ≤ x.deferAge ∧ x.deferAge ≤ 65535

/-- The reply list is within its capacity and the link error count in range (R164, R165). -/
structure LinkPort.Bounded (x : LinkPort) : Prop where
  replies : x.replies.length ≤ 64
  linkErrors : x.linkErrors ≤ 65535

/-- Every queue is within its capacity, every counter and setting in its range. -/
structure State.Bounded (s : State) : Prop where
  reports : s.reports.queue.length ≤ 32
  groups : s.groups.queue.length ≤ 16
  sigs : s.sigs.Bounded
  events : s.events.queue.length ≤ 64
  link : s.link.Bounded
  raw : s.raw.length ≤ 2
  lanes : ∀ n, (s.lanes.get n).inRange = true
  tb : s.tb.Bounded

/-- The bounds are those of the two invariants. -/
theorem State.bounded_iff (s : State) : s.Bounded ↔ s.queuesOk = true ∧ s.rangesOk = true := by
  have all : (∀ n, (s.lanes.get n).inRange = true) ↔ allLanes.all (fun n => (s.lane n).inRange) = true := by
    simp [allLanes, Fin.forall_fin_succ, State.lane]
  constructor
  · rintro ⟨hr, hg, ⟨hd, hk, hn, ha⟩, he, ⟨hl, hx⟩, hw, hlanes, ⟨ht, hm, hs⟩⟩
    simp only [State.queuesOk, State.rangesOk, Bool.and_eq_true, decide_eq_true_eq, List.contains_iff_mem]
    exact ⟨⟨⟨⟨⟨⟨hr, hg⟩, hd⟩, he⟩, hl⟩, hw⟩, ⟨⟨⟨⟨⟨⟨⟨⟨all.mp hlanes, ht⟩, hm⟩, hs⟩, hk⟩, hn⟩, ha.1⟩, ha.2⟩, hx⟩⟩
  · simp only [State.queuesOk, State.rangesOk, Bool.and_eq_true, decide_eq_true_eq, List.contains_iff_mem]
    rintro ⟨⟨⟨⟨⟨⟨hr, hg⟩, hd⟩, he⟩, hl⟩, hw⟩, ⟨⟨⟨⟨⟨⟨⟨⟨hlanes, ht⟩, hm⟩, hs⟩, hk⟩, hn⟩, ha⟩, ha'⟩, hx⟩⟩
    exact ⟨hr, hg, ⟨hd, hk, hn, ha, ha'⟩, he, ⟨hl, hx⟩, hw, all.mpr hlanes, ⟨ht, hm, hs⟩⟩

/-- What the bounds read of a state. -/
def State.measured (s : State) : Nat × Nat × Signatures × Nat × LinkPort × Nat × PerLane Lane × Timebase :=
  (s.reports.queue.length, s.groups.queue.length, s.sigs, s.events.queue.length, s.link, s.raw.length, s.lanes, s.tb)

/-- The bounds pass to a state in which nothing that they read has changed. -/
theorem State.Bounded.of_measured {a b : State} (h : a.Bounded) (e : b.measured = a.measured) : b.Bounded := by
  simp only [State.measured, Prod.mk.injEq] at e
  obtain ⟨reports, groups, sigs, events, link, raw, lanes, tb⟩ := e
  exact ⟨reports ▸ h.reports, groups ▸ h.groups, sigs ▸ h.sigs, events ▸ h.events, link ▸ h.link, raw ▸ h.raw,
    lanes ▸ h.lanes, tb ▸ h.tb⟩

theorem Lane.inRange_iff (l : Lane) : l.inRange = true ↔ l.runCount ≤ 6 ∧ l.silence ≤ 16384 := by
  simp only [Lane.inRange, Bool.and_eq_true, decide_eq_true_eq]
  rfl

section
variable {s : State} (h : s.Bounded)
include h

/-! ### Plain updates, block by block -/

theorem State.Bounded.withReports {x : ReportUnit} (hx : x.queue.length ≤ 32) :
    ({ s with reports := x } : State).Bounded :=
  ⟨hx, h.groups, h.sigs, h.events, h.link, h.raw, h.lanes, h.tb⟩

theorem State.Bounded.withGroups {x : ShortGroups} (hx : x.queue.length ≤ 16) :
    ({ s with groups := x } : State).Bounded :=
  ⟨h.reports, hx, h.sigs, h.events, h.link, h.raw, h.lanes, h.tb⟩

theorem State.Bounded.withSigs {x : Signatures} (hx : x.Bounded) : ({ s with sigs := x } : State).Bounded :=
  ⟨h.reports, h.groups, hx, h.events, h.link, h.raw, h.lanes, h.tb⟩

theorem State.Bounded.withEvents {x : EventUnit} (hx : x.queue.length ≤ 64) :
    ({ s with events := x } : State).Bounded :=
  ⟨h.reports, h.groups, h.sigs, hx, h.link, h.raw, h.lanes, h.tb⟩

theorem State.Bounded.withLink {x : LinkPort} (hx : x.Bounded) : ({ s with link := x } : State).Bounded :=
  ⟨h.reports, h.groups, h.sigs, h.events, hx, h.raw, h.lanes, h.tb⟩

theorem State.Bounded.withRaw {x : List RawCopy} (hx : x.length ≤ 2) : ({ s with raw := x } : State).Bounded :=
  ⟨h.reports, h.groups, h.sigs, h.events, h.link, hx, h.lanes, h.tb⟩

theorem State.Bounded.withLanes {x : PerLane Lane} (hx : ∀ n, (x.get n).inRange = true) :
    ({ s with lanes := x } : State).Bounded :=
  ⟨h.reports, h.groups, h.sigs, h.events, h.link, h.raw, hx, h.tb⟩

theorem State.Bounded.withTb {x : Timebase} (hx : x.Bounded) : ({ s with tb := x } : State).Bounded :=
  ⟨h.reports, h.groups, h.sigs, h.events, h.link, h.raw, h.lanes, hx⟩

theorem State.Bounded.withTables {x : TableStore} : ({ s with tables := x } : State).Bounded := h.of_measured rfl

theorem State.Bounded.withEntries {x : List Entry} : ({ s with entries := x } : State).Bounded := h.of_measured rfl

theorem State.Bounded.withGens {x : PerGen Generator} : ({ s with gens := x } : State).Bounded := h.of_measured rfl

theorem State.Bounded.setReduction (n : LaneId) (r : Option Reduction) : (s.setReduction n r).Bounded :=
  h.of_measured rfl

theorem State.Bounded.modifyEntry (tag : Half) (f : Entry → Entry) : (s.modifyEntry tag f).Bounded := h.withEntries

theorem State.Bounded.modifyLane (n : LaneId) {f : Lane → Lane} (hf : ∀ l, l.inRange = true → (f l).inRange = true) :
    (s.modifyLane n f).Bounded := by
  refine h.withLanes fun m => ?_
  by_cases hm : m = n
  · subst hm
    exact (PerLane.get_set_self s.lanes m _).symm ▸ hf _ (h.lanes m)
  · exact (PerLane.get_set_of_ne s.lanes hm _).symm ▸ h.lanes m

theorem State.Bounded.mapLanes {f : Lane → Lane} (hf : ∀ l, l.inRange = true → (f l).inRange = true) :
    ({ s with lanes := s.lanes.map f } : State).Bounded :=
  h.withLanes fun n => (PerLane.get_map f s.lanes n).symm ▸ hf _ (h.lanes n)

/-! ### Events, clocks and the end of an event -/

theorem State.Bounded.postEvent (code : EventCode) (p : Nat) : (postEvent code p s).Bounded := by
  rw [postEvent_eq]
  refine h.withEvents ?_
  unfold EventUnit.posted
  split
  · rename_i room
    rw [List.length_append]
    exact room
  · exact h.events

theorem State.Bounded.upstreamOnly {b : State} (u : UpstreamOnly s b) : b.Bounded := by
  obtain ⟨⟨-, same⟩, ⟨hq, -⟩, link, he, -⟩ := u
  have sameQueue := congrArg List.length hq
  simp only [List.length_map] at sameQueue
  have sameReplies : s.link.replies = b.link.replies := (congrArg LinkPort.replies (Eq.symm link)).symm
  have sameErrors : s.link.linkErrors = b.link.linkErrors := (congrArg LinkPort.linkErrors (Eq.symm link)).symm
  have groups : s.groups = b.groups := same .groups (by decide)
  have sigs : s.sigs = b.sigs := same .sigs (by decide)
  have raw : s.raw = b.raw := same .raw (by decide)
  have lanes : s.lanes = b.lanes := same .lanes (by decide)
  have tb : s.tb = b.tb := same .tb (by decide)
  exact ⟨sameQueue ▸ h.reports, groups ▸ h.groups, sigs ▸ h.sigs, he ▸ h.events,
    ⟨sameReplies ▸ h.link.replies, sameErrors ▸ h.link.linkErrors⟩, raw ▸ h.raw, lanes ▸ h.lanes, tb ▸ h.tb⟩

theorem State.Bounded.conclude : (conclude s).Bounded := h.upstreamOnly (conclude_upstreamOnly s)

theorem State.Bounded.runClocks (n : Nat) : (runClocks n s).Bounded := by
  have lanes : ∀ m, ((s.lanes.map (Lane.elapse n)).get m).inRange = true := by
    intro m
    obtain ⟨hcount, hsilence⟩ := (Lane.inRange_iff _).mp (h.lanes m)
    rw [PerLane.get_map, Lane.inRange_iff, Lane.elapse_runCount]
    refine ⟨hcount, ?_⟩
    unfold Lane.elapse
    split
    · exact Nat.min_le_left _ _
    · exact hsilence
  have tb : (s.tb.elapse n).Bounded := by
    refine ⟨?_, Nat.mod_lt _ (by decide), Nat.mod_lt _ (by decide)⟩
    simp only [Timebase.elapse]
    split
    · exact Nat.min_le_left _ _
    · exact h.tb.lockTimer
  exact ⟨h.reports, h.groups, h.sigs, h.events, h.link, h.raw, lanes, tb⟩

omit h in
theorem elapseFrom_bounded (k n : Nat) {s : State} (h : s.Bounded) : (elapseFrom k n s).Bounded := by
  induction k generalizing n s with
  | zero => exact h.runClocks n
  | succ k ih =>
    unfold elapseFrom
    split
    · exact h.runClocks n
    · exact ih _ ((h.runClocks _).postEvent _ _).conclude

theorem State.Bounded.elapse (n : Nat) : (elapse n s).Bounded := elapseFrom_bounded _ n h

/-! ### Forwarding, the arbiter and the source -/

theorem State.Bounded.forward (tag : Half) : (forward tag s).Bounded := by
  unfold Machine.forward
  split
  · exact h
  · exact (h.modifyLane _ (f := fun l => l.send _) fun _ hl => hl).modifyEntry _ _

theorem State.Bounded.advanceHead (n : LaneId) : (advanceHead n s).Bounded := by
  unfold Machine.advanceHead
  split
  · exact h
  · split
    · split
      · exact h.modifyEntry _ _
      · exact h.forward _
    · exact h

theorem State.Bounded.advanceHeads : (advanceHeads s).Bounded :=
  foldl_preserves (P := State.Bounded) (fun _ n h => h.advanceHead n) _ h

theorem State.Bounded.attach (tag : Half) (g : GenId) : (attach tag g s).Bounded :=
  (h.modifyEntry tag _).withGens.forward tag

theorem State.Bounded.serveEntry (e : Entry) (later : List Entry) : (serveEntry e later s).Bounded := by
  unfold Machine.serveEntry
  split
  · exact h
  · split
    · exact h.attach _ _
    · split
      · exact h.attach _ _
      · split
        · exact h
        · split
          · exact h.withGens
          · exact h

omit h in
theorem serveAll_bounded (l : List Entry) {s : State} (h : s.Bounded) : (serveAll l s).Bounded := by
  induction l generalizing s with
  | nil => exact h
  | cons e later ih => exact ih (h.serveEntry e later)

theorem State.Bounded.arbiterPass : (arbiterPass s).Bounded := by
  unfold Machine.arbiterPass
  split
  · exact h
  · exact serveAll_bounded _ h

theorem State.Bounded.arbiterAfter (before : State) : (arbiterAfter before s).Bounded := by
  unfold Machine.arbiterAfter
  split
  · exact h.arbiterPass
  · exact h

omit h in
theorem Lane.sourceChanged_inRange (l : Lane) (h : l.inRange = true) : l.sourceChanged.inRange = true := by
  have hl := (Lane.inRange_iff l).mp h
  unfold Lane.sourceChanged
  split
  · exact (Lane.inRange_iff _).mpr ⟨Nat.zero_le _, hl.2⟩
  · exact h

theorem State.Bounded.discardTraining : (discardTraining s).Bounded := h.mapLanes Lane.sourceChanged_inRange

theorem State.Bounded.restartSettling : (restartSettling s).Bounded := h.withGens

theorem State.Bounded.changeSource (p : Source) : (changeSource p s).Bounded := by
  have switched : ({ s with tb := { s.tb with
      source := p, pendingSwitch := none, loop := if p = .internal then .off else s.tb.loop } } : State).Bounded :=
    h.withTb ⟨h.tb.lockTimer, h.tb.microFraction, h.tb.secondFraction⟩
  exact (switched.postEvent _ _).discardTraining.restartSettling

theorem State.Bounded.checkSwitch : (checkSwitch s).Bounded := by
  unfold Machine.checkSwitch
  split
  · exact h
  · split
    · exact h.changeSource _
    · exact h

theorem State.Bounded.abandonSwitch (p : Nat) : (abandonSwitch p s).Bounded := by
  have abandoned : ({ s with
      tb := { s.tb with pendingSwitch := none, loop := .off, tbFail := true } } : State).Bounded :=
    h.withTb ⟨h.tb.lockTimer, h.tb.microFraction, h.tb.secondFraction⟩
  exact abandoned.postEvent _ _

theorem State.Bounded.releaseGen (tag : Half) : (releaseGen tag s).Bounded := by
  have released : ∀ g, ((s.modifyEntry tag (fun x => { x with gen := none })).modifyGen g Generator.release).Bounded :=
    fun g => (h.modifyEntry tag _).withGens
  simp only [Machine.releaseGen]
  split
  · exact h
  · split
    · exact h
    · split
      · exact (released _).checkSwitch
      · exact released _

/-! ### Reports, groups and GROUP answers -/

/-- A report that finds a free place joins the Report Queue (R153, R154). -/
theorem State.Bounded.placeReport (free : s.reportFree = true) (r : Report) (held : Bool) :
    (placeReport r held s).Bounded := by
  have room : s.reports.queue.length < 32 := of_decide_eq_true free
  exact h.withReports (by simpa using room)

theorem State.Bounded.releaseReport (id : Nat) (leader : GroupLeader) : (releaseReport id leader s).Bounded :=
  h.withReports ((List.length_map _).trans_le h.reports)

theorem State.Bounded.raiseNet (slot : Nat) (net : Option Nat) (v : Verdict) : (raiseNet slot net v s).Bounded :=
  h.of_measured (by simp [State.measured])

theorem State.Bounded.setIncomplete (slot : Nat) : (setIncomplete slot s).Bounded := h.withGroups h.groups

omit h in
theorem answerSettled_length (s : State) (l : List ReplyEntry) : (answerSettled s l).length = l.length := by
  induction l with
  | nil => rfl
  | cons r rest ih =>
    unfold answerSettled
    split
    · simp [ih]
    · split <;> simp [ih]

/-- Answers given to waiting frames leave their number (R110 to R112). -/
theorem State.Bounded.withReplies {l : List ReplyEntry} (hl : l.length = s.link.replies.length) :
    ({ s with link := { s.link with replies := l } } : State).Bounded :=
  h.withLink ⟨hl.trans_le h.link.replies, h.link.linkErrors⟩

theorem State.Bounded.answerGroups : (answerGroups s).Bounded := h.withReplies (answerSettled_length s _)

theorem State.Bounded.answerAllGroups (flag : Nat → Bool) : (answerAllGroups flag s).Bounded :=
  h.withReplies (List.length_map _)

omit h in
theorem takeMergesFrom_bounded {l : List MergeRequest} (hl : l.length ≤ 16) {s : State} (h : s.Bounded) :
    (takeMergesFrom l s).Bounded := by
  induction l generalizing s with
  | nil => exact h.withGroups (Nat.zero_le _)
  | cons r rest ih =>
    have hrest : rest.length ≤ 16 := Nat.le_of_succ_le hl
    unfold takeMergesFrom
    dsimp only
    split
    · exact ih hrest (h.releaseReport _ _)
    · exact h.withGroups hrest

theorem State.Bounded.takeMerges : (takeMerges s).Bounded := by
  unfold Machine.takeMerges
  split
  · exact h
  · exact takeMergesFrom_bounded h.groups h

/-- A request that finds room joins the Merge Queue (R102). -/
theorem State.Bounded.queueMerge (room : s.mergeRoom = true) (r : MergeRequest) : (queueMerge r s).Bounded := by
  have less : s.groups.queue.length < 16 := of_decide_eq_true room
  have joined : ({ s with groups := { s.groups with queue := s.groups.queue ++ [r] } } : State).Bounded :=
    h.withGroups (by simpa using less)
  exact joined.takeMerges.answerGroups

theorem State.Bounded.dropMerge (slot : Nat) : (dropMerge slot s).Bounded := (h.setIncomplete slot).postEvent _ _

theorem State.Bounded.walkStep : (walkStep s).Bounded := by
  unfold Machine.walkStep
  split
  · exact h
  · split
    · exact h
    · exact h.of_measured rfl

theorem State.Bounded.endWalk (w : Walk) : (endWalk w s).Bounded := by
  have ended : ({ joinGroups w s with groups := { s.groups with walk := none } } : State).Bounded :=
    h.of_measured rfl
  exact (ended.releaseReport _ _).takeMerges.answerGroups

theorem State.Bounded.walkFinish : (walkFinish s).Bounded := by
  unfold Machine.walkFinish
  split
  · exact h
  · split
    · exact h.endWalk _
    · exact h

theorem State.Bounded.clearGroups : (clearGroups s).Bounded := by
  simp only [Machine.clearGroups]
  refine foldl_preserves (P := State.Bounded) (fun a r ha => State.Bounded.releaseReport ha r.report .unresolved)
    s.openMerges ?_
  have marked := foldl_preserves (P := State.Bounded) (f := fun a (r : MergeRequest) => Machine.setIncomplete r.slot a)
    (fun a r ha => State.Bounded.setIncomplete ha r.slot) s.openMerges h
  have emptied := marked.withGroups (x := {
    (s.openMerges.foldl (fun a r => Machine.setIncomplete r.slot a) s).groups with
    queue := [], walk := none }) (Nat.zero_le _)
  exact emptied.of_measured rfl

/-! ### Signatures -/

theorem State.Bounded.setScan (x : Scan) : (s.setScan x).Bounded :=
  h.withSigs ⟨h.sigs.deferred, h.sigs.inForceK, h.sigs.nextK, h.sigs.deferAge⟩

theorem State.Bounded.setSignature (net : Nat) (x : NetSignature) : (s.setSignature net x).Bounded :=
  h.withSigs ⟨h.sigs.deferred, h.sigs.inForceK, h.sigs.nextK, h.sigs.deferAge⟩

/-- A Deferred List that is not longer keeps the bounds. -/
theorem State.Bounded.withDeferred {l : List DeferredEntry} (hl : l.length ≤ s.sigs.deferred.length) :
    ({ s with sigs := { s.sigs with deferred := l } } : State).Bounded :=
  h.withSigs ⟨hl.trans h.sigs.deferred, h.sigs.inForceK, h.sigs.nextK, h.sigs.deferAge⟩

theorem State.Bounded.requestScan : (requestScan s).Bounded := by
  unfold Machine.requestScan
  split <;> exact h.setScan _

theorem State.Bounded.endScan : (endScan s).Bounded := by
  unfold Machine.endScan
  split <;> exact h.setScan _

theorem State.Bounded.moveScan (i : Nat) : (moveScan i s).Bounded := by
  unfold Machine.moveScan
  split
  · exact h.setScan _
  · exact h.endScan

theorem State.Bounded.removeDeferred (i : Nat) : (removeDeferred i s).Bounded := by
  have removed := h.withDeferred (List.length_eraseIdx_le s.sigs.deferred i)
  unfold Machine.removeDeferred
  dsimp only
  split
  · split
    · exact removed.setScan _
    · split
      · exact removed.moveScan _
      · exact removed
  · exact removed

theorem State.Bounded.judgeDeferred (free : s.reportFree = true) (i : Nat) (d : DeferredEntry) (ref : Nat) :
    (judgeDeferred i d ref s).Bounded := by
  have placed := h.placeReport free (resolvedReport d (judgeSignature d.value ref d.tolerance) s.now) false
  unfold Machine.judgeDeferred
  dsimp only
  split
  · exact (placed.raiseNet _ _ _).removeDeferred i
  · exact placed.removeDeferred i

theorem State.Bounded.examineEntry : (examineEntry s).Bounded := by
  unfold Machine.examineEntry
  split
  · exact h.endScan
  · split
    · exact h.endScan
    · split
      · split
        · rename_i free
          exact h.judgeDeferred free _ _ _
        · exact h.setScan _
      · exact h.moveScan _

theorem State.Bounded.scanOne : (scanOne s).Bounded := by
  unfold Machine.scanOne
  split
  · exact h.examineEntry
  · exact h

omit h in
theorem runScan_bounded (k : Nat) {s : State} (h : s.Bounded) : (runScan k s).Bounded := by
  induction k generalizing s with
  | zero => exact h
  | succ k ih =>
    unfold runScan
    split
    · exact h
    · exact ih h.examineEntry

theorem State.Bounded.expireDue : (expireDue s).Bounded := by
  simp only [Machine.expireDue]
  refine foldl_preserves (P := State.Bounded)
    (fun a (d : DeferredEntry) ha => State.Bounded.postEvent ha .deferredExpired d.net) _ ?_
  exact h.withDeferred (List.length_map _).le

theorem State.Bounded.placeExpired : (placeExpired s).Bounded := by
  unfold Machine.placeExpired
  split
  · exact h
  · split
    · exact h
    · split
      · rename_i free
        exact (h.placeReport free _ _).removeDeferred _
      · exact h

theorem State.Bounded.placeAllExpired : (placeAllExpired s).Bounded := by
  have repeated : ∀ k, (Nat.repeat Machine.placeExpired k s).Bounded := by
    intro k
    induction k with
    | zero => exact h
    | succ k ih => exact ih.placeExpired
  exact repeated _

theorem State.Bounded.freezeReference (net ref : Nat) : (freezeReference net ref s).Bounded :=
  ((h.setSignature net _).postEvent _ _).requestScan

/-- A value that finds a place in the Deferred List joins it (R123). -/
theorem State.Bounded.deferValue (x : SignatureValue) (notLearned : Bool) : (deferValue x notLearned s).1.Bounded := by
  unfold Machine.deferValue
  split
  · exact h
  · split
    · exact h.postEvent _ _
    · rename_i room
      refine h.withSigs ⟨?_, h.sigs.inForceK, h.sigs.nextK, h.sigs.deferAge⟩
      rw [List.length_append]
      exact Nat.lt_of_not_le room

theorem State.Bounded.takeSignature (x : SignatureValue) : (takeSignature x s).1.Bounded := by
  unfold Machine.takeSignature
  dsimp only
  split
  · exact h
  · split
    · split
      · exact h.freezeReference _ _
      · exact (h.setSignature _ _).deferValue x false
    · exact h.deferValue x true

theorem State.Bounded.clearSignatures : (clearSignatures s).Bounded :=
  h.withSigs ⟨Nat.zero_le _, h.sigs.nextK, h.sigs.nextK, h.sigs.deferAge⟩

/-! ### Outcomes, decisions and the ends of an attempt -/

theorem State.Bounded.removeEntry (tag : Half) : (s.removeEntry tag).Bounded := h.withEntries

theorem State.Bounded.retireFixed (tag : Half) : (retireFixed tag s).Bounded := by
  unfold Machine.retireFixed
  split
  · exact h
  · split
    · exact h
    · split
      · rename_i free
        exact (h.placeReport free _ _).removeEntry tag
      · exact h

theorem State.Bounded.fixEntries (p : Entry → Bool) (o : FixedOutcome) : (fixEntries p o s).Bounded := by
  simp only [Machine.fixEntries]
  refine foldl_preserves (P := State.Bounded) (fun a t ha => State.Bounded.retireFixed ha t) _ ?_
  refine foldl_preserves (P := State.Bounded) (fun a t ha => State.Bounded.releaseGen ha t) _ ?_
  exact h.withEntries.advanceHeads

theorem State.Bounded.closeEntry (e : Entry) : (closeEntry e s).Bounded :=
  ((h.releaseGen e.tag).removeEntry e.tag).advanceHead e.lane

section
variable (free : s.reportFree = true)
include free

theorem State.Bounded.reportShort (e : Entry) (t : Terminal) : (reportShort e t s).Bounded := by
  unfold Machine.reportShort
  dsimp only
  split
  · rename_i room
    exact (((h.placeReport free _ _).raiseNet _ _ _).raiseNet _ _ _).queueMerge
      (by simpa [State.mergeRoom] using room) _
  · exact (((h.placeReport free _ _).raiseNet _ _ _).raiseNet _ _ _).dropMerge _

theorem State.Bounded.reportVerdict (e : Entry) (t : Terminal) : (reportVerdict e t s).Bounded := by
  have raised := ((h.placeReport free (e.report (s.stepOf e) s.now .verdict (some t.verdict) t.cause t.value t.saturated
    false .absent) false).raiseNet e.slot (s.stepOf e).netA t.verdict).raiseNet e.slot (s.stepOf e).netB t.verdict
  unfold Machine.reportVerdict
  dsimp only
  split
  · exact raised
  · exact raised.withTables

theorem State.Bounded.retire (e : Entry) (t : Terminal) : (retire e t s).Bounded := by
  unfold Machine.retire
  split
  · exact (h.reportShort free e t).closeEntry e
  · exact (h.reportVerdict free e t).closeEntry e

theorem State.Bounded.retireSignature (e : Entry) (v : Nat) (sat : Bool) : (retireSignature e v sat s).Bounded := by
  have taken := h.takeSignature (signatureValueOf e (s.stepOf e) v sat)
  have room : (Machine.takeSignature (signatureValueOf e (s.stepOf e) v sat) s).1.reportFree = true := by
    simpa [State.reportFree] using free
  unfold Machine.retireSignature
  dsimp only
  split
  · exact ((taken.placeReport room _ _).raiseNet _ _ _).closeEntry e
  · exact (taken.placeReport room _ _).closeEntry e
  · exact (taken.placeReport room _ _).closeEntry e

/-- A decision that is taken with a place free is carried out within the bounds (R34). -/
theorem State.Bounded.carryOut (e : Entry) (d : Decision) : (carryOut e d s).Bounded := by
  cases d with
  | retry escalate => exact (h.modifyEntry e.tag _).forward e.tag
  | skip => exact h.fixEntries _ _
  | terminal t => exact h.retire free e t
  | signature v sat => exact h.retireSignature free e v sat

theorem State.Bounded.decideEntry (tag : Half) : (decideEntry tag s).Bounded := by
  unfold Machine.decideEntry
  split
  · exact h
  · split
    · split
      · exact h
      · exact h.carryOut free _ _
    · exact h

end

theorem State.Bounded.tryDecide (tag : Half) : (tryDecide tag s).Bounded := by
  unfold Machine.tryDecide
  split
  · rename_i free
    exact h.decideEntry free tag
  · exact h

/-- A raw copy that finds a place joins the buffer (R65). -/
theorem State.Bounded.captureRaw (e : Entry) (z : Offset) (f : BurstFrame) : (captureRaw e z f s).Bounded := by
  unfold Machine.captureRaw
  split
  · split
    · rename_i room
      exact h.withRaw (by rw [List.length_append]; exact room)
    · exact h.postEvent _ _
  · exact h

theorem State.Bounded.startReduction (e : Entry) (st : StepRecord) (f : BurstFrame) :
    (startReduction e st f s).Bounded :=
  (h.setReduction _ _).captureRaw e _ f

theorem State.Bounded.endAttempt (n : LaneId) (tag : Half) (how : AttemptEnd) : (endAttempt n tag how s).Bounded := by
  have ended : ((closeAttempt n s).modifyEntry tag (fun e => { e with state := .judging, deadline := none })).Bounded :=
    (h.modifyLane n (f := fun l => { l with
      lastClosed := match l.openAttempt with
        | some a => some a
        | none => l.lastClosed
      openAttempt := none
      selection := none }) fun _ hl => hl).modifyEntry tag _
  unfold Machine.endAttempt
  dsimp only
  split
  · exact ended
  · split
    · exact ended.fixEntries _ _
    · split
      · exact (ended.modifyEntry _ _).tryDecide tag
      · split
        · exact ended.startReduction _ _ _
        · exact ended

theorem State.Bounded.takeAnswer (n : LaneId) (a : AttemptId) (how : AttemptEnd) : (takeAnswer n a how s).Bounded := by
  unfold Machine.takeAnswer
  split
  · split
    · exact h.endAttempt _ _ _
    · exact h.postEvent _ _
    · exact h.postEvent _ _
  · exact h

theorem State.Bounded.expireAttempt (n : LaneId) : (expireAttempt n s).Bounded := by
  unfold Machine.expireAttempt
  split
  · exact h
  · split
    · exact h
    · split
      · exact h
      · split
        · exact h.endAttempt _ _ _
        · exact h

theorem State.Bounded.completeReduction (n : LaneId) : (completeReduction n s).Bounded := by
  unfold Machine.completeReduction
  split
  · exact h
  · dsimp only
    split
    · exact h.setReduction n none
    · exact ((h.setReduction n none).modifyEntry _ _).tryDecide _

theorem State.Bounded.loseLanes (lost : LaneId → Bool) (o : FixedOutcome) : (loseLanes lost o s).Bounded := by
  have abandoned : (s.abandoned lost).Bounded := by
    refine foldl_preserves (P := State.Bounded) (fun a n ha => ?_) allLanes h
    split
    · exact ha.setReduction n none
    · exact ha
  exact abandoned.fixEntries _ _

/-! ### The granting of a place -/

theorem State.Bounded.offerEntry (tag : Half) : (offerEntry tag s).Bounded := by
  unfold Machine.offerEntry
  split
  · exact h
  · split
    · exact h.retireFixed tag
    · exact h.tryDecide tag

omit h in
theorem offerEntries_bounded (tags : List Half) {s : State} (h : s.Bounded) : (offerEntries tags s).Bounded := by
  induction tags generalizing s with
  | nil => exact h
  | cons tag rest ih =>
    unfold offerEntries
    dsimp only
    split
    · exact h.offerEntry tag
    · exact ih (h.offerEntry tag)

theorem State.Bounded.offerSignature : (offerSignature s).Bounded := by
  unfold Machine.offerSignature
  split
  · exact h.placeExpired
  · split
    · exact runScan_bounded _ (h.setScan _)
    · exact h

theorem State.Bounded.offerSide (side : Side) : (offerSide side s).Bounded := by
  cases side with
  | dispatch => exact offerEntries_bounded _ h
  | signature => exact h.offerSignature

theorem State.Bounded.setTurn (side : Side) : (setTurn side s).Bounded := h.withReports h.reports

theorem State.Bounded.grantPlace : (grantPlace s).Bounded := by
  have first := h.offerSide s.firstSide
  have second := first.offerSide s.firstSide.other
  unfold Machine.grantPlace
  dsimp only
  split
  · exact first.setTurn _
  · split
    · exact second.setTurn _
    · exact second

/-! ### Lane ports -/

omit h in
theorem Lane.countInterval_silence (l : Lane) (m : Nat) : (l.countInterval m).silence = l.silence := by
  unfold Lane.countInterval
  split
  · rfl
  · split
    · rfl
    · dsimp only
      split <;> rfl

omit h in
theorem Lane.trainingMarker_silence (l : Lane) (now : Nat) : (l.trainingMarker now).silence = l.silence := by
  unfold Lane.trainingMarker
  split
  · rfl
  · exact Lane.countInterval_silence _ _

/-- A marker in TRAINING leaves a run of fewer than six intervals, or the sixth locks the rate (R49, R50). -/
theorem State.Bounded.takeMarker (n : LaneId) : (takeMarker n s).Bounded := by
  unfold Machine.takeMarker
  dsimp only
  split
  · exact h
  · split
    · exact (h.modifyLane n (f := fun _ => ((s.lane n).trainingMarker s.tb.ticks).lock) fun _ _ => rfl).postEvent _ _
    · rename_i short
      have silence : ((s.lane n).trainingMarker s.tb.ticks).silence ≤ 16384 :=
        (Lane.trainingMarker_silence _ _).symm ▸ ((Lane.inRange_iff _).mp (h.lanes n)).2
      exact h.modifyLane n fun _ _ => (Lane.inRange_iff _).mpr ⟨Nat.le_of_lt (Nat.lt_of_not_le short), silence⟩
  · exact h.modifyLane n fun l hl => (Lane.inRange_iff _).mpr ⟨((Lane.inRange_iff l).mp hl).1, Nat.zero_le _⟩
  · exact h.modifyLane n fun l hl => (Lane.inRange_iff _).mpr ⟨Nat.zero_le _, ((Lane.inRange_iff l).mp hl).2⟩

theorem State.Bounded.failLane (n : LaneId) : (failLane n s).Bounded := by
  unfold Machine.failLane
  split
  · exact ((h.modifyLane n fun _ _ => rfl).loseLanes _ _).postEvent _ _
  · exact h

theorem State.Bounded.resetLane (n : LaneId) : (resetLane n s).Bounded :=
  (h.modifyLane n (f := fun l => l.resetTo (s.link.laneEnable.getLsbD n.val)) fun _ _ => rfl).loseLanes _ _

theorem State.Bounded.switchLanes (before after : BitVec 4) : (switchLanes before after s).Bounded := by
  refine foldl_preserves (P := State.Bounded) (fun a n ha => ?_) allLanes h
  split
  · exact ha.modifyLane n fun _ _ => rfl
  · split
    · exact ha.modifyLane n fun _ _ => rfl
    · exact ha

theorem State.Bounded.writeLaneEnable (value : Word) : (writeLaneEnable value s).Bounded := by
  have switched := h.switchLanes s.link.laneEnable (clampMask value)
  have masked := switched.withLink (x := { (Machine.switchLanes s.link.laneEnable (clampMask value) s).link with
    laneEnable := clampMask value }) ⟨switched.link.replies, switched.link.linkErrors⟩
  exact masked.loseLanes _ _

theorem State.Bounded.endOrder (n : LaneId) : (endOrder n s).Bounded := h.modifyLane n fun _ hl => hl

/-! ### Generators and timebase -/

theorem State.Bounded.beginSettling (g : GenId) : (beginSettling g s).Bounded := by
  unfold Machine.beginSettling
  split
  · exact h.withGens
  · exact h

theorem State.Bounded.finishRetune (g : GenId) : (finishRetune g s).Bounded := by
  unfold Machine.finishRetune
  split
  · exact h.withGens
  · exact h

theorem State.Bounded.lockLoop : (lockLoop s).Bounded := by
  unfold Machine.lockLoop
  split
  · have locked : ({ s with tb := { s.tb with loop := .locked } } : State).Bounded :=
      h.withTb ⟨h.tb.lockTimer, h.tb.microFraction, h.tb.secondFraction⟩
    exact locked.checkSwitch
  · exact h

theorem State.Bounded.timeoutLock : (timeoutLock s).Bounded := by
  unfold Machine.timeoutLock
  split
  · exact h.abandonSwitch 1
  · exact h

theorem State.Bounded.loseSwitch : (loseSwitch s).Bounded := by
  unfold Machine.loseSwitch
  split
  · exact h.abandonSwitch 0
  · exact h

theorem State.Bounded.failOver : (failOver s).Bounded := by
  unfold Machine.failOver
  split
  · have failed : ({ s with tb := { s.tb with
        source := .internal, loop := .off, pendingSwitch := none, tbFail := true } } : State).Bounded :=
      h.withTb ⟨h.tb.lockTimer, h.tb.microFraction, h.tb.secondFraction⟩
    exact (failed.postEvent _ _).withEntries.discardTraining.restartSettling
  · exact h

theorem State.Bounded.requestSwitch (target : Source) : (requestSwitch target s).Bounded := by
  unfold Machine.requestSwitch
  split
  · exact h.withTb ⟨Nat.zero_le _, h.tb.microFraction, h.tb.secondFraction⟩
  · exact h.withTb ⟨h.tb.lockTimer, h.tb.microFraction, h.tb.secondFraction⟩

theorem State.Bounded.writeTbSource (value : Word) : (writeTbSource value s).Bounded := by
  unfold Machine.writeTbSource
  dsimp only
  split
  · split
    · exact h
    · exact h.withTb ⟨h.tb.lockTimer, h.tb.microFraction, h.tb.secondFraction⟩
  · split
    · exact h
    · exact (h.requestSwitch _).checkSwitch.arbiterAfter _

/-! ### Downstream frames -/

theorem State.Bounded.countLinkError : (countLinkError s).Bounded :=
  h.withLink ⟨h.link.replies, Nat.min_le_left _ _⟩

omit h in
/-- A frame is taken with room for its answer, else it is counted or discarded (R165, R174). -/
theorem takeFrame_bounded {f : State → State}
    (hf : ∀ s : State, s.Bounded → s.link.replies.length < 64 → (f s).Bounded) {s : State} (h : s.Bounded) :
    (takeFrame f s).Bounded := by
  unfold takeFrame
  split
  · exact h
  · split
    · exact h.countLinkError
    · rename_i room
      exact hf s h (Nat.lt_of_not_le room)

/-- An answer that finds room joins the reply list (R165). -/
theorem State.Bounded.enterReply (room : s.link.replies.length < 64) (kind seq : Byte) (a : Answer) :
    (enterReply kind seq a s).Bounded :=
  h.withLink ⟨by simpa using room, h.link.linkErrors⟩

omit h in
/-- A SET whose write keeps the bounds and leaves the reply list alone keeps them. -/
theorem takeSet_bounded {write : State → State} (hw : ∀ s : State, s.Bounded → (write s).Bounded)
    (hl : ∀ s : State, (write s).link.replies = s.link.replies) (seq : Byte) (x : Setting) {s : State} (h : s.Bounded) :
    (takeSet seq x write s).Bounded :=
  takeFrame_bounded (fun s h room => (hw s h).enterReply (hl s ▸ room) _ _ _) h

theorem State.Bounded.writeRecord (t : TableId) (i : Nat) (b : List Byte) : (writeRecord t i b s).Bounded := by
  cases t with
  | net =>
    unfold Machine.writeRecord netRecordEffect
    dsimp only
    split
    · exact h.withTables
    · exact h.withTables.setSignature i _
  | freq => exact h.of_measured rfl
  | _ => exact h.withTables

theorem State.Bounded.writeSegment (seg : Segment) : (writeSegment seg s).Bounded := by
  have written := foldl_preserves (P := State.Bounded)
    (f := fun a (r : Nat × List Byte) => Machine.writeRecord seg.table r.1 r.2 a)
    (fun a r ha => State.Bounded.writeRecord ha seg.table r.1 r.2) seg.records h
  unfold Machine.writeSegment
  dsimp only
  split
  · exact written.requestScan
  · exact written

theorem State.Bounded.takeTable (room : s.link.replies.length < 64) (seq : Byte) (payload : List Byte) :
    (takeTable seq payload s).Bounded := by
  unfold Machine.takeTable
  dsimp only
  split
  · exact h.enterReply room _ _ _
  · exact h.enterReply room _ _ _
  · exact h.enterReply room _ _ _
  · exact (h.writeSegment _).enterReply (by rwa [writeSegment_link]) _ _ _

theorem State.Bounded.acceptDispatch (d : DispatchFields) (lane : LaneId) : (acceptDispatch d lane s).Bounded := by
  unfold Machine.acceptDispatch
  dsimp only
  split
  · exact h.withEntries.retireFixed d.tag
  · exact h.withEntries.advanceHead lane

omit h in
theorem acceptDispatch_link (d : DispatchFields) (lane : LaneId) (s : State) :
    (acceptDispatch d lane s).link = s.link := by
  unfold acceptDispatch
  dsimp only
  split <;> simp

theorem State.Bounded.takeDispatch (room : s.link.replies.length < 64) (seq : Byte) (payload : List Byte) :
    (takeDispatch seq payload s).Bounded := by
  unfold Machine.takeDispatch
  dsimp only
  split
  · exact h.enterReply room _ _ _
  · split
    · exact h.enterReply room _ _ _
    · exact (h.acceptDispatch _ _).enterReply (by rwa [acceptDispatch_link]) _ _ _
    · exact h.enterReply room _ _ _

theorem State.Bounded.takeGroup (room : s.link.replies.length < 64) (seq slot : Byte) (net : Half) :
    (takeGroup seq slot net s).Bounded := by
  unfold Machine.takeGroup
  split
  · exact h.enterReply room _ _ _
  · exact (h.enterReply room _ _ _).answerGroups

theorem State.Bounded.openPanel (populated xout : Byte) : (openPanel populated xout s).Bounded := by
  have sigs : ({ s.sigs with deferredTags := [] } : Signatures).Bounded :=
    ⟨h.sigs.deferred, h.sigs.inForceK, h.sigs.nextK, h.sigs.deferAge⟩
  unfold Machine.openPanel
  exact (h.withSigs sigs).of_measured rfl

theorem State.Bounded.takePanelStart (room : s.link.replies.length < 64) (seq populated xout : Byte) :
    (takePanelStart seq populated xout s).Bounded := by
  unfold Machine.takePanelStart
  split
  · exact h.enterReply room _ _ _
  · exact (h.openPanel populated xout).enterReply room _ _ _

theorem State.Bounded.xoutSlot (slot : Nat) : (xoutSlot slot s).Bounded := by
  have marked : ({ s with
      board := { s.board with slots := s.board.slots.put slotInitial slot .xout }
      entries := s.entries.map (fun e =>
        if e.slot = slot ∧ e.state = .forwarded then { e with xoutMark := true } else e) } : State).Bounded :=
    h.of_measured rfl
  exact marked.fixEntries _ _

theorem State.Bounded.clearBatch : (clearBatch s).Bounded := by
  have begun : (batchBegun s).Bounded := (h.answerAllGroups s.clearIncomplete).of_measured rfl
  exact clearBatch_eq s ▸ begun.clearGroups.clearSignatures

omit h in
theorem clearBatch_replies_length (s : State) : (clearBatch s).link.replies.length = s.link.replies.length := by
  simp [clearBatch, answerAllGroups]

theorem State.Bounded.takeBatchClear (room : s.link.replies.length < 64) (seq : Byte) :
    (takeBatchClear seq s).Bounded := by
  unfold Machine.takeBatchClear
  split
  · exact h.enterReply room _ _ _
  · exact h.clearBatch.enterReply (by rwa [clearBatch_replies_length]) _ _ _

/-! ### Resets and the ends of upstream frames -/

omit h in
/-- The power-on values are within the bounds, whatever commands wait (R175). -/
theorem powerUp_bounded (cause : ResetCause) (low : Bool) (s : State) : (powerUp cause low s).Bounded := by
  have blank : State.blank.Bounded := (State.bounded_iff _).mpr (by decide)
  have waiting : ({ State.blank with pending := s.pending, resetLow := low } : State).Bounded := blank.of_measured rfl
  exact (waiting.postEvent _ _).conclude

theorem State.Bounded.enterReset : (enterReset s).Bounded := by
  have lanes := (h.mapLanes (f := fun l => { l with order := none }) fun _ hl => hl).lanes
  exact ⟨(List.length_map _).trans_le h.reports, h.groups, h.sigs, h.events, ⟨Nat.zero_le _, h.link.linkErrors⟩, h.raw,
    lanes, h.tb⟩

theorem State.Bounded.freeTransmitter : (freeTransmitter s).Bounded :=
  h.withLink ⟨h.link.replies, h.link.linkErrors⟩

theorem State.Bounded.endAttn : (endAttn s).Bounded := by
  unfold Machine.endAttn
  split
  · exact h.freeTransmitter
  · exact h

theorem State.Bounded.endReply : (endReply s).Bounded := by
  unfold Machine.endReply
  split
  · exact powerUp_bounded _ _ _
  · split
    · exact h.withLink ⟨(List.tail_sublist _).length_le.trans h.link.replies, h.link.linkErrors⟩
    · exact h

theorem State.Bounded.endReport : (endReport s).Bounded := by
  unfold Machine.endReport
  split
  · have dropped : (dropReport (Machine.freeTransmitter s)).Bounded :=
      h.freeTransmitter.withReports ((List.length_filter_le _ _).trans h.reports)
    exact dropped.grantPlace
  · exact h

omit h in
theorem advanceRaw_length_le (l : List RawCopy) : (advanceRaw l).length ≤ l.length := by
  cases l with
  | nil => exact le_rfl
  | cons c rest =>
    simp only [advanceRaw]
    split
    · exact Nat.le_succ _
    · exact le_rfl

theorem State.Bounded.endRaw : (endRaw s).Bounded := by
  unfold Machine.endRaw
  split
  · exact h.freeTransmitter.withRaw ((advanceRaw_length_le _).trans h.raw)
  · exact h

end

/-! ### Every command -/

theorem clampLearnCount_mem (value : Nat) : clampLearnCount value ∈ [1, 3, 5, 7] := by
  have small : max 1 (min 7 value) < 8 := by omega
  have odd : ∀ k < 8, 1 ≤ k → (if k % 2 = 0 then k + 1 else k) ∈ [1, 3, 5, 7] := by decide
  exact odd _ small (Nat.le_max_left _ _)

theorem writeLaneEnable_replies (value : Word) (s : State) :
    (writeLaneEnable value s).link.replies = s.link.replies := by
  have switched : (switchLanes s.link.laneEnable (clampMask value) s).link = s.link :=
    switchLanes_keeps State.link (fun _ _ _ => rfl) _ _ s
  simp [writeLaneEnable, switched]

theorem writeTbSource_replies (value : Word) (s : State) : (writeTbSource value s).link.replies = s.link.replies := by
  unfold writeTbSource
  dsimp only
  split
  · split <;> rfl
  · split
    · rfl
    · simp [requestSwitch]

/-- Every effect keeps the queues within their capacities and the counters and settings in their ranges. -/
theorem effectOf_bounded (c : Instr) {s : State} (h : s.Bounded) : (effectOf c s).Bounded := by
  cases c with
  | powerOn | resetPinAssert | resetPinRelease | microsecondWrap | laneFrameDiscard => exact h
  | linkFrameError dt received =>
    simp only [effectOf]
    split
    · exact h.countLinkError
    · exact h
  | replyListOverflow =>
    simp only [effectOf]
    exact takeFrame_bounded (fun s h _ => h) h
  | unknownFrameKind dt seq kind =>
    simp only [effectOf]
    split
    · exact h
    · exact takeFrame_bounded (fun s h room => h.enterReply room _ _ _) h
  | dispatch dt seq payload =>
    simp only [effectOf]
    exact takeFrame_bounded (fun s h room => h.takeDispatch room seq payload) h
  | table dt seq payload =>
    simp only [effectOf]
    exact takeFrame_bounded (fun s h room => h.takeTable room seq payload) h
  | badRequest dt seq payload =>
    simp only [effectOf]
    split
    · exact takeFrame_bounded (fun s h room => h.enterReply room _ _ _) h
    · exact h
  | get dt seq id =>
    simp only [effectOf]
    refine takeFrame_bounded (fun s h room => ?_) h
    split <;> exact h.enterReply room _ _ _
  | setLaneEnable dt seq value =>
    simp only [effectOf]
    exact takeSet_bounded (fun s h => h.writeLaneEnable value) (writeLaneEnable_replies value) seq _ h
  | setEventDelay dt seq value =>
    simp only [effectOf]
    refine takeSet_bounded (fun s h => ?_) (fun _ => by rfl) seq _ h
    exact h.withEvents h.events
  | setRawCopy dt seq value =>
    simp only [effectOf]
    refine takeSet_bounded (fun s h => ?_) (fun _ => by rfl) seq _ h
    exact h.withLink ⟨h.link.replies, h.link.linkErrors⟩
  | setLearnCount dt seq value =>
    simp only [effectOf]
    refine takeSet_bounded (fun s h => ?_) (fun _ => by rfl) seq _ h
    exact h.withSigs ⟨h.sigs.deferred, h.sigs.inForceK, clampLearnCount_mem _, h.sigs.deferAge⟩
  | setDeferAge dt seq value =>
    simp only [effectOf]
    have clamped : 1 ≤ clampDeferAge value.toNat ∧ clampDeferAge value.toNat ≤ 65535 := by
      unfold clampDeferAge
      omega
    refine takeSet_bounded (fun s h => ?_) (fun _ => by rfl) seq _ h
    exact h.withSigs ⟨h.sigs.deferred, h.sigs.inForceK, h.sigs.nextK, clamped⟩
  | setTbSource dt seq value =>
    simp only [effectOf]
    exact takeSet_bounded (fun s h => h.writeTbSource value) (writeTbSource_replies value) seq _ h
  | setTbFail dt seq value =>
    simp only [effectOf]
    refine takeSet_bounded (fun s h => ?_) (fun s => by split <;> rfl) seq _ h
    split
    · exact h
    · exact h.withTb ⟨h.tb.lockTimer, h.tb.microFraction, h.tb.secondFraction⟩
  | status =>
    simp only [effectOf]
    exact takeFrame_bounded (fun s h room => h.enterReply room _ _ _) h
  | fetchEvent =>
    simp only [effectOf]
    refine takeFrame_bounded (fun s h room => ?_) h
    have fetched : ({ s with events := s.events.fetch } : State).Bounded :=
      h.withEvents ((List.tail_sublist _).length_le.trans h.events)
    exact fetched.enterReply room _ _ _
  | group dt seq slot net =>
    simp only [effectOf]
    exact takeFrame_bounded (fun s h room => h.takeGroup room seq slot net) h
  | panelStart dt seq populated xout =>
    simp only [effectOf]
    exact takeFrame_bounded (fun s h room => h.takePanelStart room seq populated xout) h
  | xout dt seq slot =>
    simp only [effectOf]
    refine takeFrame_bounded (fun s h room => ?_) h
    split
    · exact h.enterReply room _ _ _
    · exact (h.xoutSlot _).enterReply (by simpa [xoutSlot] using room) _ _ _
  | batchClear dt seq =>
    simp only [effectOf]
    exact takeFrame_bounded (fun s h room => h.takeBatchClear room seq) h
  | laneReset dt seq lane =>
    simp only [effectOf]
    refine takeFrame_bounded (fun s h room => ?_) h
    split
    · exact h.enterReply room _ _ _
    · exact (h.resetLane _).enterReply (by simpa [resetLane] using room) _ _ _
  | linkReset dt seq =>
    simp only [effectOf]
    refine takeFrame_bounded (fun s h room => ?_) h
    exact (h.answerAllGroups s.incompleteFlag).withLink ⟨by simpa [answerAllGroups] using room, h.link.linkErrors⟩
  | linkResetEffect dt =>
    simp only [effectOf]
    split
    · exact powerUp_bounded _ _ _
    · exact h
  | marker dt lane => exact h.takeMarker lane
  | silenceTimeout dt lane => exact h.failLane lane
  | burst dt lane frame =>
    simp only [effectOf, takeBurst]
    split
    · exact h.takeAnswer _ _ _
    · exact h
  | fault dt lane frame =>
    simp only [effectOf, takeFault]
    split
    · exact h.takeAnswer _ _ _
    · exact h
  | reductionComplete dt lane => exact h.completeReduction lane
  | attemptExpiry dt lane => exact h.expireAttempt lane
  | orderSent dt lane => exact h.endOrder lane
  | relabel => exact h.walkStep
  | walkEnd => exact h.walkFinish
  | scanStep => exact h.scanOne
  | deferralDeadline => exact h.expireDue.placeAllExpired
  | retuneSettleStart dt gen => exact h.beginSettling gen
  | retuneComplete dt gen => exact h.finishRetune gen
  | loopLock => exact h.lockLoop
  | lockTimeout => exact h.timeoutLock
  | switchRefinLoss => exact h.loseSwitch
  | failover => exact h.failOver
  | attnSent => exact h.endAttn
  | replySent => exact h.endReply
  | reportSent => exact h.endReport
  | rawFrameSent => exact h.endRaw

theorem exec_bounded {c : Instr} {s t : State} (h : s.Bounded) (ht : exec c s = .next t) : t.Bounded := by
  have effect := effectOf_bounded c (h.elapse c.dt)
  rcases exec_next_cases ht with rfl | ⟨-, cause, low, rfl⟩ | rfl | rfl | rfl
  · exact h
  · exact powerUp_bounded cause low s
  · exact (h.elapse c.dt).enterReset
  · exact effect.conclude
  · exact (effect.arbiterAfter _).conclude

/-- Settles O57: whatever joins a queue has found a place in it, and every counter and setting is clamped, cleared or
started again within its range. -/
theorem stepKeepsCapacitiesAndRanges : Obligations.StepKeepsCapacitiesAndRanges := by
  unfold Obligations.StepKeepsCapacitiesAndRanges
  intro s t hqueues hranges ht
  have h : s.Bounded := (State.bounded_iff s).mpr ⟨hqueues, hranges⟩
  refine (State.bounded_iff t).mp ?_
  unfold step at ht
  split at ht
  · cases ht
    unfold tick
    split
    · exact h
    · exact (h.elapse 1).of_measured rfl
  · rename_i c rest _
    have rest : ({ s with pending := rest } : State).Bounded := h.of_measured rfl
    exact exec_bounded rest ht

end Sys2Proof.Machine
end

section
/-! SUPPORT. Lane ports: the rate windows, markers by the state of the lane, the training run, frames that do not reach
the DU, and lanes that are switched, lost or reset with no entry outstanding (R46 to R57, R64). -/

namespace Sys2Proof.Machine

/-! ### The rate windows (R47) -/

theorem absDiff_eq_natAbs (a b : Nat) : absDiff a b = ((a : Int) - (b : Int)).natAbs := by
  unfold absDiff
  split <;> omega

/-- A window reaches a fiftieth of the nominal interval to either side. -/
theorem Rate.admits_iff (r : Rate) (m : Nat) :
    r.admits m = true ↔ r.interval - r.interval / 50 ≤ m ∧ m ≤ r.interval + r.interval / 50 := by
  have window : ∀ k : Nat, 50 ≤ k → (50 * ((m : Int) - (k : Int)).natAbs ≤ k ↔ k - k / 50 ≤ m ∧ m ≤ k + k / 50) := by
    intro k hk
    omega
  rw [Rate.admits, decide_eq_true_eq, absDiff_eq_natAbs]
  exact window _ (by cases r <;> decide)

/-- No interval lies in two windows. -/
theorem Rate.eq_of_admits {r q : Rate} {m : Nat} (hr : r.admits m = true) (hq : q.admits m = true) : r = q := by
  rw [Rate.admits_iff] at hr hq
  cases r <;> cases q <;> simp only [Rate.interval, reduceCtorEq] at hr hq ⊢ <;> omega

theorem admits_of_matchRate {m : Nat} {r : Rate} (h : matchRate m = some r) : r.admits m = true := by
  unfold matchRate at h
  simpa using List.find?_some h

theorem matchRate_eq_some {m : Nat} {r : Rate} : matchRate m = some r ↔ r.admits m = true := by
  refine ⟨admits_of_matchRate, fun h => ?_⟩
  cases hm : matchRate m with
  | none =>
    have refused := List.find?_eq_none.mp hm r (by cases r <;> simp)
    exact absurd h refused
  | some q => rw [Rate.eq_of_admits h (admits_of_matchRate hm)]

/-- Settles O32: a match is the only window that admits the interval. -/
theorem rateWindows : Obligations.RateWindows := by
  unfold Obligations.RateWindows
  intro m
  refine ⟨?_, ?_, ?_, ?_, fun r => ?_, rfl, rfl, rfl, rfl, rfl, rfl, rfl, rfl⟩
  · exact matchRate_eq_some.trans (Rate.admits_iff .r25 m)
  · exact matchRate_eq_some.trans (Rate.admits_iff .r50 m)
  · exact matchRate_eq_some.trans (Rate.admits_iff .r100 m)
  · exact matchRate_eq_some.trans (Rate.admits_iff .r200 m)
  · rw [matchRate_eq_some, Rate.admits, decide_eq_true_eq, absDiff_eq_natAbs]

/-! ### Lanes that are lost or reset with no entry outstanding (R36, R41, R64) -/

/-- The reduction slots after the lost lanes' are abandoned (R64). -/
theorem abandoned_reductions_get (s : State) (lost : LaneId → Bool) (n : LaneId) :
    (s.abandoned lost).reductions.get n = if lost n then none else s.reductions.get n := by
  cases hn : lost n with
  | true => exact abandoned_reductions s hn
  | false =>
    refine foldl_preserves (P := fun a => a.reductions.get n = s.reductions.get n) (fun a m ha => ?_) allLanes rfl
    split
    · rename_i hm
      have other : n ≠ m := fun e => by rw [e, hm] at hn; cases hn
      exact (PerLane.get_set_of_ne a.reductions other none).trans ha
    · exact ha

theorem fixEntries_of_noEntry {s : State} (h : s.entries = []) (p : Entry → Bool) (o : FixedOutcome) :
    fixEntries p o s = s :=
  fixEntries_of_none (by simp [State.NoneQueued, h]) (by simp [h]) o

/-- With no entry outstanding a loss takes the reductions alone. -/
theorem loseLanes_of_noEntry {s : State} (h : s.entries = []) (lost : LaneId → Bool) (o : FixedOutcome) :
    loseLanes lost o s = s.abandoned lost :=
  fixEntries_of_noEntry ((abandoned_keeps State.entries (fun _ _ => rfl) s lost).trans h) _ o

theorem abandoned_one (s : State) (n : LaneId) : s.abandoned (fun m => decide (m = n)) = s.setReduction n none := by
  fin_cases n <;> rfl

theorem loseLanes_one {s : State} (h : s.entries = []) (n : LaneId) (o : FixedOutcome) :
    loseLanes (fun m => decide (m = n)) o s = s.setReduction n none :=
  (loseLanes_of_noEntry h _ o).trans (abandoned_one s n)

theorem waiting_of_noEntry {s : State} (h : s.entries = []) : s.waiting = [] := by
  simp [State.waiting, h]

/-! ### Events that leave the arbiter nothing to do (R139) -/

/-- An event without effect of its own is the passing of time. -/
theorem takeArbitrated_unchanged {s : State} (h : s.resetLow = false) {dt : Nat} {f : State → State}
    (hf : f (elapse dt s) = elapse dt s) : Becomes (takeArbitrated dt f s) (elapse dt s) := by
  have calm : passTriggered (elapse dt s) (f (elapse dt s)) = false := by rw [hf]; exact passTriggered_self _
  have becomes := takeArbitrated_becomes h dt f calm
  rwa [hf] at becomes

/-- An event whose effect is one event record. -/
theorem takeArbitrated_posts {s : State} (h : s.resetLow = false) {dt : Nat} {f : State → State} {code : EventCode}
    {p : Nat} (hf : f (elapse dt s) = postEvent code p (elapse dt s)) :
    Becomes (takeArbitrated dt f s) (postEvent code p (elapse dt s)) := by
  have calm : passTriggered (elapse dt s) (f (elapse dt s)) = false := by
    rw [hf]
    exact passTriggered_of_kept (by simp [State.waiting]) (by simp) (by simp)
  have becomes := takeArbitrated_becomes h dt f calm
  rwa [hf] at becomes

/-! ### Markers and silence, by the state of the lane (R48, R52, R53) -/

section
variable {s : State} {n : LaneId}

theorem takeMarker_disabled (h : (s.lane n).state = .disabled) : takeMarker n s = s := by
  simp [takeMarker, h]

theorem takeMarker_up (h : (s.lane n).state = .up) :
    takeMarker n s = s.modifyLane n (fun l => { l with silence := 0, lastMarker := some s.tb.ticks }) := by
  simp [takeMarker, h]

theorem takeMarker_failed (h : (s.lane n).state = .failed) :
    takeMarker n s = s.modifyLane n (fun l => l.recoverMarker s.tb.ticks) := by
  simp [takeMarker, h]

/-- A marker in TRAINING after which the run is short of six intervals (R49). -/
theorem takeMarker_counts (h : (s.lane n).state = .training)
    (hrun : ((s.lane n).trainingMarker s.tb.ticks).runCount < 6) :
    takeMarker n s = s.modifyLane n (fun _ => (s.lane n).trainingMarker s.tb.ticks) := by
  have short : ¬Config.lockRun ≤ ((s.lane n).trainingMarker s.tb.ticks).runCount := Nat.not_le.mpr hrun
  simp [takeMarker, h, short]

/-- The marker that completes the run (R50). -/
theorem takeMarker_locks (h : (s.lane n).state = .training)
    (hrun : 6 ≤ ((s.lane n).trainingMarker s.tb.ticks).runCount) :
    takeMarker n s = postEvent .laneUp (laneUpParameter n ((s.lane n).trainingMarker s.tb.ticks).lock.rate)
      (s.modifyLane n (fun _ => ((s.lane n).trainingMarker s.tb.ticks).lock)) := by
  have full : Config.lockRun ≤ ((s.lane n).trainingMarker s.tb.ticks).runCount := hrun
  simp [takeMarker, h, full]

end

theorem marker_becomes {s : State} (h : s.resetLow = false) (dt : Nat) (n : LaneId) :
    Becomes (exec (.marker dt n) s) (takeMarker n (elapse dt s)) :=
  takeEvent_becomes h dt (takeMarker n)

theorem Lane.silent_iff (l : Lane) : l.silent = true ↔ l.state = .up ∧ l.rate.threshold ≤ l.silence := by
  simp [Lane.silent]

/-- Settles O33: the marker's case is that of the lane's state, and with no entry outstanding a loss is the port's and
the reduction's alone. -/
theorem markerAndSilenceByLaneState : Obligations.MarkerAndSilenceByLaneState := by
  unfold Obligations.MarkerAndSilenceByLaneState
  intro dt n s hlow u l put o silence
  have becomes : Becomes o (takeMarker n u) := marker_becomes hlow dt n
  have state : (u.lane n).state = (s.lane n).state := by simp [u]
  refine ⟨fun h => ?_, fun h => ?_, fun h => ?_, fun h hm hrun => ?_, fun he hup hsil => ?_, fun h => ?_⟩
  · rwa [takeMarker_disabled (state.trans h)] at becomes
  · rwa [takeMarker_up (state.trans h)] at becomes
  · rwa [takeMarker_failed (state.trans h)] at becomes
  · have first : l.trainingMarker u.tb.ticks = { l with lastMarker := some u.tb.ticks } := by
      simp [Lane.trainingMarker, l, u, hm]
    have counted := takeMarker_counts (s := u) (state.trans h) (first.symm ▸ by simpa [l, u] using hrun)
    rw [counted, show (u.lane n).trainingMarker u.tb.ticks = _ from first] at becomes
    exact becomes
  · have entries : u.entries = [] := by simpa [u] using he
    have lost : failLane n u = postEvent .laneFailed n.val ((u.modifyLane n Lane.fail).setReduction n none) :=
      (if_pos ((Lane.silent_iff l).mpr ⟨hup, hsil⟩)).trans
        (congrArg _ (loseLanes_one (s := u.modifyLane n Lane.fail) entries n .laneLost))
    have idle := waiting_of_noEntry (s := failLane n u) (by rw [lost, postEvent_entries]; exact entries)
    exact lost ▸ takeArbitrated_becomes_of_idle hlow dt (failLane n) (Or.inr idle)
  · have loud : failLane n u = u := by
      refine if_neg fun hs => ?_
      obtain ⟨hup, hsil⟩ := (Lane.silent_iff l).mp hs
      exact h.elim (fun k => k hup) (Nat.not_lt.mpr hsil)
    exact takeArbitrated_unchanged hlow loud

/-! ### The training run (R48 to R50) -/

section
variable {l : Lane} {m : Nat} {r : Rate} {f : Nat}

theorem countInterval_unmatched (h : matchRate m = none) : l.countInterval m = l.clearRun := by
  simp [Lane.countInterval, h]

theorem countInterval_starts (h : matchRate m = some r) (hnew : l.runCount = 0 ∨ l.runCandidate ≠ some r) :
    l.countInterval m = l.startRun r m := by
  simp [Lane.countInterval, h, hnew]

/-- An interval of the run's rate, by its distance from the run's first (R49, cases 3 and 4). -/
theorem countInterval_of_run (h : matchRate m = some r) (hcount : l.runCount ≠ 0) (hrate : l.runCandidate = some r)
    (hfirst : l.runFirst = some f) : l.countInterval m
      = if f < 100 * ((m : Int) - (f : Int)).natAbs then l.startRun r m else { l with runCount := l.runCount + 1 } := by
  simp [Lane.countInterval, h, hcount, hrate, hfirst, absDiff_eq_natAbs]

end

/-- Settles O34: the marker's interval is counted by the case of R49 that applies, and the sixth locks the rate. -/
theorem trainingMarkerCountsRun : Obligations.TrainingMarkerCountsRun := by
  unfold Obligations.TrainingMarkerCountsRun
  intro dt n t0 s hlow hstate hlast u l put m count off o
  have becomes : Becomes o (takeMarker n u) := marker_becomes hlow dt n
  have training : (u.lane n).state = .training := by simpa [u] using hstate
  have marked : (u.lane n).trainingMarker u.tb.ticks = l.countInterval m := by
    have last : (u.lane n).lastMarker = some t0 := by simpa [u] using hlast
    simp only [Lane.trainingMarker, last]
    rfl
  have hcount : l.runCount = count := by simp [l, u, count]
  have hcandidate : l.runCandidate = (s.lane n).runCandidate := by simp [l, u]
  have hfirst : l.runFirst = (s.lane n).runFirst := by simp [l, u]
  have counts {x : Lane} (hx : l.countInterval m = x) (hshort : x.runCount < 6) : Becomes o (put x) := by
    have counted := takeMarker_counts training (by rwa [marked, hx])
    rw [counted, marked, hx] at becomes
    exact becomes
  refine ⟨fun h => ?_, fun r h hnew => ?_, fun r f h hrun hrate hf =>
    ⟨fun hfar => ?_, fun hnear hless => ?_, fun hnear hsix => ?_⟩⟩
  · exact counts (countInterval_unmatched h) (show 0 < 6 by decide)
  · exact counts (countInterval_starts h (by rwa [hcount, hcandidate])) (show 1 < 6 by decide)
  all_goals have ran := countInterval_of_run h (hcount.trans_ne hrun) (hcandidate.trans hrate) (hfirst.trans hf)
  · exact counts (ran.trans (if_pos hfar)) (show 1 < 6 by decide)
  · have extended := ran.trans (if_neg (Nat.not_lt.mpr hnear))
    rw [hcount] at extended
    exact counts extended hless
  · have extended := ran.trans (if_neg (Nat.not_lt.mpr hnear))
    have full : 6 ≤ ((u.lane n).trainingMarker u.tb.ticks).runCount := by
      rw [marked, extended, hcount]
      exact hsix.ge
    have rate : l.runCandidate.getD .r25 = r := by rw [hcandidate, hrate]; rfl
    rw [takeMarker_locks training full, marked, extended] at becomes
    simp only [Lane.lock, rate, laneUpParameter, Nat.mul_comm n.val] at becomes
    exact becomes

/-! ### Lane frames that do not reach the DU (R56, R57) -/

theorem burstGood_iff (f : BurstFrame) : burstGood f = true ↔ f.crcGood = true ∧ f.pairCount.toNat ≤ 4096
    ∧ f.payloadLength = 7 + 4 * f.pairCount.toNat ∧ f.pairs.length = f.pairCount.toNat := by
  simp only [burstGood, Bool.and_eq_true, decide_eq_true_eq, beq_iff_eq, and_assoc]
  rfl

theorem faultGood_iff (f : FaultFrame) : faultGood f = true ↔ f.crcGood = true ∧ f.payloadLength = 4 := by
  simp [faultGood]

/-- A tag is that of a lane's open or last closed attempt (R57). -/
def Lane.Remembers (l : Lane) (tag : Half) : Prop :=
  l.openAttempt.map AttemptId.tag = some tag ∨ l.lastClosed.map AttemptId.tag = some tag

section
variable {s : State} {n : LaneId} {a : AttemptId}

theorem takeAnswer_notUp (h : (s.lane n).state ≠ .up) (how : AttemptEnd) : takeAnswer n a how s = s := by
  simp [takeAnswer, h]

theorem takeAnswer_late (hup : (s.lane n).state = .up) (hopen : (s.lane n).openAttempt ≠ some a)
    (hlate : (s.lane n).Remembers a.tag) (how : AttemptEnd) :
    takeAnswer n a how s = postEvent .lateBurst n.val s := by
  have late : (s.lane n).classify a = .late := (if_neg hopen).trans (if_pos hlate)
  simp [takeAnswer, hup, late]

theorem takeAnswer_stray (hup : (s.lane n).state = .up) (hopen : (s.lane n).openAttempt ≠ some a)
    (hstray : ¬(s.lane n).Remembers a.tag) (how : AttemptEnd) :
    takeAnswer n a how s = postEvent .strayBurst n.val s := by
  have stray : (s.lane n).classify a = .stray := (if_neg hopen).trans (if_neg hstray)
  simp [takeAnswer, hup, stray]

end

/-- What a lane port does with a frame that it takes as the answer to an attempt, or discards (R56, R57). -/
theorem laneFrame_becomes {s : State} (hlow : s.resetLow = false) {dt : Nat} {n : LaneId} {a : AttemptId}
    {how : AttemptEnd} {take : State → State} {good : Prop}
    (taken : good → take (elapse dt s) = takeAnswer n a how (elapse dt s))
    (discarded : ¬good → take (elapse dt s) = elapse dt s) :
    ((¬good ∨ (s.lane n).state ≠ .up) → Becomes (takeArbitrated dt take s) (elapse dt s))
    ∧ (good → (s.lane n).state = .up → (s.lane n).openAttempt ≠ some a →
        ((s.lane n).Remembers a.tag → Becomes (takeArbitrated dt take s) (postEvent .lateBurst n.val (elapse dt s)))
        ∧ (¬(s.lane n).Remembers a.tag →
          Becomes (takeArbitrated dt take s) (postEvent .strayBurst n.val (elapse dt s)))) := by
  have state : ((elapse dt s).lane n).state = (s.lane n).state := by simp
  have opened : ((elapse dt s).lane n).openAttempt = (s.lane n).openAttempt := by simp
  have remembers : ((elapse dt s).lane n).Remembers a.tag ↔ (s.lane n).Remembers a.tag := by
    simp [Lane.Remembers]
  refine ⟨fun h => takeArbitrated_unchanged hlow ?_, fun hgood hup hopen => ⟨fun hlate => ?_, fun hstray => ?_⟩⟩
  · by_cases hgood : good
    · exact (taken hgood).trans (takeAnswer_notUp (state.trans_ne (h.resolve_left (not_not.mpr hgood))) how)
    · exact discarded hgood
  · exact takeArbitrated_posts hlow ((taken hgood).trans
      (takeAnswer_late (state.trans hup) (by rwa [opened]) (by rwa [remembers]) how))
  · exact takeArbitrated_posts hlow ((taken hgood).trans
      (takeAnswer_stray (state.trans hup) (by rwa [opened]) (by rwa [remembers]) how))

/-- Settles O35: a frame that is discarded, late or stray leaves the arbiter nothing to do. -/
theorem laneFramesShortOfTheDispatchUnit : Obligations.LaneFramesShortOfTheDispatchUnit := by
  unfold Obligations.LaneFramesShortOfTheDispatchUnit
  intro dt n s hlow u l late
  refine ⟨fun f => ?_, fun f => ?_, fun received => takeEvent_becomes hlow dt id,
    takeEvent_becomes hlow dt (endOrder n)⟩
  · exact laneFrame_becomes hlow (take := takeBurst n f) (fun hgood => if_pos ((burstGood_iff f).mpr hgood))
      (fun hbad => if_neg fun k => hbad ((burstGood_iff f).mp k))
  · exact laneFrame_becomes hlow (take := takeFault n f) (fun hgood => if_pos ((faultGood_iff f).mpr hgood))
      (fun hbad => if_neg fun k => hbad ((faultGood_iff f).mp k))

/-! ### LANE_ENABLE and LANE_RESET (R46, R54) -/

/-- What the masks do to one lane port (R46). -/
def Lane.switched (l : Lane) (was is : Bool) : Lane :=
  if was = true ∧ is = false then l.disable else if was = false ∧ is = true then l.enable else l

theorem switchLanes_lane (before after : BitVec 4) (s : State) (n : LaneId) :
    (switchLanes before after s).lane n = (s.lane n).switched (before.getLsbD n.val) (after.getLsbD n.val) := by
  have bit : ∀ (a : State) (m : LaneId),
      (if before.getLsbD m.val && !after.getLsbD m.val then a.modifyLane m Lane.disable
        else if !before.getLsbD m.val && after.getLsbD m.val then a.modifyLane m Lane.enable
        else a) = a.modifyLane m (fun l => l.switched (before.getLsbD m.val) (after.getLsbD m.val)) := by
    intro a m
    cases before.getLsbD m.val <;> cases after.getLsbD m.val <;> simp [Lane.switched, State.modifyLane]
  simp only [switchLanes, bit, allLanes, List.foldl_cons, List.foldl_nil]
  fin_cases n <;> rfl

section
variable {s : State} (h : s.entries = []) (value : Word)
include h

/-- With no entry outstanding a write of LANE_ENABLE switches the ports and takes the reductions of the lost lanes. -/
theorem writeLaneEnable_of_noEntry : writeLaneEnable value s
    = State.abandoned { switchLanes s.link.laneEnable (clampMask value) s with
        link := { s.link with laneEnable := clampMask value } }
      (fun n => s.link.laneEnable.getLsbD n.val && !(clampMask value).getLsbD n.val
        && decide ((s.lane n).state = .up)) := by
  have link : (switchLanes s.link.laneEnable (clampMask value) s).link = s.link :=
    switchLanes_keeps State.link (fun _ _ _ => rfl) _ _ s
  have entries : (switchLanes s.link.laneEnable (clampMask value) s).entries = [] :=
    (switchLanes_keeps State.entries (fun _ _ _ => rfl) _ _ s).trans h
  unfold writeLaneEnable
  dsimp only
  rw [loseLanes_of_noEntry (by exact entries), link]

theorem writeLaneEnable_lane (n : LaneId) : (writeLaneEnable value s).lane n
    = (s.lane n).switched (s.link.laneEnable.getLsbD n.val) ((clampMask value).getLsbD n.val) := by
  rw [writeLaneEnable_of_noEntry h, abandoned_keeps (State.lane · n) (fun _ _ => rfl)]
  exact switchLanes_lane _ _ s n

theorem writeLaneEnable_reduction (n : LaneId) : (writeLaneEnable value s).reductions.get n
    = if s.link.laneEnable.getLsbD n.val = true ∧ (clampMask value).getLsbD n.val = false ∧ (s.lane n).state = .up
      then none else s.reductions.get n := by
  have switched : (switchLanes s.link.laneEnable (clampMask value) s).reductions = s.reductions :=
    switchLanes_keeps State.reductions (fun _ _ _ => rfl) _ _ s
  rw [writeLaneEnable_of_noEntry h, abandoned_reductions_get]
  simp [switched, and_assoc]

theorem writeLaneEnable_link : (writeLaneEnable value s).link = { s.link with laneEnable := clampMask value } := by
  rw [writeLaneEnable_of_noEntry h, abandoned_keeps State.link (fun _ _ => rfl)]

/-- Ports, reductions and the mask are all that a write of LANE_ENABLE reaches. -/
theorem writeLaneEnable_sameBut : SameBut [.lanes, .reductions, .link] s (writeLaneEnable value s) := by
  let rest (a : State) : State := { a with lanes := s.lanes, reductions := s.reductions, link := s.link }
  have same : rest (writeLaneEnable value s) = s := by
    rw [writeLaneEnable_of_noEntry h, abandoned_keeps rest (fun _ _ => rfl)]
    exact switchLanes_keeps rest (fun _ _ _ => rfl) _ _ s
  refine ⟨(congrArg State.pending same).symm, fun x hx => ?_⟩
  have kept (a : State) : x.Same (rest a) a := by
    cases x with
    | lanes | reductions | link => exact absurd (by decide) hx
    | _ => rfl
  have keptHere := kept (writeLaneEnable value s)
  rwa [same] at keptHere

end

theorem clampMask_toNat (value : Word) : (clampMask value).toNat = min 15 value.toNat := by
  simp only [clampMask, BitVec.toNat_ofNat]
  omega

/-- With no entry outstanding a LANE_RESET is the port's and the reduction's alone. -/
theorem resetLane_of_noEntry {s : State} (h : s.entries = []) (n : LaneId) : resetLane n s = { s with
    lanes := s.lanes.set n { Lane.reset with
      state := if s.link.laneEnable.getLsbD n.val then .training else .disabled }
    reductions := s.reductions.set n none } :=
  loseLanes_one (s := s.modifyLane n (fun l => l.resetTo (s.link.laneEnable.getLsbD n.val))) h n .laneReset

theorem exec_laneReset_becomes {s : State} (hs : s.TakesFrames) (dt : Nat) (seq lane : Byte) :
    let after := match laneOf lane.toNat with
      | none => replyRefusal seq .badRequest (elapse dt s)
      | some n => replyOk seq [] (resetLane n (elapse dt s))
    (passTriggered (elapse dt s) after = false ∨ after.waiting = []) →
      Becomes (exec (.laneReset dt seq lane) s) after :=
  takeArbitrated_takeFrame_becomes hs dt (fun a => match laneOf lane.toNat with
    | none => replyRefusal seq .badRequest a
    | some n => replyOk seq [] (resetLane n a))

/-- Settles O17: without entries nothing is fixed, so that the ports, their reductions and the answer are the whole
effect. -/
theorem lanePortsAreSwitchedAndReset : Obligations.LanePortsAreSwitchedAndReset := by
  unfold Obligations.LanePortsAreSwitchedAndReset
  intro dt seq s hs he u
  have entries : u.entries = [] := (elapse_entries dt s).trans he
  have enabled : u.link.laneEnable = s.link.laneEnable := elapse_laneEnable dt s
  refine ⟨fun value => ?_, fun lane hlane => ?_, fun lane n hlane => ?_⟩
  · let t := replyOk seq (be32 ((writeLaneEnable value u).setting .laneEnable)) (writeLaneEnable value u)
    have same := writeLaneEnable_sameBut entries value
    have quiet : (writeLaneEnable value u).entries = [] := (same.2 .entries (by decide)).symm.trans entries
    have becomes := takeArbitrated_takeFrame_becomes hs dt
      (fun a => replyOk seq (be32 ((writeLaneEnable value a).setting .laneEnable)) (writeLaneEnable value a))
      (Or.inr (waiting_of_noEntry quiet))
    refine ⟨t, becomes, ?_, fun n => ⟨?_, ?_⟩, same.withReply (by decide) _⟩
    · have link := writeLaneEnable_link entries value
      have value : (writeLaneEnable value u).setting .laneEnable = min 15 value.toNat := by
        simp only [State.setting, link, clampMask_toNat]
      simp only [t, value, replyOk, enterReply, link, u, elapse_replies]
      rfl
    · refine (writeLaneEnable_lane entries value n).trans ?_
      rw [enabled]
      rfl
    · refine (writeLaneEnable_reduction entries value n).trans ?_
      rw [enabled]
      rfl
  · have unknown : laneOf lane.toNat = none := dif_neg (by omega)
    have becomes := exec_laneReset_becomes hs dt seq lane (Or.inr (waiting_of_noEntry (by rw [unknown]; exact entries)))
    rwa [unknown] at becomes
  · have known : laneOf lane.toNat = some n := laneOf_eq_some.mpr hlane.symm
    have reset := resetLane_of_noEntry entries n
    have quiet : (resetLane n u).entries = [] := by rw [reset]; exact entries
    have becomes := exec_laneReset_becomes hs dt seq lane (Or.inr (waiting_of_noEntry (by rw [known]; exact quiet)))
    rw [known] at becomes
    dsimp only at becomes
    rwa [reset, enabled] at becomes

end Sys2Proof.Machine
end


section
/-! SUPPORT. The end of an event is settled once; the events of the frequency-locking loop and the wrap; the resets
(R51, R139, R147, R149, R163, R174, R175, R177). -/

namespace Sys2Proof.Machine

/-! ### A settled part (R163, R177) -/

/-- The ATTN notice is to become ready (R177). -/
def State.noticeDue (s : State) : Bool := s.events.notifiable && !s.events.latch && !s.events.notice

theorem raiseNotice_of_notDue {s : State} (h : s.noticeDue = false) : raiseNotice s = s :=
  if_neg (Bool.eq_false_iff.mp h)

theorem noticeDue_raiseNotice (s : State) : (raiseNotice s).noticeDue = false := by
  cases h : s.noticeDue with
  | false => rwa [raiseNotice_of_notDue h]
  | true =>
    rw [show raiseNotice s = { s with events := { s.events with notice := true } } from if_pos h]
    simp [State.noticeDue]

/-- The transmitter either stays idle, for want of a ready frame, or is busy. -/
theorem chooseFrame_idle_or_busy (s : State) : chooseFrame s = s ∨ (chooseFrame s).link.transmitting ≠ none := by
  unfold chooseFrame
  split
  · exact Or.inr (Option.some_ne_none _)
  · split
    · exact Or.inr (Option.some_ne_none _)
    · split
      · exact Or.inr (Option.some_ne_none _)
      · split
        · exact Or.inr (Option.some_ne_none _)
        · exact Or.inl rfl

/-- The frame that begins leaves no notice to raise: an ATTN sets the latch, and another frame leaves the events. -/
theorem noticeDue_chooseFrame {s : State} (h : s.noticeDue = false) : (chooseFrame s).noticeDue = false := by
  unfold chooseFrame
  split
  · exact h
  · split
    · simp [State.noticeDue, startAttn, transmit]
    · split
      · exact h
      · split <;> exact h

theorem upstreamChoice_of_busy {s : State} (h : s.link.transmitting ≠ none) : upstreamChoice s = s := by
  obtain ⟨f, hf⟩ := Option.ne_none_iff_exists'.mp h
  simp [upstreamChoice, hf]

theorem upstreamChoice_upstreamChoice (s : State) : upstreamChoice (upstreamChoice s) = upstreamChoice s := by
  by_cases hlow : s.resetLow = true
  · simp [upstreamChoice, hlow]
  · by_cases hbusy : s.link.transmitting = none
    · have chosen : upstreamChoice s = chooseFrame s := by simp [upstreamChoice, hlow, hbusy]
      rw [chosen]
      rcases chooseFrame_idle_or_busy s with idle | busy
      · rw [idle, chosen, idle]
      · exact upstreamChoice_of_busy busy
    · rw [upstreamChoice_of_busy hbusy, upstreamChoice_of_busy hbusy]

theorem noticeDue_upstreamChoice {s : State} (h : s.noticeDue = false) : (upstreamChoice s).noticeDue = false := by
  unfold upstreamChoice
  split
  · exact h
  · split
    · exact h
    · exact noticeDue_chooseFrame h

/-- A part that has ended an event has nothing more to end. -/
theorem conclude_conclude (s : State) : conclude (conclude s) = conclude s := by
  have settled : raiseNotice (conclude s) = conclude s :=
    raiseNotice_of_notDue (noticeDue_upstreamChoice (noticeDue_raiseNotice s))
  rw [conclude, settled]
  exact upstreamChoice_upstreamChoice _

/-! ### The wrap of the microsecond counter (R147) -/

theorem Timebase.wrapsIn_eq (t : Timebase) (n : Nat) :
    t.wrapsIn n = (t.microseconds.toNat + (t.microFraction + n) / 100) / 4294967296 := rfl

theorem Timebase.ticksToWrap_eq (t : Timebase) :
    t.ticksToWrap = (4294967296 - t.microseconds.toNat) * 100 - t.microFraction := rfl

theorem Timebase.elapse_microseconds (t : Timebase) (n : Nat) :
    (t.elapse n).microseconds = t.microseconds + BitVec.ofNat 32 ((t.microFraction + n) / 100) := rfl

theorem Timebase.elapse_microFraction (t : Timebase) (n : Nat) :
    (t.elapse n).microFraction = (t.microFraction + n) % 100 := rfl

theorem Timebase.elapse_microseconds_toNat (t : Timebase) (n : Nat) : (t.elapse n).microseconds.toNat
    = (t.microseconds.toNat + (t.microFraction + n) / 100) % 4294967296 := by
  rw [Timebase.elapse_microseconds, BitVec.toNat_add, BitVec.toNat_ofNat, Nat.add_mod_mod]

/-- A fraction short of a microsecond: a span reaches a wrap when it is as long as the ticks to the wrap. -/
theorem Timebase.wrapsIn_eq_zero_iff {t : Timebase} (h : t.microFraction < 100) {n : Nat} :
    t.wrapsIn n = 0 ↔ n < t.ticksToWrap := by
  have bound := t.microseconds.isLt
  rw [t.wrapsIn_eq, t.ticksToWrap_eq]
  omega

/-- A span short of the wrap brings the wrap nearer by its ticks. -/
theorem Timebase.ticksToWrap_elapse {t : Timebase} {a : Nat} (h : t.wrapsIn a = 0) :
    a + (t.elapse a).ticksToWrap = t.ticksToWrap := by
  have bound := t.microseconds.isLt
  rw [t.wrapsIn_eq] at h
  rw [Timebase.ticksToWrap_eq, Timebase.ticksToWrap_eq, Timebase.elapse_microseconds_toNat,
    Timebase.elapse_microFraction]
  omega

/-- Behind a span short of the wrap, the rest of a span reaches the wraps of the whole. -/
theorem Timebase.wrapsIn_elapse {t : Timebase} {a : Nat} (h : t.wrapsIn a = 0) (b : Nat) :
    (t.elapse a).wrapsIn b = t.wrapsIn (a + b) := by
  rw [t.wrapsIn_eq] at h
  rw [Timebase.wrapsIn_eq, Timebase.wrapsIn_eq, Timebase.elapse_microseconds_toNat, Timebase.elapse_microFraction]
  omega

/-- Behind the first wrap of a span fewer wraps are left. -/
theorem Timebase.wrapsIn_after_wrap {t : Timebase} {n : Nat} (h : t.wrapsIn n ≠ 0) :
    (t.elapse t.ticksToWrap).wrapsIn (n - t.ticksToWrap) < t.wrapsIn n := by
  have reached := Timebase.ticksToWrap_le h
  have bound := t.microseconds.isLt
  rw [t.wrapsIn_eq] at h
  rw [Timebase.wrapsIn_eq, Timebase.wrapsIn_eq, Timebase.elapse_microseconds_toNat, Timebase.elapse_microFraction]
  rw [t.ticksToWrap_eq] at reached ⊢
  omega

/-- A longer span reaches as many wraps. -/
theorem Timebase.wrapsIn_mono (t : Timebase) {m n : Nat} (h : m ≤ n) : t.wrapsIn m ≤ t.wrapsIn n := by
  rw [t.wrapsIn_eq, t.wrapsIn_eq]
  omega

@[simp] theorem wrapAfter_tb (n : Nat) (s : State) : (wrapAfter n s).tb = s.tb.elapse n := by
  simp [wrapAfter, runClocks]

/-- The wraps of a span are all the fuel that it needs. -/
theorem elapseFrom_of_le {k n : Nat} {s : State} (h : s.tb.wrapsIn n ≤ k) : elapseFrom k n s = elapse n s := by
  induction k using Nat.strong_induction_on generalizing n s with
  | h k ih =>
    cases k with
    | zero => rw [elapse, Nat.le_zero.mp h]
    | succ k =>
      by_cases none : s.tb.wrapsIn n = 0
      · rw [elapse_of_no_wrap none, elapseFrom, if_pos none]
      · have fewer := Timebase.wrapsIn_after_wrap none
        rw [← wrapAfter_tb] at fewer
        obtain ⟨j, hj⟩ := Nat.exists_eq_succ_of_ne_zero none
        rw [elapse, hj, elapseFrom, elapseFrom, if_neg none, if_neg none, ih k (by omega) (by omega)]
        by_cases same : j = k
        · rw [same, ih k (by omega) (by omega)]
        · rw [ih j (by omega) (by omega)]

/-- A span with a wrap runs to the wrap, takes it, and goes on (R147). -/
theorem elapse_of_wrap {n : Nat} {s : State} (h : s.tb.wrapsIn n ≠ 0) :
    elapse n s = elapse (n - s.tb.ticksToWrap) (wrapAfter s.tb.ticksToWrap s) := by
  have fewer := Timebase.wrapsIn_after_wrap h
  rw [← wrapAfter_tb] at fewer
  obtain ⟨j, hj⟩ := Nat.exists_eq_succ_of_ne_zero h
  rw [elapse, hj, elapseFrom, if_neg h, elapseFrom_of_le (by omega)]

theorem wrapAfter_runClocks (a b : Nat) (s : State) : wrapAfter b (runClocks a s) = wrapAfter (a + b) s := by
  rw [wrapAfter, runClocks_runClocks, wrapAfter]

/-- The clocks' own items tell whether no ticks leave a state as it is. -/
theorem runClocks_zero_of_clocks {a b : State} (h : runClocks 0 a = a) (tb : b.tb = a.tb) (gens : b.gens = a.gens)
    (lanes : b.lanes = a.lanes) (reductions : b.reductions = a.reductions) : runClocks 0 b = b :=
  calc runClocks 0 b = { b with
        tb := (runClocks 0 a).tb
        gens := (runClocks 0 a).gens
        lanes := (runClocks 0 a).lanes
        reductions := (runClocks 0 a).reductions } := by
        simp only [runClocks, tb, gens, lanes, reductions]
    _ = b := by rw [h, ← tb, ← gens, ← lanes, ← reductions]

/-- No ticks behind a wrap leave it as it is: the clocks' fractions stand in their ranges. -/
theorem runClocks_wrapAfter_zero (n : Nat) (s : State) : runClocks 0 (wrapAfter n s) = wrapAfter n s :=
  runClocks_zero_of_clocks (runClocks_runClocks n 0 s) (by simp [wrapAfter]) (by simp [wrapAfter]) (by simp [wrapAfter])
    (by simp [wrapAfter])

/-- Time is additive (R147). -/
theorem elapse_elapse (a b : Nat) (s : State) : elapse b (elapse a s) = elapse (a + b) s := by
  induction k : s.tb.wrapsIn a using Nat.strong_induction_on generalizing a s with
  | h k ih =>
    by_cases first : s.tb.wrapsIn a = 0
    · have ahead := Timebase.wrapsIn_elapse first b
      have nearer := Timebase.ticksToWrap_elapse first
      rw [elapse_of_no_wrap first]
      by_cases second : s.tb.wrapsIn (a + b) = 0
      · rw [elapse_of_no_wrap second, elapse_of_no_wrap (s := runClocks a s) (ahead.trans second), runClocks_runClocks]
      · rw [elapse_of_wrap second, elapse_of_wrap (s := runClocks a s) (ahead.trans_ne second), wrapAfter_runClocks]
        have ticks : (runClocks a s).tb.ticksToWrap = (s.tb.elapse a).ticksToWrap := rfl
        rw [ticks, nearer, ← nearer, Nat.add_sub_add_left]
    · have both : s.tb.wrapsIn (a + b) ≠ 0 := by
        have more := s.tb.wrapsIn_mono (Nat.le_add_right a b)
        omega
      have fewer := Timebase.wrapsIn_after_wrap first
      rw [← wrapAfter_tb] at fewer
      rw [elapse_of_wrap first, elapse_of_wrap both, ih _ (k ▸ fewer) _ _ rfl,
        Nat.sub_add_comm (Timebase.ticksToWrap_le first)]

/-- The ticks to the wrap bring the clocks to it, and its event (R147). -/
theorem elapse_ticksToWrap {s : State} (h : s.tb.microFraction < 100) :
    elapse s.tb.ticksToWrap s = conclude (postEvent .timeWrap 0 (runClocks s.tb.ticksToWrap s)) := by
  have reached : s.tb.wrapsIn s.tb.ticksToWrap ≠ 0 := fun k =>
    absurd ((Timebase.wrapsIn_eq_zero_iff h).mp k) (lt_irrefl _)
  have beyond : (wrapAfter s.tb.ticksToWrap s).tb.wrapsIn 0 = 0 := by
    rw [wrapAfter_tb, Timebase.wrapsIn_eq, Timebase.elapse_microseconds_toNat, Timebase.elapse_microFraction]
    omega
  rw [elapse_of_wrap reached, Nat.sub_self, elapse_of_no_wrap beyond, runClocks_wrapAfter_zero, wrapAfter]

/-! ### The events of the loop (R149) -/

/-- What the end of a switch comes to: a pass of the arbiter where one was pending, which serves no one where no entry
waits (R139). -/
theorem takeArbitrated_endsSwitch {s a : State} (hlow : s.resetLow = false) {dt : Nat} {f : State → State}
    (effect : f (elapse dt s) = a) (ended : a.tb.pendingSwitch = none) (waits : a.waiting = s.waiting) :
    (s.tb.pendingSwitch ≠ none → Becomes (takeArbitrated dt f s) (arbiterPass a))
      ∧ (s.waiting = [] → Becomes (takeArbitrated dt f s) a) := by
  subst effect
  refine ⟨fun pending => ?_, fun idle => ?_⟩
  · exact takeArbitrated_passes hlow dt f (passTriggered_of_switch_ends (by simpa using pending) ended)
  · exact takeArbitrated_becomes_of_idle hlow dt f (Or.inr (waits.trans idle))

/-- A switch is abandoned, which ends it (R149). -/
theorem takeArbitrated_abandons {s : State} (hlow : s.resetLow = false) {dt p : Nat} {f : State → State}
    (effect : f (elapse dt s) = abandonSwitch p (elapse dt s)) :
    (s.tb.pendingSwitch ≠ none → Becomes (takeArbitrated dt f s) (arbiterPass (abandonSwitch p (elapse dt s))))
      ∧ (s.waiting = [] → Becomes (takeArbitrated dt f s) (abandonSwitch p (elapse dt s))) :=
  takeArbitrated_endsSwitch hlow effect (by simp [abandonSwitch]) (by simp [abandonSwitch, State.waiting])

theorem switchedTo_waiting (s : State) (p : Source) : (s.switchedTo p).waiting = s.waiting := by
  simp [State.switchedTo, State.waiting]

theorem lockLoop_of_locking {s : State} (h : s.tb.loop = .locking) :
    lockLoop s = checkSwitch { s with tb := { s.tb with loop := .locked } } := if_pos h

/-- Settles O50: what the loop's events leave, and the arbiter's pass where they end a switch. -/
theorem timebaseEvents : Obligations.TimebaseEvents := by
  unfold Obligations.TimebaseEvents
  intro dt s hlow u tb left ends
  have loop : u.tb.loop = s.tb.loop := by simp [u]
  have pending : u.tb.pendingSwitch = s.tb.pendingSwitch := by simp [u]
  have users : u.noUsers = s.noUsers := by simp [u]
  let locked := tb { u.tb with loop := .locked }
  refine ⟨fun hlocking hswitch => ⟨fun hblocked => ?_, fun href hfree => ?_⟩, fun hoff => ?_, fun hlocking htimer => ?_,
    fun hearly => ?_, fun hlocked href => ?_, fun hnone => ?_, fun hfraction => ⟨fun hwrap => ?_, fun hshort => ?_⟩⟩
  · have stands : checkSwitch locked = locked := by
      rcases hblocked with none | busy
      · exact checkSwitch_of_calm (pending.trans none)
      · refine checkSwitch_of_blocked fun h => Bool.false_ne_true (busy.symm.trans (users.symm.trans ?_))
        exact noUsers_iff.mpr h.2
    have effect : lockLoop u = locked := (lockLoop_of_locking (loop.trans hlocking)).trans stands
    have calm : passTriggered u (lockLoop u) = false :=
      effect.symm ▸ passTriggered_of_same rfl (fun _ => rfl) (fun _ => rfl) rfl
    have becomes := takeArbitrated_becomes hlow dt lockLoop calm
    rwa [show lockLoop (elapse dt s) = locked from effect] at becomes
  · have effect : lockLoop u = locked.switchedTo .reference :=
      (lockLoop_of_locking (loop.trans hlocking)).trans
        ((checkSwitch_of_pending (s := locked) (pending.trans href)).trans (if_pos ⟨Or.inr rfl, users.trans hfree⟩))
    exact takeArbitrated_endsSwitch hlow effect (switchedTo_pendingSwitch locked _)
      ((switchedTo_waiting locked _).trans (elapse_waiting dt s))
  · exact takeArbitrated_unchanged hlow (if_neg (loop.trans_ne hoff))
  · exact takeArbitrated_abandons hlow (if_pos ⟨loop.trans hlocking, htimer.ge⟩)
  · refine takeArbitrated_unchanged hlow (if_neg fun h => ?_)
    rcases hearly with hoff | hearly
    · exact hoff (loop.symm.trans h.1)
    · exact absurd h.2 (not_le.mpr hearly)
  · exact takeArbitrated_abandons hlow (if_pos ⟨loop.trans hlocked, pending.trans href⟩)
  · refine takeArbitrated_unchanged hlow (if_neg fun h => ?_)
    exact hnone.elim (fun k => k (loop.symm.trans h.1)) (fun k => k (pending.symm.trans h.2))
  · have wrapped : elapse dt s = conclude (postEvent .timeWrap 0 (runClocks dt s)) := by
      rw [hwrap]
      exact elapse_ticksToWrap hfraction
    refine (takeEvent_becomes hlow dt id).trans ?_
    rw [id, wrapped, conclude_conclude]
  · have calm : elapse dt s = runClocks dt s := elapse_of_no_wrap ((Timebase.wrapsIn_eq_zero_iff hfraction).mpr hshort)
    exact calm ▸ takeEvent_becomes hlow dt id

/-! ### The resets (R174, R175) -/

/-- A reset leaves the power-on values, POWER_UP, and the ATTN that it calls for already in transmission. -/
theorem powerUp_eq_resetWith (cause : ResetCause) (s : State) :
    powerUp cause false s = resetWith cause.number s.pending := rfl

theorem conclude_powerUp (cause : ResetCause) (low : Bool) (s : State) :
    conclude (powerUp cause low s) = powerUp cause low s := conclude_conclude _

/-- A wrap in a LINK_RESET's REPLY leaves it in transmission. -/
theorem sendingLinkReset_elapse {s : State} (h : s.sendingLinkReset = true) (dt : Nat) :
    (elapse dt s).sendingLinkReset = true := by
  have busy : s.link.transmitting ≠ none := fun idle => by simp [State.sendingLinkReset, idle] at h
  have link := ((elapse_wrapsOnly dt s).busy busy).2
  rwa [State.sendingLinkReset, ← link]

/-- The event that ends a LINK_RESET's REPLY is the reset. -/
theorem takeEvent_linkReset {s : State} (hlow : s.resetLow = false) {dt : Nat} {f : State → State}
    (effect : f (elapse dt s) = powerUp .link false (elapse dt s)) :
    takeEvent dt f s = .next (resetWith 2 s.pending) := by
  refine (takeEvent_becomes hlow dt f).trans ?_
  rw [effect, conclude_powerUp, powerUp_eq_resetWith, elapse_pending]
  rfl

/-- With every frame answered there is no GROUP to answer (R112). -/
theorem answerAllGroups_of_answered {s : State} (h : s.NoWaitingGroup) (flag : Nat → Bool) :
    answerAllGroups flag s = s := by
  have kept : (answerAllGroups flag s).link.replies = s.link.replies := by
    refine (List.map_congr_left fun r hr => ?_).trans (List.map_id _)
    obtain ⟨code, data, given⟩ := h r hr
    rw [given]
    rfl
  exact congrArg (fun replies => { s with link := { s.link with replies := replies } }) kept

/-- Settles O4: a reset is one state for each cause, whichever event brings it. -/
theorem resetEvents : Obligations.ResetEvents := by
  unfold Obligations.ResetEvents
  intro dt s u
  refine ⟨fun hlow => ?_, fun hlow => ?_, fun hlow hsending => ?_, fun hlow hidle => ?_, fun hlow => ?_,
    fun seq hs hgroups => ?_⟩
  · exact congrArg Host.Outcome.next ((congrArg (powerUp .power · s) hlow).trans (powerUp_eq_resetWith .power s))
  · exact congrArg Host.Outcome.next ((if_pos hlow).trans (powerUp_eq_resetWith .pin s))
  · have sending := sendingLinkReset_elapse hsending dt
    exact ⟨takeEvent_linkReset hlow (if_pos sending), takeEvent_linkReset hlow (if_pos sending)⟩
  · have effect : (if u.sendingLinkReset then powerUp .link false u else u) = u := if_neg (Bool.eq_false_iff.mp hidle)
    exact (takeEvent_becomes hlow dt _).trans (congrArg (Host.Outcome.next ∘ conclude) effect)
  · exact congrArg Host.Outcome.next (if_neg (Bool.eq_false_iff.mp hlow))
  · intro entered
    have answered : u.NoWaitingGroup := fun r hr => hgroups r (elapse_replies dt s ▸ hr)
    have becomes := takeEvent_takeFrame_becomes hs dt (fun a =>
      { answerAllGroups a.incompleteFlag a with link := { (answerAllGroups a.incompleteFlag a).link with
        receiving := false
        replies := (answerAllGroups a.incompleteFlag a).link.replies ++ [entered] } })
    rwa [answerAllGroups_of_answered answered, elapse_replies] at becomes

end Sys2Proof.Machine
end


section
/-! SUPPORT. What a span of ticks brings to each clock (R52, R63, R143, R145, R147, R149). -/

namespace Sys2Proof.Machine

/-! ### The settling of a generator (R143, R145) -/

/-- The cycles that end in a span are the ticks of the span that end one. -/
theorem Generator.cyclesEnding_eq_count {g : Generator} {o now : Nat} (ho : g.origin = some o) (hle : o ≤ now)
    (n : Nat) : g.cyclesEnding now n
      = ((List.range n).filter (fun k => decide ((now + k + 1 - o) % (2 * g.latchDivider) = 0))).length := by
  induction n with
  | zero => simp [Generator.cyclesEnding, ho]
  | succ n ih =>
    have last : g.cyclesEnding (now + n) 1 = if (now + n + 1 - o) % (2 * g.latchDivider) = 0 then 1 else 0 := by
      simp only [Generator.cyclesEnding, ho, Nat.succ_sub (Nat.le_add_right_of_le hle : o ≤ now + n),
        Nat.succ_eq_add_one, Nat.succ_div, Nat.dvd_iff_mod_eq_zero]
      omega
    rw [← g.cyclesEnding_add, ih, last, List.range_succ, List.filter_append, List.length_append]
    congr 1
    by_cases h : (now + n + 1 - o) % (2 * g.latchDivider) = 0 <;> simp [h]

section
variable {g : Generator} (retuning : g.state = .retuning) (settling : g.settling = true) (now n : Nat)
include retuning settling

/-- A cycle that ends takes one from settle remaining (R143). -/
theorem Generator.elapse_settling_cycles (h : g.restart = false ∨ g.cyclesEnding now n = 0) :
    g.elapse now n = { g with settleRemaining := g.settleRemaining - g.cyclesEnding now n } := by
  rw [Generator.elapse, if_pos ⟨retuning, settling⟩]
  refine if_neg fun k => ?_
  rcases h with calm | none
  · exact Bool.false_ne_true (calm.symm.trans k.1)
  · omega

/-- The first cycle that ends after a change of source starts the count again (R145). -/
theorem Generator.elapse_settling_restarts (h : g.restart = true) (ends : 0 < g.cyclesEnding now n) :
    g.elapse now n
      = { g with settleRemaining := g.latchSettle - (g.cyclesEnding now n - 1), restart := false } := by
  rw [Generator.elapse, if_pos ⟨retuning, settling⟩]
  exact if_pos ⟨h, ends⟩

end

theorem Generator.elapse_idle {g : Generator} (h : g.state ≠ .retuning ∨ g.settling = false ∨ g.origin = none)
    (now n : Nat) : g.elapse now n = g := by
  by_cases hs : g.state = .retuning ∧ g.settling = true
  · obtain ⟨retuning, settling⟩ := hs
    have rest : g.origin = none :=
      (h.resolve_left (not_not.mpr retuning)).resolve_left (Bool.eq_false_iff.not.mpr (not_not.mpr settling))
    have ends : g.cyclesEnding now n = 0 := by rw [Generator.cyclesEnding, rest]
    rw [Generator.elapse_settling_cycles retuning settling _ _ (Or.inr ends), ends]
    rfl
  · exact if_neg hs

/-! ### The pairs of a reduction (R63) -/

theorem Reduction.takePairs_burst (k : Nat) (r : Reduction) : (r.takePairs k).burst = r.burst.drop k := by
  induction k generalizing r with
  | zero => rfl
  | succ k ih =>
    cases h : r.burst with
    | nil => simp [Reduction.takePairs, h]
    | cons p rest => simp only [Reduction.takePairs, h, ih, List.drop_succ_cons]

theorem Lane.elapse_eq (n : Nat) (l : Lane) : l.elapse n
    = { l with silence := if l.state = .up then min 16384 (l.silence + n) else l.silence } := by
  unfold Lane.elapse
  split <;> rfl

/-- The ticks to the wrap bring the microsecond counter to 0 (R147). -/
theorem Timebase.elapse_ticksToWrap_microseconds {t : Timebase} (h : t.microFraction < 100) :
    (t.elapse t.ticksToWrap).microseconds = 0 := by
  have bound := t.microseconds.isLt
  refine BitVec.eq_of_toNat_eq ((t.elapse_microseconds_toNat _).trans ?_)
  rw [t.ticksToWrap_eq]
  change _ = 0
  omega

/-- Settles O9: the clocks are additive, and with them the wraps; what a span brings is each clock's own count. -/
theorem timeIsAdditive : Obligations.TimeIsAdditive := by
  unfold Obligations.TimeIsAdditive
  refine ⟨elapse_elapse, fun n s hfraction => ?_, fun n s => ?_⟩
  · intro u micros left
    have tb : u.tb = s.tb.elapse n := elapse_tb n s
    refine ⟨congrArg Timebase.microseconds tb, congrArg Timebase.microFraction tb, congrArg Timebase.seconds tb,
      congrArg Timebase.secondFraction tb, fun hshort => ?_, fun hwrap => ⟨?_, ?_⟩⟩
    · exact elapse_of_no_wrap ((Timebase.wrapsIn_eq_zero_iff hfraction).mpr hshort)
    · rw [tb, show n = s.tb.ticksToWrap from hwrap]
      exact Timebase.elapse_ticksToWrap_microseconds hfraction
    · have ticks : n = s.tb.ticksToWrap := hwrap
      rw [ticks]
      exact ticks ▸ elapse_ticksToWrap hfraction
  · intro u locking micros
    have gen : ∀ g, u.gen g = (s.gen g).elapse s.tb.ticks n := fun g => PerGen.get_map ..
    refine ⟨rfl, fun m => ?_, fun g => ⟨fun h => ?_, fun o hretuning hsettling ho hle => ?_⟩, fun m => ⟨fun h => ?_,
      fun r h => ⟨r.takePairs n, ?_, r.takePairs_burst n, r.takeAll_takePairs n⟩⟩, ⟨rfl, fun x hx => ?_⟩⟩
    · exact (PerLane.get_map ..).trans ((s.lane m).elapse_eq n)
    · exact (gen g).trans (Generator.elapse_idle h ..)
    · intro ended
      have count : (s.gen g).cyclesEnding s.tb.ticks n = ended := Generator.cyclesEnding_eq_count ho hle n
      refine ⟨fun hcalm => ?_, fun hrestart hnone => ?_, fun hrestart hends => ?_⟩
      · rw [gen, Generator.elapse_settling_cycles hretuning hsettling _ _ (Or.inl hcalm), count]
      · rw [gen, Generator.elapse_settling_cycles hretuning hsettling _ _ (Or.inr (count.trans hnone)), count, hnone]
        rfl
      · rw [gen, Generator.elapse_settling_restarts hretuning hsettling _ _ hrestart (count.symm ▸ hends), count]
    · exact (PerLane.get_map ..).trans (congrArg _ h)
    · exact (PerLane.get_map ..).trans (congrArg _ h)
    · cases x with
      | tb | lanes | gens | reductions => exact absurd (by decide) hx
      | _ => rfl

end Sys2Proof.Machine
end


section
/-! SUPPORT. Frames read back: the envelopes of both links with their CRC-32, and the fields of REPORT, RAW and ORDER
payloads (R55, R162, R164, R166, R179). -/

namespace Sys2Proof.Machine

/-! ### A field of a run in two parts -/

theorem fieldAt_append_right {front : List Byte} {m : Nat} (h : front.length = m) (bs : List Byte) (k n : Nat) :
    fieldAt (front ++ bs) (m + k) n = fieldAt bs k n := by
  rw [fieldAt, ← h, List.drop_length_add_append, fieldAt]

/-- A CRC-32 is read back from behind the bytes it stands for, whatever follows. -/
theorem fieldAt_crc {body : List Byte} {m : Nat} (h : body.length = m) (crc : Word) (tail : List Byte) :
    fieldAt (body ++ (be32 crc.toNat ++ tail)) m 4 = crc.toNat := by
  have spelled : fieldAt (be32 crc.toNat ++ tail) 0 4 = crc.toNat :=
    (fieldAt_be32 _ tail).trans (Nat.mod_eq_of_lt crc.isLt)
  exact (fieldAt_append_right h _ 0 4).trans spelled

@[simp] theorem be16_length (x : Nat) : (be16 x).length = 2 := rfl
@[simp] theorem be32_length (x : Nat) : (be32 x).length = 4 := rfl
@[simp] theorem byte_toNat_self (b : Byte) : byte b.toNat = b := by simp [byte]

/-! ### Frames of the Controller Link (R164) -/

/-- What the CRC-32 of a link frame stands for: kind, sequence, length and payload. -/
def LinkFrame.body (f : LinkFrame) : List Byte := f.kind :: f.seq :: (be16 f.payload.length ++ f.payload)

theorem linkFrameBytes_eq (f : LinkFrame) : linkFrameBytes f = f.body ++ be32 (crc32 f.body).toNat := rfl

theorem LinkFrame.body_length (f : LinkFrame) : f.body.length = f.payload.length + 4 := by
  simp [LinkFrame.body]
  omega

theorem linkFrameBytes_length (f : LinkFrame) : (linkFrameBytes f).length = f.payload.length + 8 := by
  simp [linkFrameBytes_eq, f.body_length]

/-- A frame that the receiver keeps. -/
theorem receiveLink_good {bs : List Byte} {len : Nat} (hlen : fieldAt bs 2 2 = len) (short : len ≤ 1024)
    (whole : len + 8 ≤ bs.length) (crc : fieldAt bs (len + 4) 4 = (crc32 (bs.take (len + 4))).toNat) :
    receiveLink bs
      = some { kind := byte (fieldAt bs 0 1), seq := byte (fieldAt bs 1 1), payload := (bs.drop 4).take len } := by
  subst hlen
  unfold receiveLink
  rw [if_neg (by omega), if_neg (not_lt.mpr (by exact short)), if_neg (not_lt.mpr whole), if_pos crc]

theorem receiveLink_eq_none_iff (bs : List Byte) : receiveLink bs = none ↔
    bs.length < 4 ∨ 1024 < fieldAt bs 2 2 ∨ bs.length < fieldAt bs 2 2 + 8
      ∨ fieldAt bs (fieldAt bs 2 2 + 4) 4 ≠ (crc32 (bs.take (fieldAt bs 2 2 + 4))).toNat := by
  by_cases headless : bs.length < 4
  · exact iff_of_true (if_pos headless) (Or.inl headless)
  by_cases long : 1024 < fieldAt bs 2 2
  · exact iff_of_true ((if_neg headless).trans (if_pos long)) (Or.inr (Or.inl long))
  by_cases cut : bs.length < fieldAt bs 2 2 + 8
  · exact iff_of_true ((if_neg headless).trans ((if_neg long).trans (if_pos cut))) (Or.inr (Or.inr (Or.inl cut)))
  by_cases good : fieldAt bs (fieldAt bs 2 2 + 4) 4 = (crc32 (bs.take (fieldAt bs 2 2 + 4))).toNat
  · rw [receiveLink_good rfl (not_lt.mp long) (not_lt.mp cut) good]
    exact iff_of_false (Option.some_ne_none _)
      (not_or.mpr ⟨headless, not_or.mpr ⟨long, not_or.mpr ⟨cut, not_not.mpr good⟩⟩⟩)
  · exact iff_of_true ((if_neg headless).trans ((if_neg long).trans ((if_neg cut).trans (if_neg good))))
      (Or.inr (Or.inr (Or.inr good)))

/-- The receiver reads back what the format spells. -/
theorem receiveLink_linkFrameBytes {f : LinkFrame} (h : f.payload.length ≤ 1024) (tail : List Byte) :
    receiveLink (linkFrameBytes f ++ tail) = some f := by
  have bytes : linkFrameBytes f ++ tail = f.body ++ (be32 (crc32 f.body).toNat ++ tail) := by
    rw [linkFrameBytes_eq, List.append_assoc]
  have front : f.body ++ (be32 (crc32 f.body).toNat ++ tail) = f.kind :: f.seq :: (be16 f.payload.length ++
      (f.payload ++ (be32 (crc32 f.body).toNat ++ tail))) := by
    simp [LinkFrame.body]
  have len : fieldAt (linkFrameBytes f ++ tail) 2 2 = f.payload.length := by
    rw [bytes, front, fieldAt_cons_succ, fieldAt_cons_succ, fieldAt_be16]
    omega
  have whole : f.payload.length + 8 ≤ (linkFrameBytes f ++ tail).length := by
    simp [linkFrameBytes_length]
  have taken : (linkFrameBytes f ++ tail).take (f.payload.length + 4) = f.body := by
    rw [bytes, ← f.body_length, List.take_left]
  rw [receiveLink_good len h whole (by rw [taken, bytes, fieldAt_crc f.body_length])]
  rw [bytes, front]
  simp [fieldAt_zero_one, fieldAt_cons_succ, be16]

/-! ### Frames of a lane (R179) -/

/-- What the CRC-32 of a lane frame stands for: length and payload. -/
def laneFrameBody (payload : List Byte) : List Byte := be16 payload.length ++ payload

theorem laneFrameBytes_eq (payload : List Byte) :
    laneFrameBytes payload = laneFrameBody payload ++ be32 (crc32 (laneFrameBody payload)).toNat := rfl

theorem laneFrameBody_length (payload : List Byte) : (laneFrameBody payload).length = payload.length + 2 := by
  simp [laneFrameBody]
  omega

/-- A lane frame that is neither cut short nor too long. -/
theorem receiveLane_whole {bs : List Byte} {len : Nat} (hlen : fieldAt bs 0 2 = len) (short : len ≤ 16391)
    (whole : len + 6 ≤ bs.length) : receiveLane bs
      = some ((bs.drop 2).take len, fieldAt bs (len + 2) 4 == (crc32 (bs.take (len + 2))).toNat) := by
  subst hlen
  unfold receiveLane
  rw [if_neg (by omega), if_neg (not_lt.mpr (by exact short)), if_neg (not_lt.mpr whole)]

theorem receiveLane_eq_none_iff (bs : List Byte) : receiveLane bs = none ↔
    bs.length < 2 ∨ 16391 < fieldAt bs 0 2 ∨ bs.length < fieldAt bs 0 2 + 6 := by
  by_cases headless : bs.length < 2
  · exact iff_of_true (if_pos headless) (Or.inl headless)
  by_cases long : 16391 < fieldAt bs 0 2
  · exact iff_of_true ((if_neg headless).trans (if_pos long)) (Or.inr (Or.inl long))
  by_cases cut : bs.length < fieldAt bs 0 2 + 6
  · exact iff_of_true ((if_neg headless).trans ((if_neg long).trans (if_pos cut))) (Or.inr (Or.inr cut))
  · rw [receiveLane_whole rfl (not_lt.mp long) (not_lt.mp cut)]
    exact iff_of_false (Option.some_ne_none _) (not_or.mpr ⟨headless, not_or.mpr ⟨long, cut⟩⟩)

theorem receiveLane_laneFrameBytes {payload : List Byte} (h : payload.length ≤ 16391) (tail : List Byte) :
    receiveLane (laneFrameBytes payload ++ tail) = some (payload, true) := by
  have bytes : laneFrameBytes payload ++ tail
      = laneFrameBody payload ++ (be32 (crc32 (laneFrameBody payload)).toNat ++ tail) := by
    rw [laneFrameBytes_eq, List.append_assoc]
  have front : laneFrameBytes payload ++ tail
      = be16 payload.length ++ (payload ++ (be32 (crc32 (laneFrameBody payload)).toNat ++ tail)) := by
    rw [bytes, laneFrameBody, List.append_assoc]
  have len : fieldAt (laneFrameBytes payload ++ tail) 0 2 = payload.length := by
    rw [front, fieldAt_be16]
    omega
  have whole : payload.length + 6 ≤ (laneFrameBytes payload ++ tail).length := by
    simp [laneFrameBytes_eq, laneFrameBody_length]
    omega
  have taken : (laneFrameBytes payload ++ tail).take (payload.length + 2) = laneFrameBody payload := by
    rw [bytes, ← laneFrameBody_length, List.take_left]
  rw [receiveLane_whole len h whole, taken, bytes, fieldAt_crc (laneFrameBody_length payload), ← bytes, front]
  simp [be16]

/-! ### Upstream frames (R163, R164) -/

theorem UpFrame.bytes_length (f : UpFrame) : f.bytes.length = f.payload.length + 8 := linkFrameBytes_length _

/-! ### Payloads (R55, R162, R179) -/

theorem sampleBytes_length (pairs : List Sample) : (sampleBytes pairs).length = 4 * pairs.length := by
  induction pairs with
  | nil => rfl
  | cons p rest ih => simp [sampleBytes, ih]; omega

/-- A pair is read back at its place. -/
theorem fieldAt_sampleBytes {pairs : List Sample} {k : Nat} {x : Sample} (h : pairs[k]? = some x) :
    fieldAt (sampleBytes pairs) (4 * k) 2 = x.v.toNat ∧ fieldAt (sampleBytes pairs) (4 * k + 2) 2 = x.i.toNat := by
  induction pairs generalizing k with
  | nil => simp at h
  | cons p rest ih =>
    rw [sampleBytes, List.append_assoc]
    cases k with
    | zero =>
      obtain rfl : p = x := by simpa using h
      have v := p.v.isLt
      have i := p.i.isLt
      constructor
      · rw [fieldAt_be16, Nat.mod_eq_of_lt v]
      · rw [Nat.mul_zero, fieldAt_be16_add_two, fieldAt_be16, Nat.mod_eq_of_lt i]
    | succ k =>
      have later := ih (k := k) (by simpa using h)
      rw [Nat.mul_succ, show 4 * k + 4 + 2 = 4 * k + 2 + 4 by omega]
      rwa [fieldAt_be16_add_two, fieldAt_be16_add_two, fieldAt_be16_add_two, fieldAt_be16_add_two]

/-- A signed code is read back as two's complement. -/
theorem fieldAt_beInt16 (z : Int) (bs : List Byte) : fieldAt (beInt16 z ++ bs) 0 2 = (z % 65536).toNat := by
  rw [beInt16, fieldAt_be16, BitVec.toNat_ofInt]
  omega

theorem fieldAt_beInt16_add_two (z : Int) (bs : List Byte) (k n : Nat) :
    fieldAt (beInt16 z ++ bs) (k + 2) n = fieldAt bs k n := fieldAt_be16_add_two _ bs k n

theorem reportPayload_eq (r : Report) : reportPayload r
    = byte r.kind.number :: byte (verdictNumber r.verdict) :: byte (causeNumber r.cause)
      :: byte (bitIf r.flags.retried 1 + bitIf r.flags.rangeStepped 2 + bitIf r.flags.saturated 4
          + bitIf r.flags.tbInternal 8 + bitIf r.flags.notLearned 16 + bitIf r.value.isSome 32)
      :: (be16 r.tag.toNat ++ (be16 r.step ++ (byte r.slot :: byte r.exponent :: byte r.attempts :: byte r.finalRange
      :: (be32 r.panel.toNat ++ (be32 (r.value.getD 0) ++ (be16 r.leader.number ++ (be16 0
      ++ be32 r.timestamp.toNat))))))) := rfl

theorem rawPayload_eq (c : RawCopy) : rawPayload c
    = byte c.lane.val :: (be16 c.tag.toNat ++ (byte c.attempt :: byte c.range :: byte 0
      :: (beInt16 c.offset.zv ++ (beInt16 c.offset.zi ++ (be16 c.samples ++ (be16 c.nextPair ++ (be16 (rawFragment c)
      ++ sampleBytes ((c.pairs.drop c.nextPair).take (rawFragment c))))))))) := rfl

theorem orderPayload_eq (o : Order) : orderPayload o
    = byte 1 :: (be16 o.tag.toNat ++ (byte o.attempt :: byte o.range :: (be16 o.samples
      ++ [byte o.stimulus, byte (genNumber o.gen)]))) := rfl

theorem bitIf_le (b : Bool) (w : Nat) : bitIf b w ≤ w := by
  cases b <;> simp [bitIf]

/-- The pairs of a fragment stand behind the 16 bytes of its header. -/
theorem fieldAt_rawPayload_pairs (c : RawCopy) (k n : Nat) : fieldAt (rawPayload c) (16 + k) n
    = fieldAt (sampleBytes ((c.pairs.drop c.nextPair).take (rawFragment c))) k n := by
  rw [rawPayload_eq]
  exact fieldAt_append_right (front := [_, _, _, _, _, _, _, _, _, _, _, _, _, _, _, _]) rfl _ k n

/-- The flags of a report fit their byte. -/
theorem reportFlags_lt (f : ReportFlags) (b : Bool) : bitIf f.retried 1 + bitIf f.rangeStepped 2 + bitIf f.saturated 4
    + bitIf f.tbInternal 8 + bitIf f.notLearned 16 + bitIf b 32 < 256 := by
  have b0 := bitIf_le f.retried 1
  have b1 := bitIf_le f.rangeStepped 2
  have b2 := bitIf_le f.saturated 4
  have b3 := bitIf_le f.tbInternal 8
  have b4 := bitIf_le f.notLearned 16
  have b5 := bitIf_le b 32
  omega

/-- The coded fields of a report (R179). -/
theorem reportPayload_codes (r : Report) : fieldAt (reportPayload r) 0 1 = r.kind.number % 256
    ∧ fieldAt (reportPayload r) 1 1 = verdictNumber r.verdict % 256
    ∧ fieldAt (reportPayload r) 2 1 = causeNumber r.cause % 256
    ∧ fieldAt (reportPayload r) 3 1 = bitIf r.flags.retried 1 + bitIf r.flags.rangeStepped 2 + bitIf r.flags.saturated 4
      + bitIf r.flags.tbInternal 8 + bitIf r.flags.notLearned 16 + bitIf r.value.isSome 32
    ∧ fieldAt (reportPayload r) 16 4 = r.value.getD 0 % 4294967296
    ∧ fieldAt (reportPayload r) 20 2 = r.leader.number % 65536 := by
  have flags := Nat.mod_eq_of_lt (reportFlags_lt r.flags r.value.isSome)
  simp only [reportPayload_eq, fieldAt_cons_succ, fieldAt_zero_one, fieldAt_be16_add_two, fieldAt_be32_add_four,
    fieldAt_be16, fieldAt_be32, byte_toNat, flags, and_self]

/-- The plain fields of a report (R179). -/
theorem reportPayload_numbers (r : Report) : fieldAt (reportPayload r) 4 2 = r.tag.toNat
    ∧ fieldAt (reportPayload r) 6 2 = r.step % 65536 ∧ fieldAt (reportPayload r) 8 1 = r.slot % 256
    ∧ fieldAt (reportPayload r) 9 1 = r.exponent % 256 ∧ fieldAt (reportPayload r) 10 1 = r.attempts % 256
    ∧ fieldAt (reportPayload r) 11 1 = r.finalRange % 256 ∧ fieldAt (reportPayload r) 12 4 = r.panel.toNat
    ∧ fieldAt (reportPayload r) 22 2 = 0 ∧ fieldAt (reportPayload r) 24 4 = r.timestamp.toNat := by
  have tag : r.tag.toNat % 65536 = r.tag.toNat := Nat.mod_eq_of_lt r.tag.isLt
  have panel : r.panel.toNat % 4294967296 = r.panel.toNat := Nat.mod_eq_of_lt r.panel.isLt
  have timestamp : r.timestamp.toNat % 4294967296 = r.timestamp.toNat := Nat.mod_eq_of_lt r.timestamp.isLt
  simp only [reportPayload_eq, fieldAt_cons_succ, fieldAt_zero_one, fieldAt_be16_add_two, fieldAt_be32_add_four,
    fieldAt_be16, fieldAt_be32, fieldAt_be32_alone, byte_toNat, tag, panel, timestamp, Nat.zero_mod, and_self]

/-- The header of a RAW fragment (R162, R179). -/
theorem rawPayload_header (c : RawCopy) : fieldAt (rawPayload c) 0 1 = c.lane.val
    ∧ fieldAt (rawPayload c) 1 2 = c.tag.toNat ∧ fieldAt (rawPayload c) 3 1 = c.attempt % 256
    ∧ fieldAt (rawPayload c) 4 1 = c.range % 256 ∧ fieldAt (rawPayload c) 5 1 = 0
    ∧ fieldAt (rawPayload c) 6 2 = (c.offset.zv % 65536).toNat
    ∧ fieldAt (rawPayload c) 8 2 = (c.offset.zi % 65536).toNat
    ∧ fieldAt (rawPayload c) 10 2 = c.samples % 65536 ∧ fieldAt (rawPayload c) 12 2 = c.nextPair % 65536
    ∧ fieldAt (rawPayload c) 14 2 = rawFragment c := by
  have tag : c.tag.toNat % 65536 = c.tag.toNat := Nat.mod_eq_of_lt c.tag.isLt
  have lane : c.lane.val % 256 = c.lane.val := Nat.mod_eq_of_lt (c.lane.isLt.trans (by decide))
  have count : rawFragment c % 65536 = rawFragment c :=
    Nat.mod_eq_of_lt ((Nat.min_le_left 252 _).trans_lt (by decide))
  simp only [rawPayload_eq, fieldAt_cons_succ, fieldAt_zero_one, fieldAt_be16_add_two, fieldAt_beInt16_add_two,
    fieldAt_be16, fieldAt_beInt16, byte_toNat, tag, lane, count, Nat.zero_mod, and_self]

/-- The pairs of a fragment are its count of them. -/
theorem rawPayload_length {c : RawCopy} (h : c.pairs.length = c.samples) :
    (rawPayload c).length = 16 + 4 * rawFragment c := by
  have pairs : ((c.pairs.drop c.nextPair).take (rawFragment c)).length = rawFragment c := by
    rw [List.length_take, List.length_drop, h]
    exact Nat.min_eq_left (Nat.min_le_right _ _)
  simp only [rawPayload_eq, List.length_cons, List.length_append, be16_length, beInt16, sampleBytes_length, pairs]
  omega

/-- The fields of an ORDER (R179). -/
theorem orderPayload_fields (o : Order) : fieldAt (orderPayload o) 0 1 = 1
    ∧ fieldAt (orderPayload o) 1 2 = o.tag.toNat ∧ fieldAt (orderPayload o) 3 1 = o.attempt % 256
    ∧ fieldAt (orderPayload o) 4 1 = o.range % 256 ∧ fieldAt (orderPayload o) 5 2 = o.samples % 65536
    ∧ fieldAt (orderPayload o) 7 1 = o.stimulus % 256 ∧ fieldAt (orderPayload o) 8 1 = genNumber o.gen % 256 := by
  have tag : o.tag.toNat % 65536 = o.tag.toNat := Nat.mod_eq_of_lt o.tag.isLt
  simp only [orderPayload_eq, fieldAt_cons_succ, fieldAt_zero_one, fieldAt_be16_add_two, fieldAt_be16, byte_toNat, tag,
    Nat.reduceMod, and_self]

theorem genNumber_eq (g : Option GenId) :
    genNumber g % 256 = if g = none then 0 else if g = some 0 then 1 else 2 := by
  cases g with
  | none => rfl
  | some g => fin_cases g <;> rfl

/-- Settles O12: an envelope is read back from its length field and its CRC-32, a payload from the places of its
fields. -/
theorem framesAreReadBack : Obligations.FramesAreReadBack := by
  unfold Obligations.FramesAreReadBack
  refine ⟨fun f tail h => receiveLink_linkFrameBytes h tail, fun payload tail h => receiveLane_laneFrameBytes h tail,
    fun f tail h => ⟨?_, f.bytes_length, fun s hs => ?_⟩, fun f => rfl, fun payload => rfl, receiveLink_eq_none_iff,
    fun received => ⟨receiveLane_eq_none_iff received, fun payload good h => ?_⟩, fun r => ?_, fun c hpairs hnext => ?_,
    fun o => ?_, by decide⟩
  · refine (receiveLink_linkFrameBytes (f := ⟨byte f.kind.number, f.seq, f.payload⟩) h tail).trans ?_
    cases f.kind <;> rfl
  · rw [State.sendingBytes, hs]
  · have kept := (receiveLane_eq_none_iff received).not.mp (h ▸ Option.some_ne_none _)
    rw [not_or, not_or, not_lt, not_lt, not_lt] at kept
    obtain ⟨-, short, whole⟩ := kept
    obtain ⟨rfl, rfl⟩ := Prod.mk.inj (Option.some.inj (h.symm.trans (receiveLane_whole rfl short whole)))
    exact ⟨rfl, beq_iff_eq⟩
  · obtain ⟨kind, verdict, cause, flags, value, leader⟩ := reportPayload_codes r
    obtain ⟨tag, step, slot, exponent, attempts, range, panel, spare, timestamp⟩ := reportPayload_numbers r
    refine ⟨rfl, kind.trans ?_, verdict.trans ?_, cause.trans ?_, flags, tag, step, slot, exponent, attempts, range,
      panel, fun absent => ?_, fun v given => ?_, leader.trans ?_, spare, timestamp⟩
    · cases r.kind <;> rfl
    · rcases r.verdict with _ | v
      · rfl
      · cases v <;> rfl
    · rcases r.cause with _ | v
      · rfl
      · cases v <;> rfl
    · rw [value, absent]
      rfl
    · rw [value, given]
      rfl
    · cases r.leader <;> rfl
  · obtain ⟨lane, tag, attempt, range, spare, zv, zi, samples, next, count⟩ := rawPayload_header c
    refine ⟨rawPayload_length hpairs, lane, tag, attempt, range, spare, zv, zi, samples, next, count,
      fun k x hk hx => ?_⟩
    have place : ((c.pairs.drop c.nextPair).take (rawFragment c))[k]? = some x :=
      (List.getElem?_take_of_lt hk).trans (List.getElem?_drop.trans hx)
    obtain ⟨v, i⟩ := fieldAt_sampleBytes place
    refine ⟨(fieldAt_rawPayload_pairs c _ 2).trans v, ?_⟩
    rw [show 18 + 4 * k = 16 + (4 * k + 2) by omega]
    exact (fieldAt_rawPayload_pairs c _ 2).trans i
  · obtain ⟨kind, tag, attempt, range, samples, stimulus, gen⟩ := orderPayload_fields o
    refine ⟨rfl, kind, tag, attempt, range, samples, stimulus, gen.trans (genNumber_eq o.gen), fun s n h => ?_⟩
    rw [State.orderBytes, h]

end Sys2Proof.Machine
end

section
/-! SUPPORT. Reduction and quantity arithmetic: the sums of a burst in closed form, the integer square root, and the
readings of each method (R61, R62, R66 to R68, R70 to R77). -/

namespace Sys2Proof.Machine

/-! ### The square sums (R62) -/

/-- The square sum of one channel of a burst against an offset. -/
def squareSum (channel : Sample → Half) (z : Int) (pairs : List Sample) : Nat :=
  (pairs.map fun p => ((channel p).toInt - z).natAbs ^ 2).sum

/-- A corrected sample's square is never negative, so that its natural number is the square of its magnitude. -/
theorem toNat_mul_self (x : Int) : (x * x).toNat = x.natAbs ^ 2 := by
  rw [← Int.natAbs_mul_self, Int.toNat_natCast, pow_two]

theorem squareSum_cast (channel : Sample → Half) (z : Int) (pairs : List Sample) :
    (squareSum channel z pairs : Int) = (pairs.map fun p => ((channel p).toInt - z) ^ 2).sum := by
  simp [squareSum, Function.comp_def]

theorem squareSum_perm (channel : Sample → Half) (z : Int) {a b : List Sample} (h : a.Perm b) :
    squareSum channel z a = squareSum channel z b :=
  (h.map _).sum_nat

theorem squareSum_eq_zero_iff (channel : Sample → Half) (z : Int) (pairs : List Sample) :
    squareSum channel z pairs = 0 ↔ ∀ p ∈ pairs, (channel p).toInt = z := by
  simp [squareSum, List.sum_eq_zero_iff_forall_eq_nat, sub_eq_zero]

/-- A 16-bit code is at most 32,768 + 4,096 = 36,864 away from an offset in range (R15). -/
theorem natAbs_code_sub_le (code : Half) {z : Int} (hz : z.natAbs ≤ 4096) : (code.toInt - z).natAbs ≤ 36864 := by
  have low := code.le_toInt
  have high := code.toInt_lt
  omega

/-- The bound of R62: 4,096 squares of 36,864. -/
theorem squareSum_le (channel : Sample → Half) {z : Int} {pairs : List Sample} (hz : z.natAbs ≤ 4096)
    (hcount : pairs.length ≤ 4096) : squareSum channel z pairs ≤ 5566277615616 :=
  calc squareSum channel z pairs
    _ ≤ (pairs.map fun p => ((channel p).toInt - z).natAbs ^ 2).length • 36864 ^ 2 := by
        refine List.sum_le_card_nsmul _ _ fun x hx => ?_
        obtain ⟨p, -, rfl⟩ := List.mem_map.mp hx
        exact Nat.pow_le_pow_left (natAbs_code_sub_le _ hz) 2
    _ = pairs.length * 36864 ^ 2 := by rw [List.length_map, smul_eq_mul]
    _ ≤ 4096 * 36864 ^ 2 := Nat.mul_le_mul_right _ hcount

/-! ### A burst taken whole (R61, R62) -/

/-- The pairs in which either sample sits at an end of the scale. -/
def clipCount (pairs : List Sample) : Nat := pairs.countP fun p => clipped p.v.toInt || clipped p.i.toInt

theorem clipCount_eq (pairs : List Sample) : clipCount pairs = (pairs.filter fun p =>
    decide (p.v.toInt = -32768 ∨ p.v.toInt = 32767 ∨ p.i.toInt = -32768 ∨ p.i.toInt = 32767)).length := by
  simp [clipCount, List.countP_eq_length_filter, clipped, Bool.or_assoc]

theorem Reduction.takeAll_nil {r : Reduction} (h : r.burst = []) : r.takeAll = r := by
  simp [Reduction.takeAll, h, Reduction.takePairs]

theorem Reduction.takeAll_cons {r : Reduction} {p : Sample} {rest : List Sample} (h : r.burst = p :: rest) :
    r.takeAll = { r.addPair p with burst := rest }.takeAll := by
  simp [Reduction.takeAll, h, Reduction.takePairs]

/-- What the pairs not yet taken add to each sum (R62). -/
theorem Reduction.takeAll_eq (r : Reduction) : r.takeAll =
    { r with
      sumV := r.sumV + (r.burst.map fun p => p.v.toInt).sum
      sumI := r.sumI + (r.burst.map fun p => p.i.toInt).sum
      corrV := r.corrV + (r.burst.map fun p => p.v.toInt - r.offset.zv).sum
      corrI := r.corrI + (r.burst.map fun p => p.i.toInt - r.offset.zi).sum
      sqV := r.sqV + squareSum Sample.v r.offset.zv r.burst
      sqI := r.sqI + squareSum Sample.i r.offset.zi r.burst
      clip := r.clip + clipCount r.burst
      taken := r.taken + r.burst.length
      burst := [] } := by
  generalize hpairs : r.burst = pairs
  induction pairs generalizing r with
  | nil =>
    rw [Reduction.takeAll_nil hpairs]
    cases r
    simp_all [squareSum, clipCount]
  | cons p rest ih =>
    rw [Reduction.takeAll_cons hpairs, ih _ rfl]
    simp only [Reduction.addPair, toNat_mul_self, squareSum, clipCount, List.map_cons, List.sum_cons, List.countP_cons,
      List.length_cons]
    congr 1 <;> omega

/-- The reduction of a whole burst: each sum over all its pairs (R62). -/
def Reduction.ofBurst (tag : Half) (attempt : Nat) (method : Method) (samples : Nat) (z : Offset)
    (pairs : List Sample) : Reduction :=
  { tag := tag, attempt := attempt, method := method, samples := samples, offset := z
    sumV := (pairs.map fun p => p.v.toInt).sum
    sumI := (pairs.map fun p => p.i.toInt).sum
    corrV := (pairs.map fun p => p.v.toInt - z.zv).sum
    corrI := (pairs.map fun p => p.i.toInt - z.zi).sum
    sqV := squareSum Sample.v z.zv pairs
    sqI := squareSum Sample.i z.zi pairs
    clip := clipCount pairs
    taken := pairs.length
    burst := [] }

theorem Reduction.start_takeAll (tag : Half) (attempt : Nat) (method : Method) (n : Nat) (z : Offset)
    (pairs : List Sample) :
    (Reduction.start tag attempt method n z pairs).takeAll = Reduction.ofBurst tag attempt method n z pairs := by
  rw [Reduction.takeAll_eq]
  simp [Reduction.start, Reduction.ofBurst]

/-- The order of the pairs plays no part in any sum (R62). -/
theorem Reduction.ofBurst_perm (tag : Half) (attempt : Nat) (method : Method) (n : Nat) (z : Offset)
    {a b : List Sample} (h : a.Perm b) :
    Reduction.ofBurst tag attempt method n z a = Reduction.ofBurst tag attempt method n z b := by
  simp only [Reduction.ofBurst, squareSum_perm _ _ h, clipCount, h.countP_eq, h.length_eq, (h.map _).sum_eq]

/-- The offset is subtracted once for each pair (R62). -/
theorem sum_map_sub_offset (f : Sample → Int) (z : Int) (pairs : List Sample) :
    (pairs.map fun p => f p - z).sum = (pairs.map f).sum - pairs.length * z := by
  induction pairs with
  | nil => simp
  | cons p rest ih =>
    simp only [List.map_cons, List.sum_cons, List.length_cons, ih]
    push_cast
    ring

/-- Settles O39: the reduction of a burst in closed form, then each sum by its own lemma. -/
theorem reductionSums : Obligations.ReductionSums := by
  unfold Obligations.ReductionSums
  intro tag attempt method n z pairs
  simp only [Reduction.start_takeAll]
  exact ⟨rfl, rfl, rfl, rfl, sum_map_sub_offset _ _ _, sum_map_sub_offset _ _ _, squareSum_cast _ _ _,
    squareSum_cast _ _ _, clipCount_eq _, rfl, rfl, rfl,
    fun hzv hzi hcount => ⟨squareSum_le _ hzv hcount, squareSum_le _ hzi hcount⟩,
    fun _ h => Reduction.ofBurst_perm _ _ _ _ _ h⟩

/-! ### The integer square root (R66) -/

/-- With the root between `r` and `r + 2 ^ k`, the `k` open bits settle it. -/
theorem isqrtFrom_isRoot (k : Nat) {x r : Nat} (low : r * r ≤ x) (high : x < (r + 2 ^ k) * (r + 2 ^ k)) :
    isqrtFrom k x r * isqrtFrom k x r ≤ x ∧ x < (isqrtFrom k x r + 1) * (isqrtFrom k x r + 1) := by
  induction k generalizing r with
  | zero => exact ⟨low, high⟩
  | succ k ih =>
    simp only [isqrtFrom]
    split
    · next fits =>
      refine ih fits ?_
      rwa [Nat.add_assoc, ← Nat.two_mul, ← Nat.pow_succ']
    · next above => exact ih low (Nat.not_le.mp above)

/-- The bits that `isqrt` opens reach above the root. -/
theorem lt_two_pow_mul_two_pow (x : Nat) : x < 2 ^ (x.log2 / 2 + 1) * 2 ^ (x.log2 / 2 + 1) :=
  calc x
    _ < 2 ^ (x.log2 + 1) := Nat.lt_log2_self
    _ ≤ 2 ^ (x.log2 / 2 + 1 + (x.log2 / 2 + 1)) := Nat.pow_le_pow_right Nat.two_pos (by omega)
    _ = 2 ^ (x.log2 / 2 + 1) * 2 ^ (x.log2 / 2 + 1) := Nat.pow_add ..

/-- R66's root is the library's. -/
theorem isqrt_eq_sqrt (x : Nat) : isqrt x = x.sqrt := by
  refine Nat.eq_sqrt.mpr (isqrtFrom_isRoot _ (Nat.zero_le x) ?_)
  rw [Nat.zero_add]
  exact lt_two_pow_mul_two_pow x

theorem isqrt_eq_iff {x r : Nat} : isqrt x = r ↔ r * r ≤ x ∧ x < (r + 1) * (r + 1) := by
  rw [isqrt_eq_sqrt, eq_comm, Nat.eq_sqrt]

theorem isqrt_eq_zero_iff (x : Nat) : isqrt x = 0 ↔ x = 0 := by
  rw [isqrt_eq_sqrt, Nat.sqrt_eq_zero]

theorem isqrt_mono {x y : Nat} (h : x ≤ y) : isqrt x ≤ isqrt y := by
  simpa only [isqrt_eq_sqrt] using Nat.sqrt_le_sqrt h

/-- The root of R62's largest square sum (R66). -/
theorem isqrt_largest_squareSum : isqrt 5566277615616 = 2359296 := isqrt_eq_iff.mpr (by decide)

/-- Settles O41: the open bits close on the root, and the root decides the rest. -/
theorem isqrtIsFloorRoot : Obligations.IsqrtIsFloorRoot := by
  unfold Obligations.IsqrtIsFloorRoot
  refine ⟨fun x => isqrt_eq_iff.mp rfl, isqrt_eq_zero_iff, fun x low high => isqrt_eq_iff.mpr (by omega),
    fun x h => isqrt_largest_squareSum ▸ isqrt_mono h, fun tag attempt method n z pairs => ?_,
    isqrt_eq_iff.mpr (by decide), isqrt_eq_iff.mpr (by decide), isqrt_eq_iff.mpr (by decide),
    isqrt_eq_iff.mpr (by decide), isqrt_largest_squareSum⟩
  rw [isqrt_eq_zero_iff, Reduction.start_takeAll]
  exact squareSum_eq_zero_iff _ _ _

/-! ### Rounding (R67, R76) -/

/-- The nearest integer to p / q, halves up, from both sides. -/
theorem roundQuotient_bounds (p : Nat) {d : Nat} (e : Nat) (hd : 0 < d) :
    2 * (d * 10 ^ e) * roundQuotient p d e ≤ 2 * p + d * 10 ^ e
      ∧ 2 * p + d * 10 ^ e < 2 * (d * 10 ^ e) * (roundQuotient p d e + 1) := by
  have positive : 0 < 2 * (d * 10 ^ e) := by positivity
  rw [roundQuotient, Nat.mul_assoc 2 d]
  exact ⟨Nat.mul_div_le _ _, Nat.lt_mul_div_succ _ positive⟩

/-- `z` is an integer nearest to the mean of a sum over `n` pairs, and of two the one farther from zero (R76). -/
def NearestMean (n : Nat) (z sum : Int) : Prop :=
  2 * (z * n - sum).natAbs ≤ n ∧ (2 * (z * n - sum).natAbs = n → sum.natAbs < (z * n).natAbs)

theorem nearestMean_neg {n : Nat} {z sum : Int} (h : NearestMean n z sum) : NearestMean n (-z) (-sum) := by
  have mirrored : -(z * n) - -sum = -(z * n - sum) := by ring
  simpa only [NearestMean, neg_mul, mirrored, Int.natAbs_neg] using h

/-- The magnitude of a sum rounds as a quotient does, halves up (R67, R76). -/
theorem roundQuotient_nearestMean (a : Nat) {n : Nat} (hn : 0 < n) : NearestMean n (roundQuotient a n 0) a := by
  obtain ⟨low, high⟩ := roundQuotient_bounds a 0 hn
  rw [pow_zero, mul_one] at low high
  rw [Nat.mul_add_one, Nat.mul_assoc] at high
  rw [Nat.mul_assoc] at low
  unfold NearestMean
  rw [← Int.natCast_mul, Nat.mul_comm _ n]
  omega

theorem roundAway_eq (x : Int) (n : Nat) :
    roundAway x n = if x < 0 then -(roundQuotient x.natAbs n 0 : Int) else (roundQuotient x.natAbs n 0 : Int) := by
  simp only [roundAway, roundQuotient, pow_zero, mul_one]

/-- A sum's offset has the sum's sign and its magnitude's rounding (R76). -/
theorem roundAway_nearestMean (x : Int) {n : Nat} (hn : 0 < n) : NearestMean n (roundAway x n) x := by
  have nearest := roundQuotient_nearestMean x.natAbs hn
  rw [roundAway_eq]
  split
  · next negative =>
    simpa only [Int.ofNat_natAbs_of_nonpos negative.le, neg_neg] using nearestMean_neg nearest
  · next nonnegative =>
    rwa [Int.natAbs_of_nonneg (Int.not_lt.mp nonnegative)] at nearest

/-! ### The readings, method by method (R70 to R77) -/

section
variable {r : Reduction} (rg : RangeRecord) (g e : Nat)

theorem quantityOf_cap (h : r.method = .cap) : (quantityOf r rg g e).kind = capKind r rg g e := by
  simp only [quantityOf, h]

theorem quantityOf_vf (h : r.method = .vf) : (quantityOf r rg g e).kind = vfKind r rg e := by
  simp only [quantityOf, h]

theorem quantityOf_zero (h : r.method = .zero) : (quantityOf r rg g e).kind = zeroKind r := by
  simp only [quantityOf, h]

theorem quantityOf_res (h : r.method = .res) : (quantityOf r rg g e).kind = resKind r rg e := by
  simp only [quantityOf, h]

theorem resKind_open (h : r.corrI = 0 ∨ r.corrI.natAbs < r.samples * rg.floor) : resKind r rg e = .openReading :=
  if_pos h

/-- The sums have opposite signs exactly when their product is negative (R71). -/
theorem resKind_of_not_open (h : ¬(r.corrI = 0 ∨ r.corrI.natAbs < r.samples * rg.floor)) : resKind r rg e =
    if r.corrV * r.corrI < 0 then .polarity
    else saturate (roundQuotient (r.corrV.natAbs * rg.kv * 1000000) (r.corrI.natAbs * rg.ki) e) := by
  simp only [mul_neg_iff]
  exact if_neg h

end

theorem zeroKind_eq (r : Reduction) : zeroKind r =
    .offsets (max (roundAway r.sumV r.samples).natAbs (roundAway r.sumI r.samples).natAbs)
      { zv := roundAway r.sumV r.samples, zi := roundAway r.sumI r.samples }
      (decide ((roundAway r.sumV r.samples).natAbs ≤ 4096 ∧ (roundAway r.sumI r.samples).natAbs ≤ 4096)) := by
  rw [Bool.decide_and]
  rfl

/-- Settles O42: the rounding from both sides, and each method's reading by its cases. -/
theorem valueRounding : Obligations.ValueRounding := by
  unfold Obligations.ValueRounding
  refine ⟨fun p d e hd => roundQuotient_bounds p e hd, fun v => rfl, fun r rg g e => ⟨fun cap => ?_, fun vf => ?_,
    fun zero hsamples => ?_⟩⟩
  · rw [quantityOf_cap rg g e cap]
    refine ⟨fun still => ?_, fun excited => if_neg excited⟩
    have empty : capKind r rg g e = .noExcitation := if_pos still
    rw [empty]
    exact ⟨rfl, rfl⟩
  · rw [quantityOf_vf rg g e vf]
    exact ⟨fun low => if_neg (Int.not_lt.mpr low), fun above => if_pos above⟩
  · exact ⟨roundAway r.sumV r.samples, roundAway r.sumI r.samples, roundAway_nearestMean _ hsamples,
      roundAway_nearestMean _ hsamples, (quantityOf_zero rg g e zero).trans (zeroKind_eq r)⟩

/-- Settles O43: the three readings of RES, in the order of R70 to R72. -/
theorem resistanceReading : Obligations.ResistanceReading := by
  unfold Obligations.ResistanceReading
  intro r rg g e res
  dsimp only
  rw [quantityOf_res rg g e res]
  refine ⟨fun isOpen => ?_, fun closed opposite => ?_, fun closed alike => ?_⟩
  · rw [resKind_open rg e isOpen]
    exact ⟨rfl, rfl⟩
  · rw [resKind_of_not_open rg e closed, if_pos opposite]
    exact ⟨rfl, rfl⟩
  · rw [resKind_of_not_open rg e closed, if_neg alike]

end Sys2Proof.Machine
end

section
/-! SUPPORT. The SETs that clamp a value and write one setting: LEARN_COUNT, DEFER_AGE, RAW_COPY and TB_FAIL (R65, R118,
R125, R152, R168). -/

namespace Sys2Proof.Machine

/-- A SET that is taken writes its setting, and its REPLY carries what a GET would then read (R168). -/
theorem takeEvent_takeSet_becomes {s : State} (h : s.TakesFrames) (dt : Nat) (seq : Byte) (x : Setting)
    (write : State → State) : Becomes (takeEvent dt (takeSet seq x write) s)
      ((write (elapse dt s)).withReply
        (answered kindRequest seq .ok (be32 ((write (elapse dt s)).setting x)))) :=
  takeEvent_takeFrame_becomes h dt _

/-- LEARN_COUNT: 1 to 7, an even value raised to the next odd one (R118). -/
theorem clampLearnCount_eq (v : Nat) :
    clampLearnCount v = if v = 0 then 1 else if 7 ≤ v then 7 else 2 * (v / 2) + 1 := by
  unfold clampLearnCount
  rcases Nat.eq_zero_or_pos v with rfl | positive
  · rfl
  rw [if_neg positive.ne']
  rcases Nat.lt_or_ge v 7 with small | large
  · rw [if_neg (Nat.not_le.mpr small), Nat.min_eq_right small.le, Nat.max_eq_right positive]
    dsimp only
    split <;> omega
  · rw [if_pos large, Nat.min_eq_left large]
    rfl

/-- DEFER_AGE: 1 to 65,535 (R125). -/
theorem clampDeferAge_eq (v : Nat) : clampDeferAge v = if v = 0 then 1 else min 65535 v := by
  unfold clampDeferAge
  split <;> omega

/-- A flag's value is read from the SET's as 1 for any value but 0 (R168). -/
theorem bitIf_ne_zero (v : Nat) : bitIf (decide (v ≠ 0)) 1 = min 1 v := by
  rcases Nat.eq_zero_or_pos v with rfl | positive
  · rfl
  · simp [bitIf, positive.ne', Nat.min_eq_left positive]

theorem word_eq_zero_iff (value : Word) : value = 0 ↔ value.toNat = 0 :=
  BitVec.toNat_inj.symm

/-- What a SET of TB_FAIL leaves: a value of 0 the flag as it was, any other the flag clear (R152). -/
theorem tbFail_written (value : Word) (u : State) :
    (if value = 0 then u else { u with tb := { u.tb with tbFail := false } } : State)
      = { u with tb := { u.tb with tbFail := decide (value.toNat = 0) && u.tb.tbFail } } := by
  by_cases zero : value.toNat = 0
  · simp [(word_eq_zero_iff value).mpr zero]
  · rw [if_neg ((word_eq_zero_iff value).not.mpr zero), decide_eq_false zero, Bool.false_and]

theorem bitIf_tbFail (v : Nat) (flag : Bool) :
    bitIf (decide (v = 0) && flag) 1 = if v = 0 ∧ flag = true then 1 else 0 := by
  simp [bitIf]

/-- Settles O14: each SET writes its clamped value, and the answer reads it back. -/
theorem settingsTakeClampedValues : Obligations.SettingsTakeClampedValues := by
  unfold Obligations.SettingsTakeClampedValues
  intro dt seq value s hs u v k age
  refine ⟨?_, ?_, ?_, ?_⟩
  · rw [show k = clampLearnCount v from (clampLearnCount_eq v).symm]
    exact takeEvent_takeSet_becomes hs dt seq .learnCount _
  · rw [show age = clampDeferAge v from (clampDeferAge_eq v).symm]
    exact takeEvent_takeSet_becomes hs dt seq .deferAge _
  · have flag : decide (v ≠ 0) = decide (value ≠ 0) := decide_eq_decide.mpr (word_eq_zero_iff value).not.symm
    rw [← bitIf_ne_zero v, flag]
    exact takeEvent_takeSet_becomes hs dt seq .rawCopy _
  · have kept : s.tb.tbFail = u.tb.tbFail := by simp [u]
    have written := takeEvent_takeSet_becomes hs dt seq .tbFail fun s =>
      if value = 0 then s else { s with tb := { s.tb with tbFail := false } }
    rw [tbFail_written] at written
    rw [← bitIf_tbFail, kept]
    exact written

end Sys2Proof.Machine
end

section
/-! SUPPORT. Net State records under a write and a raise, and the decision on a quantity result, clause by clause (R83 to R91,
R97, R98). -/

namespace Sys2Proof.Machine

/-! ### Net State records (R97) -/

theorem netIndex_inj {k m slot net : Nat} (hm : m < 4096) (hn : net < 4096) :
    netIndex k m = netIndex slot net ↔ k = slot ∧ m = net := by
  simp only [netIndex]
  omega

theorem State.canonical_netStates {s : State} (h : s.canonical = true) : s.netStates.wf netStateInitial = true := by
  simp only [State.canonical, Bool.and_eq_true] at h
  tauto

/-- A change of a net's record is read back there and nowhere else. -/
theorem modifyNet_netState {s : State} (w : s.netStates.wf netStateInitial = true) {slot net : Nat} (hn : net < 4096)
    (f : NetState → NetState) (k : Nat) {m : Nat} (hm : m < 4096) : (s.modifyNet slot net f).netState k m
      = if k = slot ∧ m = net then f (s.netState slot net) else s.netState k m :=
  (Sparse.get_put netStateInitial w (netIndex slot net) _ (netIndex k m)).trans
    (if_congr (netIndex_inj hm hn) rfl rfl)

theorem modifyNet_wf {s : State} (w : s.netStates.wf netStateInitial = true) (slot net : Nat) (f : NetState → NetState) :
    (s.modifyNet slot net f).netStates.wf netStateInitial = true :=
  Sparse.put_wf netStateInitial w _ _

/-! ### Raises (R98) -/

theorem NetRank.higher_number (a b : NetRank) : (a.higher b).number = max b.number a.number := by
  unfold NetRank.higher
  split
  · rw [Nat.max_eq_left (Nat.le_of_lt ‹_›)]
  · rw [Nat.max_eq_right (Nat.not_lt.mp ‹_›)]

/-- A net's record raised to the rank of a verdict (R98). -/
def NetState.raised (v : Verdict) (x : NetState) : NetState :=
  match v.rank with
  | none => x
  | some r => { x with state := x.state.higher r }

/-- What a verdict raises a net to: 0 for those that raise none (R98). -/
def Verdict.raises (v : Verdict) : Nat := (v.rank.map NetRank.number).getD 0

theorem NetState.raised_number (v : Verdict) (x : NetState) :
    (x.raised v).state.number = max v.raises x.state.number := by
  unfold NetState.raised Verdict.raises
  cases v.rank with
  | none => exact (Nat.zero_max _).symm
  | some r => exact NetRank.higher_number x.state r

theorem NetState.raised_eq (v : Verdict) (x : NetState) : x.raised v = { x with state := (x.raised v).state } := by
  unfold NetState.raised
  cases v.rank <;> rfl

theorem raiseNet_of_unranked {v : Verdict} (h : v.rank = none) (slot : Nat) (net : Option Nat) (s : State) :
    raiseNet slot net v s = s := by
  cases net <;> simp [raiseNet, h]

theorem raiseNet_of_rank {v : Verdict} {r : NetRank} (h : v.rank = some r) (slot net : Nat) (s : State) :
    raiseNet slot (some net) v s = s.modifyNet slot net (NetState.raised v) := by
  have raised : NetState.raised v = fun x => { x with state := x.state.higher r } := by
    funext x
    simp [NetState.raised, h]
  simp [raiseNet, h, raised]

theorem raiseNet_netState {s : State} (w : s.netStates.wf netStateInitial = true) {slot net : Nat} (hn : net < 4096)
    (v : Verdict) (k : Nat) {m : Nat} (hm : m < 4096) : (raiseNet slot (some net) v s).netState k m
      = if k = slot ∧ m = net then (s.netState slot net).raised v else s.netState k m := by
  cases h : v.rank with
  | none =>
    have same : (s.netState slot net).raised v = s.netState slot net := by simp [NetState.raised, h]
    rw [raiseNet_of_unranked h, same]
    split
    · rw [‹k = slot ∧ m = net›.1, ‹k = slot ∧ m = net›.2]
    · rfl
  | some r =>
    rw [raiseNet_of_rank h]
    exact modifyNet_netState w hn _ k hm

theorem raiseNet_netStates_only (slot : Nat) (net : Option Nat) (v : Verdict) (s : State) :
    raiseNet slot net v s = { s with netStates := (raiseNet slot net v s).netStates } := by
  unfold raiseNet
  split <;> rfl

/-! ### The retry conditions (R84 to R87) -/

/-- What stands for a decision on an XOUT slot: SKIP for a retry (R84). -/
def Decision.onXout : Decision → Decision
  | .retry _ => .skip
  | d => d

theorem Decision.onXout_of_not_retry {d : Decision} (h : ∀ escalate, d ≠ .retry escalate) : d.onXout = d := by
  cases d with
  | retry escalate => exact absurd rfl (h escalate)
  | _ => rfl

section
variable {st : StepRecord} {rg : RangeRecord} {e : Entry} {q : Quantity}

theorem retryOr_of_remains (h : e.attempt < st.retryLimit + 1) (escalate : Option Nat) (t : Terminal) :
    retryOr st e false escalate t = .retry escalate := by
  simp [retryOr, budgetRemains, h]

theorem retryOr_of_spent (h : ¬e.attempt < st.retryLimit + 1) (xout : Bool) (escalate : Option Nat) (t : Terminal) :
    retryOr st e xout escalate t = .terminal t := by
  simp [retryOr, budgetRemains, h]

theorem retryOr_onXout (st : StepRecord) (e : Entry) (escalate : Option Nat) (t : Terminal) :
    retryOr st e true escalate t = (retryOr st e false escalate t).onXout := by
  unfold retryOr
  split <;> rfl

/-- The decision on a value is no retry (R83). -/
theorem judgeValue_onXout (st : StepRecord) (k : QuantityKind) : (judgeValue st k).onXout = judgeValue st k := by
  unfold judgeValue
  dsimp only
  split
  · split <;> rfl
  all_goals rfl

/-- Too many clipped pairs on the last range: RANGE (R86, R87). -/
theorem judgeResult_clipped_last (h : rg.clip < q.clip) (hn : rg.next = none) (x : Bool) :
    judgeResult st rg x e q = .terminal (.outOfRange q.kind.value? q.kind.saturated) := by
  simp [judgeResult, h, hn]

/-- Too many clipped pairs with a range above: an escalation (R87). -/
theorem judgeResult_clipped (h : rg.clip < q.clip) {next : Nat} (hn : rg.next = some next) (x : Bool) :
    judgeResult st rg x e q = retryOr st e x (some next) (.outOfRange q.kind.value? q.kind.saturated) := by
  simp [judgeResult, h, hn]

/-- POLARITY and NO_EXCITATION are retry conditions (R85). -/
theorem judgeResult_unusable (h : q.clip ≤ rg.clip) (hk : q.kind = .polarity ∨ q.kind = .noExcitation) (x : Bool) :
    judgeResult st rg x e q = retryOr st e x none (.outOfRange none false) := by
  rcases hk with hk | hk <;> simp [judgeResult, Nat.not_lt.mpr h, hk]

/-- With no retry condition present the value is judged (R83). -/
theorem judgeResult_of_usable (h : q.clip ≤ rg.clip) (hp : q.kind ≠ .polarity) (hn : q.kind ≠ .noExcitation) (x : Bool) :
    judgeResult st rg x e q = judgeValue st q.kind := by
  unfold judgeResult
  rw [if_neg (Nat.not_lt.mpr h)]
  split
  · exact absurd ‹_› hp
  · exact absurd ‹_› hn
  · rfl

/-- On an XOUT slot SKIP stands for a retry, and every other decision as it is (R84). -/
theorem judgeResult_onXout (st : StepRecord) (rg : RangeRecord) (e : Entry) (q : Quantity) :
    judgeResult st rg true e q = (judgeResult st rg false e q).onXout := by
  by_cases hc : rg.clip < q.clip
  · cases hn : rg.next with
    | none => rw [judgeResult_clipped_last hc hn, judgeResult_clipped_last hc hn]; rfl
    | some next => rw [judgeResult_clipped hc hn, judgeResult_clipped hc hn, retryOr_onXout]
  · have hc := Nat.not_lt.mp hc
    by_cases hk : q.kind = .polarity ∨ q.kind = .noExcitation
    · rw [judgeResult_unusable hc hk, judgeResult_unusable hc hk, retryOr_onXout]
    · obtain ⟨hp, hn⟩ := not_or.mp hk
      rw [judgeResult_of_usable hc hp hn, judgeResult_of_usable hc hp hn, judgeValue_onXout]

end

/-! ### The value by method and class (R83, R88 to R91) -/

section
variable {st : StepRecord} {low high v : Nat} {sat : Bool}

theorem judgeValue_iso_open (hm : st.method = .res) (hc : st.cls = some .iso) :
    judgeValue st .openReading = .terminal (.judged .pass 4294967295 false) := by
  simp [judgeValue, hm, hc, QuantityKind.value?, QuantityKind.saturated, Config.overValue]

theorem judgeValue_iso (hm : st.method = .res) (hc : st.cls = some .iso) (hl : st.low = some low) :
    judgeValue st (.value v sat) = .terminal (.judged (if v < low then .short else .pass) v sat) := by
  simp [judgeValue, hm, hc, hl, QuantityKind.value?, QuantityKind.saturated]

theorem judgeValue_cont_open (hm : st.method = .res) (hc : st.cls = some .cont) :
    judgeValue st .openReading = .terminal (.judged .openNet 4294967295 false) := by
  simp [judgeValue, hm, hc, QuantityKind.value?, QuantityKind.saturated, Config.overValue]

theorem judgeValue_cont (hm : st.method = .res) (hc : st.cls = some .cont) (hh : st.high = some high) :
    judgeValue st (.value v sat) = .terminal (.judged (if high < v then .openNet else .pass) v sat) := by
  simp [judgeValue, hm, hc, hh, QuantityKind.value?, QuantityKind.saturated]

theorem judgeValue_comp_open (hm : st.method ≠ .zero) (hc : st.cls = some .comp) :
    judgeValue st .openReading = .terminal (.judged .openNet 4294967295 false) := by
  cases h : st.method <;> simp_all [judgeValue, QuantityKind.value?, QuantityKind.saturated, Config.overValue]

theorem judgeValue_comp (hm : st.method ≠ .zero) (hc : st.cls = some .comp) (hl : st.low = some low)
    (hh : st.high = some high) : judgeValue st (.value v sat)
      = .terminal (.judged (if v < low then .failLow else if high < v then .failHigh else .pass) v sat) := by
  cases h : st.method <;> simp_all [judgeValue, compVerdict, QuantityKind.value?, QuantityKind.saturated]

theorem judgeValue_sig (hm : st.method = .cap) (hc : st.cls = some .sig) :
    judgeValue st (.value v sat) = .signature v sat := by
  simp [judgeValue, hm, hc, QuantityKind.value?, QuantityKind.saturated]

theorem judgeValue_zero (hm : st.method = .zero) (m : Nat) (z : Offset) (within : Bool) :
    judgeValue st (.offsets m z within) = .terminal
      { verdict := if within then .pass else .failHigh, cause := none, value := some m, saturated := false,
        offset := if within then some z else none } := by
  simp [judgeValue, hm]

end

/-! ### The statement -/

/-- Settles O45: the retry conditions come first in their order, then the value is judged by its method and class, and a raise
is the higher of two ranks. -/
theorem decisionTable : Obligations.DecisionTable := by
  unfold Obligations.DecisionTable
  refine ⟨?_, ?_⟩
  · intro st rg e q d remains range verdict
    have usable {k : QuantityKind} (h : q.clip ≤ rg.clip) (hk : q.kind = k) (hp : k ≠ .polarity)
        (hn : k ≠ .noExcitation) : d = judgeValue st k :=
      hk ▸ judgeResult_of_usable h (hk ▸ hp) (hk ▸ hn) false
    have opened (h : q.clip ≤ rg.clip) (hk : q.kind = .openReading) : d = judgeValue st .openReading :=
      usable h hk nofun nofun
    have valued {v : Nat} {sat : Bool} (h : q.clip ≤ rg.clip) (hk : q.kind = .value v sat) :
        d = judgeValue st (.value v sat) := usable h hk nofun nofun
    refine ⟨fun h => ⟨fun hn => judgeResult_clipped_last h hn false, fun next hn hr => ?_, fun next hn hr => ?_⟩,
      fun h hk => ⟨fun hr => ?_, fun hr => ?_⟩, fun h => ⟨fun low hm hc hl => ?_, fun high hm hc hh => ?_,
        fun low high hm hc hl hh hle => ?_, fun v sat hm hc hk => ?_, fun m z within hm hk => ?_⟩,
      fun escalate hd => ?_, fun hd => ?_⟩
    · exact (judgeResult_clipped h hn false).trans (retryOr_of_remains hr _ _)
    · exact (judgeResult_clipped h hn false).trans (retryOr_of_spent hr false _ _)
    · exact (judgeResult_unusable h hk false).trans (retryOr_of_remains hr _ _)
    · exact (judgeResult_unusable h hk false).trans (retryOr_of_spent hr false _ _)
    · refine ⟨fun hk => (opened h hk).trans (judgeValue_iso_open hm hc), fun v sat hk hv => ?_, fun v sat hk hv => ?_⟩
      · rw [valued h hk, judgeValue_iso hm hc hl, if_pos hv]
        rfl
      · rw [valued h hk, judgeValue_iso hm hc hl, if_neg (Nat.not_lt.mpr hv)]
        rfl
    · refine ⟨fun hk => (opened h hk).trans (judgeValue_cont_open hm hc), fun v sat hk hv => ?_, fun v sat hk hv => ?_⟩
      · rw [valued h hk, judgeValue_cont hm hc hh, if_pos hv]
        rfl
      · rw [valued h hk, judgeValue_cont hm hc hh, if_neg (Nat.not_lt.mpr hv)]
        rfl
    · refine ⟨fun hk => (opened h hk).trans (judgeValue_comp_open hm hc), fun v sat hk hv => ?_, fun v sat hk hv => ?_,
        fun v sat hk hlv hvh => ?_⟩
      · rw [valued h hk, judgeValue_comp hm hc hl hh, if_pos hv]
        rfl
      · rw [valued h hk, judgeValue_comp hm hc hl hh, if_neg (by omega), if_pos hv]
        rfl
      · rw [valued h hk, judgeValue_comp hm hc hl hh, if_neg (by omega), if_neg (by omega)]
        rfl
    · exact (valued h hk).trans (judgeValue_sig hm hc)
    · exact (usable h hk nofun nofun).trans (judgeValue_zero hm m z within)
    · exact (judgeResult_onXout st rg e q).trans (congrArg Decision.onXout hd)
    · exact (judgeResult_onXout st rg e q).trans (Decision.onXout_of_not_retry hd)
  · intro slot net v s hcan hn rank raises t
    have w := State.canonical_netStates hcan
    have ranks : ∀ x, rank x = x.number := fun x => by cases x <;> rfl
    have raised : raises = v.raises := by cases v <;> rfl
    have read : t.netState slot net = (s.netState slot net).raised v :=
      (raiseNet_netState w hn v slot hn).trans (if_pos ⟨rfl, rfl⟩)
    refine ⟨?_, ?_, fun k m hm hne => ?_, raiseNet_netStates_only slot (some net) v s, rfl⟩
    · rw [ranks, ranks, raised, read, NetState.raised_number]
    · rw [read]
      exact NetState.raised_eq v _
    · exact (raiseNet_netState w hn v k hm).trans (if_neg fun h => hne.elim (· h.1) (· h.2))

end Sys2Proof.Machine
end

section
/-! SUPPORT. SCAN_STEP: what a scan step comes to at an entry, at the end of the list, and with the scan at rest (R126 to R128,
R132). -/

namespace Sys2Proof.Machine

/-- A scan that is IDLE or paused makes no step (R127, R128). -/
theorem scanOne_at_rest {s : State} (h : s.sigs.scan.scanning = false ∨ s.sigs.scan.paused = true) : scanOne s = s := by
  rcases h with h | h <;> simp [scanOne, h]

theorem scanOne_of_running {s : State} (hs : s.sigs.scan.scanning = true) (hp : s.sigs.scan.paused = false) :
    scanOne s = examineEntry s := by
  simp [scanOne, hs, hp]

/-- At the end of the list the scan ends, or starts again (R127). -/
theorem endScan_eq (s : State) :
    endScan s = s.setScan (Scan.movedTo s.sigs.deferred.length s.sigs.deferred.length s.sigs.scan.rescan) := by
  unfold Scan.movedTo
  rw [if_neg (lt_irrefl _)]
  exact endScan_withScan s s.sigs.deferred s.sigs.scan

theorem examineEntry_ends {s : State} (h : s.sigs.scan.position = none) : examineEntry s = endScan s := by
  simp [examineEntry, h]

/-- An EXPIRED entry is passed over (R127). -/
theorem examineEntry_passes_expired {s : State} {i : Nat} {mark : Bool} (hscan : s.sigs.scan = Scan.at i mark)
    {d : DeferredEntry} (hd : s.sigs.deferred[i]? = some d) (hexp : d.expired = true) :
    examineEntry s = s.setScan (Scan.movedTo (i + 1) s.sigs.deferred.length mark) := by
  have position : s.sigs.scan.position = some i := by rw [hscan]; rfl
  have moved := moveScan_eq (s := s) (i + 1) (by rw [hscan]; rfl) (by rw [hscan]; rfl)
  rw [show s.sigs.scan.rescan = mark by rw [hscan]; rfl] at moved
  simp only [examineEntry, position, hd, hexp]
  exact moved

/-- The entry that a running scan judges leaves the list at the scan's position, which goes on to the next (R127). -/
theorem judgeDeferred_at {s : State} {i : Nat} {mark : Bool} (hscan : s.sigs.scan = Scan.at i mark) {d : DeferredEntry}
    (hd : s.sigs.deferred[i]? = some d) (ref : Nat) : judgeDeferred i d ref s
      = (s.withScan (s.sigs.deferred.eraseIdx i) (Scan.movedTo i (s.sigs.deferred.length - 1) mark)).deferredJudged d
        (judgeSignature d.value ref d.tolerance) := by
  have judged : judgeDeferred i d ref s
      = removeDeferred i (s.deferredJudged d (judgeSignature d.value ref d.tolerance)) := rfl
  have lt : i < s.sigs.deferred.length := (List.getElem?_eq_some_iff.mp hd).1
  rw [judged, removeDeferred_eq, deferredJudged_sigs, deferredJudged_withScan, List.length_eraseIdx_of_lt lt, hscan,
    Scan.without_at]

/-- Settles O47: a running scan examines the entry at its position, whose cases the lemmas on `examineEntry` give. -/
theorem scanStepExaminesOneEntry : Obligations.ScanStepExaminesOneEntry := by
  unfold Obligations.ScanStepExaminesOneEntry
  intro dt mark s hlow u o running scanAt
  have sigs : u.sigs = s.sigs := elapse_sigs dt s
  have signature (net : Nat) : u.signature net = s.signature net := by rw [State.signature, sigs]; rfl
  have becomes {a : State} (h : scanOne u = a) : Becomes o a := h ▸ takeEvent_becomes hlow dt scanOne
  have runs {position : Option Nat} (h : s.sigs.scan = running position) : scanOne u = examineEntry u :=
    scanOne_of_running (by rw [sigs, h]) (by rw [sigs, h])
  have length : u.sigs.deferred.length = s.sigs.deferred.length := by rw [sigs]
  refine ⟨fun h => becomes (scanOne_at_rest (sigs ▸ h)), fun h => becomes ((runs h).trans ?_), fun i d h hd => ?_⟩
  · have rescan : u.sigs.scan.rescan = mark := by rw [sigs, h]
    rw [examineEntry_ends (by rw [sigs, h]), endScan_eq, rescan, length]
    rfl
  have hscan : u.sigs.scan = Scan.at i mark := sigs ▸ h
  have hentry : u.sigs.deferred[i]? = some d := sigs ▸ hd
  refine ⟨?_, ?_, fun hpass => becomes ((runs h).trans ?_)⟩
  · intro ref hexp href hroom v placed
    have free : u.reportFree = true := (elapse_reportFree dt s).trans (reportFree_of_lt hroom)
    have board : u.board = s.board := elapse_board dt s
    have target : (if d.panel = s.board.panelSequence then raiseNet d.slot (some d.net) v placed else placed)
        = (u.withScan (s.sigs.deferred.eraseIdx i) (Scan.movedTo i (s.sigs.deferred.length - 1) mark)).deferredJudged d v := by
      rw [← board]
      rfl
    refine becomes ((runs h).trans ?_)
    rw [target, examineEntry_judges hscan hentry hexp (signature d.net ▸ href) free, judgeDeferred_at hscan hentry, sigs]
  · intro ref hexp href hfull
    have full : u.reportFree = false := (elapse_reportFree dt s).trans (decide_eq_false (Nat.not_lt.mpr hfull))
    refine becomes ((runs h).trans ?_)
    rw [examineEntry_pauses hscan hentry hexp (by simp [signature, href]) full, hscan]
    rfl
  · have passes : examineEntry u = u.setScan (Scan.movedTo (i + 1) u.sigs.deferred.length mark) :=
      hpass.elim (examineEntry_passes_expired hscan hentry)
        (fun href => examineEntry_passes hscan hentry (signature d.net ▸ href))
    rw [passes, length]
    rfl

end Sys2Proof.Machine
end

section
/-! SUPPORT. The merge walk, the taking of merge requests, and the SHORT decision that makes them (R35, R93, R98, R102 to R108,
R110). -/

namespace Sys2Proof.Machine

/-! ### The walk (R105, R107) -/

theorem releaseReport_eq (id : Nat) (leader : GroupLeader) (s : State) : releaseReport id leader s
    = { s with reports := s.reports.released (fun k => decide (k = id)) leader } := by
  simp [releaseReport, ReportUnit.released]

theorem walkStep_at {s : State} {w : Walk} {m : Nat} (hw : s.groups.walk = some w) (hp : w.position = some m) :
    walkStep s = relabelMember w m s := by
  simp [walkStep, hw, hp]

theorem walkFinish_at_end {s : State} {w : Walk} (hw : s.groups.walk = some w) (hp : w.position = none) :
    walkFinish s = endWalk w s := by
  simp [walkFinish, hw, hp]

theorem relabelMember_groups (w : Walk) (n : Nat) (s : State) : (relabelMember w n s).groups
    = { s.groups with walk := some { w with position := (s.netState w.request.slot n).next } } := rfl

theorem relabelMember_sameBut (w : Walk) (n : Nat) (s : State) :
    SameBut [.netStates, .groups] s (relabelMember w n s) := by
  refine ⟨by simp, fun x hx => ?_⟩
  cases x <;> simp_all [Block.Same]

/-- The part with the groups of a walk joined, its walk IDLE and its report released (R105, R107, R108). -/
def State.walkJoined (s : State) (w : Walk) : State :=
  releaseReport w.request.report (.net ((joinGroups w s).netState w.request.slot w.request.netA).leader)
    { joinGroups w s with groups := { (joinGroups w s).groups with walk := none } }

theorem endWalk_eq (w : Walk) (s : State) : endWalk w s = answerGroups (takeMerges (s.walkJoined w)) := rfl

theorem walkJoined_netState (w : Walk) (s : State) (k x : Nat) :
    (s.walkJoined w).netState k x = (joinGroups w s).netState k x := rfl

theorem walkJoined_groups (w : Walk) (s : State) : (s.walkJoined w).groups = { s.groups with walk := none } := rfl

theorem walkJoined_reports (w : Walk) (s : State) : (s.walkJoined w).reports
    = s.reports.released (fun id => decide (id = w.request.report))
      (.net ((s.walkJoined w).netState w.request.slot w.request.netA).leader) :=
  congrArg State.reports (releaseReport_eq _ _ _)

theorem walkJoined_sameBut (w : Walk) (s : State) : SameBut [.netStates, .groups, .reports] s (s.walkJoined w) := by
  refine ⟨by simp [State.walkJoined], fun x hx => ?_⟩
  cases x <;> simp_all [Block.Same, State.walkJoined]

section
variable {s : State} (wf : s.netStates.wf netStateInitial = true)
include wf

theorem modifyNet_netState_slot {slot n x : Nat} (hn : n < 4096) (f : NetState → NetState) (hx : x < 4096) :
    (s.modifyNet slot n f).netState slot x = if x = n then f (s.netState slot x) else s.netState slot x := by
  rw [modifyNet_netState wf hn f slot hx]
  by_cases h : x = n
  · rw [if_pos ⟨rfl, h⟩, if_pos h, h]
  · rw [if_neg fun k => h k.2, if_neg h]

theorem modifyNet_netState_of_slot_ne {slot n k x : Nat} (hn : n < 4096) (f : NetState → NetState) (hk : k ≠ slot)
    (hx : x < 4096) : (s.modifyNet slot n f).netState k x = s.netState k x :=
  (modifyNet_netState wf hn f k hx).trans (if_neg fun h => hk h.1)

/-- What the join of two groups writes, field by field (R105, steps 2 and 3). -/
theorem joinGroups_netState {w : Walk} (hl : w.low < 4096) (hh : w.high < 4096)
    (ht : (s.netState w.request.slot w.low).tail < 4096) {x : Nat} (hx : x < 4096) :
    let slot := w.request.slot
    (joinGroups w s).netState slot x = { s.netState slot x with
      leader := if x = w.high then w.low else (s.netState slot x).leader
      next := if x = (s.netState slot w.low).tail then some w.high else (s.netState slot x).next
      tail := if x = w.low then (s.netState slot w.high).tail else (s.netState slot x).tail
      count := if x = w.low then (s.netState slot x).count + (s.netState slot w.high).count
        else (s.netState slot x).count } := by
  intro slot
  have wf1 := modifyNet_wf wf slot w.high (fun y => { y with leader := w.low })
  have wf2 := modifyNet_wf wf1 slot (s.netState slot w.low).tail (fun y => { y with next := some w.high })
  simp only [joinGroups]
  rw [modifyNet_netState_slot wf2 hl _ hx, modifyNet_netState_slot wf1 ht _ hx, modifyNet_netState_slot wf hh _ hx]
  split_ifs <;> rfl

theorem joinGroups_netState_of_slot_ne {w : Walk} (hl : w.low < 4096) (hh : w.high < 4096)
    (ht : (s.netState w.request.slot w.low).tail < 4096) {k x : Nat} (hk : k ≠ w.request.slot) (hx : x < 4096) :
    (joinGroups w s).netState k x = s.netState k x := by
  have wf1 := modifyNet_wf wf w.request.slot w.high (fun y => { y with leader := w.low })
  have wf2 := modifyNet_wf wf1 w.request.slot (s.netState w.request.slot w.low).tail
    (fun y => { y with next := some w.high })
  simp only [joinGroups]
  rw [modifyNet_netState_of_slot_ne wf2 hl _ hk hx, modifyNet_netState_of_slot_ne wf1 ht _ hk hx,
    modifyNet_netState_of_slot_ne wf hh _ hk hx]

end

/-! ### The taking of requests (R104, R108) -/

/-- The requests to take are handed over; the queue that the state lists is not read. -/
theorem takeMergesFrom_queue (rs : List MergeRequest) (s : State) (queue : List MergeRequest) :
    takeMergesFrom rs { s with groups := { s.groups with queue := queue } } = takeMergesFrom rs s := by
  induction rs generalizing s with
  | nil => rfl
  | cons r rest ih =>
    have reads (net : Nat) : ({ s with groups := { s.groups with queue := queue } } : State).netState r.slot net
        = s.netState r.slot net := rfl
    simp only [takeMergesFrom, reads]
    split
    · exact ih (releaseReport r.report (.net (s.netState r.slot r.netA).leader) s)
    · rfl

theorem takeMerges_idle {s : State} (h : s.groups.walk = none) : takeMerges s = takeMergesFrom s.groups.queue s := by
  simp [takeMerges, h]

/-- A walk in progress or an empty queue leaves nothing to take (R104). -/
theorem takeMerges_nothing {s : State} (h : s.groups.walk ≠ none ∨ s.groups.queue = []) : takeMerges s = s := by
  cases hw : s.groups.walk with
  | some w => simp [takeMerges, hw]
  | none =>
    have empty : s.groups.queue = [] := h.resolve_left (not_not_intro hw)
    rw [takeMerges_idle hw, empty, takeMergesFrom, ← empty]

section
variable {s : State} {r : MergeRequest} {rest : List MergeRequest} (hw : s.groups.walk = none)
  (hq : s.groups.queue = r :: rest)
include hw hq

/-- A request whose nets share a leader completes at once, and the next is taken (R104, R108). -/
theorem takeMerges_completes (h : (s.netState r.slot r.netA).leader = (s.netState r.slot r.netB).leader) :
    takeMerges s = takeMerges { s with
      groups := { s.groups with queue := rest }
      reports := s.reports.released (fun id => decide (id = r.report)) (.net (s.netState r.slot r.netA).leader) } := by
  let released : State := { s with
    reports := s.reports.released (fun id => decide (id = r.report)) (.net (s.netState r.slot r.netA).leader) }
  calc takeMerges s = takeMergesFrom rest released := by
        rw [takeMerges_idle hw, hq, takeMergesFrom, if_pos h, releaseReport_eq]
    _ = takeMergesFrom rest { released with groups := { released.groups with queue := rest } } :=
        (takeMergesFrom_queue rest released rest).symm
    _ = _ := (takeMerges_idle
        (s := { released with groups := { released.groups with queue := rest } }) hw).symm

/-- A request whose nets have two leaders starts a walk (R104). -/
theorem takeMerges_walks (h : (s.netState r.slot r.netA).leader ≠ (s.netState r.slot r.netB).leader) :
    let la := (s.netState r.slot r.netA).leader
    let lb := (s.netState r.slot r.netB).leader
    takeMerges s = { s with groups := { s.groups with
      queue := rest
      walk := some { request := r, low := min la lb, high := max la lb,
                     position := (s.netState r.slot (max la lb)).next } } } := by
  intro la lb
  rw [takeMerges_idle hw, hq, takeMergesFrom, if_neg h]

end

/-! ### Groups and the Outstanding Table -/

section
variable (s : State) (tag : Half) (f : Entry → Entry)

theorem groupData_modifyEntry (slot net : Nat) (incomplete : Bool) :
    groupData (s.modifyEntry tag f) slot net incomplete = groupData s slot net incomplete := by
  have lists (k : Nat) (position : Option Nat) :
      (s.modifyEntry tag f).groupList slot k position = s.groupList slot k position :=
    groupList_congr (a := s.modifyEntry tag f) (b := s) rfl slot k position
  simp only [groupData, State.viewLeader, lists]
  rfl

theorem answerSettled_modifyEntry (l : List ReplyEntry) :
    answerSettled (s.modifyEntry tag f) l = answerSettled s l := by
  induction l with
  | nil => rfl
  | cons r rest ih =>
    have settled (slot : Nat) : (s.modifyEntry tag f).settled slot = s.settled slot := rfl
    have flag (slot : Nat) : (s.modifyEntry tag f).incompleteFlag slot = s.incompleteFlag slot := rfl
    simp only [answerSettled, ih, groupData_modifyEntry, settled, flag]

theorem answerGroups_modifyEntry : answerGroups (s.modifyEntry tag f) = (answerGroups s).modifyEntry tag f := by
  have link : (s.modifyEntry tag f).link = s.link := rfl
  simp only [answerGroups, answerSettled_modifyEntry, link]
  rfl

theorem takeMergesFrom_modifyEntry (rs : List MergeRequest) :
    takeMergesFrom rs (s.modifyEntry tag f) = (takeMergesFrom rs s).modifyEntry tag f := by
  induction rs generalizing s with
  | nil => rfl
  | cons r rest ih =>
    have reads (net : Nat) : (s.modifyEntry tag f).netState r.slot net = s.netState r.slot net := rfl
    simp only [takeMergesFrom, reads]
    split
    · exact ih (releaseReport r.report (.net (s.netState r.slot r.netA).leader) s)
    · rfl

theorem takeMerges_modifyEntry : takeMerges (s.modifyEntry tag f) = (takeMerges s).modifyEntry tag f := by
  cases hw : s.groups.walk with
  | some w => rw [takeMerges_nothing (Or.inl (by simp [hw])), takeMerges_nothing (Or.inl (by simp [hw]))]
  | none =>
    rw [takeMerges_idle hw, takeMerges_idle (s := s.modifyEntry tag f) hw]
    exact takeMergesFrom_modifyEntry s tag f s.groups.queue

theorem queueMerge_modifyEntry (r : MergeRequest) :
    queueMerge r (s.modifyEntry tag f) = (queueMerge r s).modifyEntry tag f := by
  let queued : State := { s with groups := { s.groups with queue := s.groups.queue ++ [r] } }
  exact (congrArg answerGroups (takeMerges_modifyEntry queued tag f)).trans (answerGroups_modifyEntry _ tag f)

theorem dropMerge_modifyEntry (slot : Nat) :
    dropMerge slot (s.modifyEntry tag f) = (dropMerge slot s).modifyEntry tag f := by
  simp only [dropMerge, postEvent_eq]
  rfl

end

/-! ### A SHORT decision (R35, R93, R98, R102, R103) -/

/-- The part with a SHORT report placed and both its nets raised (R93, R98). -/
def State.shortRaised (s : State) (e : Entry) (t : Terminal) (leader : GroupLeader) (held : Bool) : State :=
  raiseNet e.slot (s.stepOf e).netB .short (raiseNet e.slot (s.stepOf e).netA .short
    (s.withReport (dispatchReport e (s.stepOf e).exponent s.tb.microseconds .verdict (some .short) none t.value
      t.saturated false leader) held))

theorem shortRaised_groups (s : State) (e : Entry) (t : Terminal) (leader : GroupLeader) (held : Bool) :
    (s.shortRaised e t leader held).groups = s.groups := by
  simp [State.shortRaised, State.withReport]

/-- With room in the Merge Queue the report is HELD and a request queued (R93, R102). -/
theorem reportShort_of_room {s : State} (h : s.mergeRoom = true) (e : Entry) (t : Terminal) :
    reportShort e t s = queueMerge
      { slot := e.slot, netA := (s.stepOf e).netA.getD 0, netB := (s.stepOf e).netB.getD 0, report := s.reports.nextId }
      (s.shortRaised e t .absent true) := by
  simp only [reportShort, h]
  rfl

/-- On a full Merge Queue the report is UNRESOLVED and the request dropped (R103). -/
theorem reportShort_of_full {s : State} (h : s.mergeRoom = false) (e : Entry) (t : Terminal) :
    reportShort e t s = dropMerge e.slot (s.shortRaised e t .unresolved false) := by
  simp only [reportShort, h]
  rfl

theorem shortRaised_judged {f : Entry → Entry} (hf : JudgesOnly f) (s : State) (e : Entry) (t : Terminal)
    (leader : GroupLeader) (held : Bool) : (s.modifyEntry e.tag f).shortRaised (f e) t leader held
      = (s.shortRaised e t leader held).modifyEntry e.tag f := by
  have step : (s.modifyEntry e.tag f).stepOf (f e) = s.stepOf e := hf.stepOf s e
  have report (exponent : Nat) (now : Word) : dispatchReport (f e) exponent now .verdict (some .short) none t.value
      t.saturated false leader = dispatchReport e exponent now .verdict (some .short) none t.value t.saturated false
      leader := hf.report e { StepRecord.blank with exponent := exponent } now _ _ _ _ _ _ _
  simp only [State.shortRaised, step, hf.slot, report, ← raiseNet_modifyEntry]
  rfl

/-- A SHORT's report, raises and request neither read nor write the Outstanding Table. -/
theorem reportShort_judged {f : Entry → Entry} (hf : JudgesOnly f) (s : State) (e : Entry) (t : Terminal) :
    reportShort (f e) t (s.modifyEntry e.tag f) = (reportShort e t s).modifyEntry e.tag f := by
  have step : (s.modifyEntry e.tag f).stepOf (f e) = s.stepOf e := hf.stepOf s e
  cases h : s.mergeRoom with
  | true =>
    rw [reportShort_of_room h, reportShort_of_room (s := s.modifyEntry e.tag f) h, step, hf.slot, shortRaised_judged hf,
      queueMerge_modifyEntry]
    rfl
  | false =>
    rw [reportShort_of_full h, reportShort_of_full (s := s.modifyEntry e.tag f) h, hf.slot, shortRaised_judged hf,
      dropMerge_modifyEntry]

/-- A SHORT retires its entry (R35). -/
theorem carryOut_short {s : State} (hnd : (s.entries.map Entry.tag).Nodup) {e : Entry} (he : e ∈ s.entries)
    {f : Entry → Entry} (hf : JudgesOnly f) {t : Terminal} (ht : t.verdict = .short) :
    carryOut (f e) (.terminal t) (s.modifyEntry e.tag f) = advanceHead e.lane ((reportShort e t s).closing e) := by
  simp only [carryOut, retire, if_pos ht, reportShort_judged hf]
  exact closeEntry_judged (by simpa using hnd) (by simpa using he) hf

/-- A reduction that ends in SHORT on a lane with no other entry: the entry retires behind its report (R35, R63, R93). -/
theorem reductionComplete_short {dt : Nat} {s : State} {n : LaneId} {e : Entry} {r : Reduction} {t : Terminal}
    (hlow : s.resetLow = false) (hnd : (s.entries.map Entry.tag).Nodup) (hr : s.reductions.get n = some r)
    (he : e ∈ s.entries) (htag : e.tag = r.tag) (hlane : e.lane = n) (hstate : e.state = .judging)
    (ho : e.outcome = none) (ht : e.trigger = none) (hfree : s.reportFree = true) (hshort : t.verdict = .short)
    (hg : e.gen = none ∨ (s.tb.pendingSwitch = none ∧ s.waiting = [])) (halone : ∀ x ∈ s.entries, x.lane = n → x = e)
    (hd : judgeResult (s.stepOf e) (s.rangeOf e) (decide (s.slotAt e.slot = .xout)) e (s.quantityFor r e)
      = .terminal t) :
    Becomes (exec (.reductionComplete dt n) s)
      ((reportShort e t ((elapse dt s).setReduction n none)).retiring e) := by
  subst hlane
  let u := elapse dt s
  let b := reportShort e t (u.setReduction e.lane none)
  have tb : b.tb = u.tb := reportShort_tb e t _
  have gens : b.gens = u.gens := reportShort_gens e t _
  have entries : b.entries = s.entries := (reportShort_entries e t _).trans (elapse_entries dt s)
  have closed : b.closing e = b.retiring e :=
    closing_of_calm (hg.imp_right fun h => by rw [tb]; exact (elapse_pendingSwitch dt s).trans h.1)
  have carried := carryOut_short (s := u.setReduction e.lane none) (by simpa [u] using hnd) (by simpa [u] using he)
    (Entry.withResult_judgesOnly (s.quantityFor r e)) hshort
  have effect : completeReduction e.lane u = b.retiring e :=
    calc completeReduction e.lane u = advanceHead e.lane (b.closing e) :=
          (completeReduction_decides hnd hr he htag hstate ho ht hfree hd).trans carried
      _ = b.closing e := advanceHead_closing (s := s) entries halone
      _ = b.retiring e := closed
  have waits : (b.retiring e).waiting = s.waiting :=
    (waiting_without (s := b) (entries ▸ hnd) (entries ▸ he) (by simp [hstate])).trans (by rw [State.waiting, entries]; rfl)
  have calm : passTriggered u (b.retiring e) = false ∨ (b.retiring e).waiting = [] := by
    refine hg.imp (fun hnone => passTriggered_of_kept (waits.trans (elapse_waiting dt s).symm) ?_ tb)
      (fun h => waits.trans h.2)
    rw [retiring_gens, gens, hnone]
    rfl
  have becomes := takeArbitrated_becomes_of_idle hlow dt (completeReduction e.lane) (effect.symm ▸ calm)
  rw [effect] at becomes
  exact becomes

/-! ### The statement -/

/-- Settles O46: a walk writes record by record, requests are taken in turn, and a SHORT queues its own. -/
theorem walkRelabelsAndJoins : Obligations.WalkRelabelsAndJoins := by
  unfold Obligations.WalkRelabelsAndJoins
  refine ⟨?_, fun s => ⟨takeMerges_nothing, fun r rest hw hq => ⟨takeMerges_completes hw hq, takeMerges_walks hw hq⟩⟩, ?_⟩
  · intro dt w s hlow hcan hwalk hl hh u slot at'
    have groups : u.groups = s.groups := elapse_groups dt s
    have reads (k x : Nat) : u.netState k x = s.netState k x := elapse_netState dt s k x
    have walking : u.groups.walk = some w := (congrArg ShortGroups.walk groups).trans hwalk
    have wf : u.netStates.wf netStateInitial = true := by
      simpa [u] using State.canonical_netStates hcan
    refine ⟨fun m hp hm => ⟨relabelMember w m u, ?_, ?_, fun k x hx => ?_, relabelMember_sameBut w m u⟩,
      fun hp htail => ⟨u.walkJoined w, ?_, ?_, fun x hx => ?_, fun k x hk hx => ?_, walkJoined_reports w u,
        walkJoined_sameBut w u⟩⟩
    · rw [← walkStep_at walking hp]
      exact takeEvent_becomes hlow dt walkStep
    · rw [relabelMember_groups, groups, reads]
    · have relabelled := modifyNet_netState wf hm (slot := slot) (fun y => { y with leader := w.low }) k hx
      simp only [reads] at relabelled
      exact relabelled
    · rw [← endWalk_eq, ← walkFinish_at_end walking hp]
      exact takeEvent_becomes hlow dt walkFinish
    · rw [walkJoined_groups, groups]
    · have joined := joinGroups_netState wf hl hh (by rw [reads]; exact htail) hx
      simp only [reads] at joined
      rw [walkJoined_netState, joined]
      exact ⟨rfl, rfl, rfl, rfl, fun _ => ite_congr rfl (fun h => by rw [h]) (fun _ => rfl)⟩
    · exact (joinGroups_netState_of_slot_ne wf hl hh (by rw [reads]; exact htail) hk hx).trans (reads k x)
  · intro dt n r e t netA netB s hlow hok hr he htag hlane hstate ho ht hroom hg halone u st hA hB hd hshort raised
    let w := u.setReduction n none
    have becomes : Becomes (exec (.reductionComplete dt n) s) ((reportShort e t w).retiring e) :=
      reductionComplete_short hlow (nodup_of_outstandingOk hok) hr he htag hlane hstate ho ht (reportFree_of_lt hroom)
        hshort hg halone hd
    have groups : w.groups = s.groups := elapse_groups dt s
    have step : w.stepOf e = st := elapse_stepOf dt s e
    have target (leader : GroupLeader) (held : Bool) : w.shortRaised e t leader held = raised leader held := by
      simp only [State.shortRaised, step, hA, hB]
      rfl
    have kept (leader : GroupLeader) (held : Bool) : (raised leader held).groups = s.groups := by
      rw [← target, shortRaised_groups, groups]
    refine ⟨fun hlt => ?_, fun hfull => ?_⟩
    · have room : w.mergeRoom = true := by rw [State.mergeRoom, groups]; exact decide_eq_true hlt
      have nextId : w.reports.nextId = s.reports.nextId := elapse_nextId dt s
      rw [reportShort_of_room room, target, step, hA, hB, nextId, queueMerge, kept] at becomes
      exact becomes
    · have full : w.mergeRoom = false := by rw [State.mergeRoom, groups]; exact decide_eq_false (Nat.not_lt.mpr hfull)
      rw [reportShort_of_full full, target, dropMerge, setIncomplete, kept] at becomes
      exact becomes

end Sys2Proof.Machine
end


section
/-! SUPPORT. GROUP requests: when a slot is settled, the answering in receipt order, and a GROUP or LINK_RESET as it is taken
(R110, R111, R112, R174). -/

namespace Sys2Proof.Machine

/-! ### Settled slots and the leaders seen on them (R110, R112) -/

theorem walkOn_isNone_iff (s : State) (slot : Nat) :
    (s.walkOn slot).isNone = true ↔ ∀ w, s.groups.walk = some w → w.request.slot ≠ slot := by
  rw [walkOn_isNone]
  cases s.groups.walk with
  | none => simp
  | some w => simp

theorem settled_iff (s : State) (slot : Nat) : s.settled slot = true ↔
    (∀ r ∈ s.groups.queue, r.slot ≠ slot) ∧ ∀ w, s.groups.walk = some w → w.request.slot ≠ slot := by
  rw [State.settled, Bool.and_eq_true, walkOn_isNone_iff, List.all_eq_true]
  simp only [decide_eq_true_eq]

/-- No walk relabels a settled slot, so that a net there is reported under the leader it has. -/
theorem leaderSeen_of_settled {s : State} {slot : Nat} (h : s.settled slot = true) (net : Nat) :
    s.leaderSeen slot net = (s.netState slot net).leader := by
  obtain ⟨-, hwalk⟩ := (settled_iff s slot).mp h
  unfold State.leaderSeen
  cases walking : s.groups.walk with
  | none => rfl
  | some w => exact if_neg fun on => hwalk w walking on.1

theorem settled_elapse (n : Nat) (s : State) : (elapse n s).settled = s.settled := by
  funext slot
  simp [State.settled, State.walkOn]

/-! ### The answering in receipt order (R110) -/

/-- The leader that the answering reports: the one that Net State records. -/
def State.recordedLeader (s : State) (slot net : Nat) : Nat := (s.netState slot net).leader

theorem groupAnswered_of_given {s : State} {r : ReplyEntry} {code : ReplyCode} {data : List Byte}
    (h : r.answer = .given code data) (leader : Nat → Nat → Nat) (flag : Nat → Bool) :
    s.groupAnswered leader flag r = r := by
  rw [State.groupAnswered, h]

theorem groupAnswered_of_waiting {s : State} {r : ReplyEntry} {slot net : Nat} (h : r.answer = .waitingGroup slot net)
    (leader : Nat → Nat → Nat) (flag : Nat → Bool) : s.groupAnswered leader flag r
      = { r with answer := .given .ok (s.groupReply slot net (leader slot net) (flag slot)) } := by
  rw [State.groupAnswered, h]

theorem map_groupAnswered_of_given (s : State) {l : List ReplyEntry}
    (h : ∀ r ∈ l, ∃ code data, r.answer = .given code data) (leader : Nat → Nat → Nat) (flag : Nat → Bool) :
    l.map (s.groupAnswered leader flag) = l :=
  (List.map_congr_left fun r hr =>
    let ⟨_, _, given⟩ := h r hr
    groupAnswered_of_given given leader flag).trans (List.map_id _)

/-- Frames whose slots are settled are all answered, and the answering goes on behind them. -/
theorem answerSettled_append (s : State) (before rest : List ReplyEntry)
    (h : ∀ r ∈ before, ∀ slot net, r.answer = .waitingGroup slot net → s.settled slot = true) :
    answerSettled s (before ++ rest)
      = before.map (s.groupAnswered s.recordedLeader s.incompleteFlag) ++ answerSettled s rest := by
  induction before with
  | nil => rfl
  | cons r before ih =>
    have behind := ih fun x hx => h x (List.mem_cons_of_mem r hx)
    cases answer : r.answer with
    | given code data =>
      simp only [List.cons_append, List.map_cons, answerSettled, answer, groupAnswered_of_given answer, behind]
    | waitingGroup slot net =>
      have settled := h r List.mem_cons_self slot net answer
      have reply : groupData s slot net (s.incompleteFlag slot)
          = s.groupReply slot net (s.recordedLeader slot net) (s.incompleteFlag slot) := by
        rw [groupData_eq_groupReply, leaderSeen_of_settled settled, State.recordedLeader]
      simp only [List.cons_append, List.map_cons, answerSettled, answer, settled, groupAnswered_of_waiting answer,
        reply, behind, if_true]

/-- The answering goes no further into the list: it is empty, or its first frame is a GROUP of a slot not settled. -/
def State.Blocked (s : State) (l : List ReplyEntry) : Prop :=
  l = [] ∨ ∃ r after slot net, l = r :: after ∧ r.answer = .waitingGroup slot net ∧ s.settled slot = false

theorem answerSettled_of_blocked {s : State} {l : List ReplyEntry} (h : s.Blocked l) : answerSettled s l = l := by
  obtain rfl | ⟨r, after, slot, net, rfl, answer, unsettled⟩ := h
  · rfl
  · simp [answerSettled, answer, unsettled]

/-- The answering takes the waiting GROUPs up to the first whose slot is not settled. -/
theorem answerGroups_of_split {s : State} {before rest : List ReplyEntry} (hl : s.link.replies = before ++ rest)
    (hbefore : ∀ r ∈ before, ∀ slot net, r.answer = .waitingGroup slot net → s.settled slot = true)
    (hrest : s.Blocked rest) : answerGroups s = { s with link := { s.link with
      replies := before.map (s.groupAnswered s.recordedLeader s.incompleteFlag) ++ rest } } := by
  rw [answerGroups, hl, answerSettled_append s before rest hbefore, answerSettled_of_blocked hrest]

/-- Behind answered frames, a GROUP of a slot not settled keeps every later one waiting. -/
theorem answerGroups_of_blocked {s : State} {before rest : List ReplyEntry} (hl : s.link.replies = before ++ rest)
    (hgiven : ∀ r ∈ before, ∃ code data, r.answer = .given code data) (hrest : s.Blocked rest) : answerGroups s = s := by
  have settled : ∀ r ∈ before, ∀ slot net, r.answer = .waitingGroup slot net → s.settled slot = true := by
    intro r hr slot net waits
    obtain ⟨code, data, given⟩ := hgiven r hr
    exact absurd (given.symm.trans waits) Answer.noConfusion
  rw [answerGroups_of_split hl settled hrest, map_groupAnswered_of_given s hgiven, ← hl]

/-! ### A GROUP as it is taken (R110, R111) -/

/-- The frame of a GROUP request that waits for its answer. -/
def waitingFrame (seq slot : Byte) (net : Half) : ReplyEntry :=
  { kind := kindRequest, seq := seq, answer := .waitingGroup slot.toNat net.toNat, linkReset := false }

theorem takeGroup_of_out_of_range {slot : Byte} {net : Half} (h : 7 < slot.toNat ∨ 4095 < net.toNat) (seq : Byte)
    (s : State) : takeGroup seq slot net s = s.withReply (answered kindRequest seq .badRequest []) :=
  if_pos h

/-- A GROUP in range joins the reply list, and the answering follows. -/
theorem takeGroup_of_in_range {slot : Byte} {net : Half} (hslot : slot.toNat ≤ 7) (hnet : net.toNat ≤ 4095) (seq : Byte)
    (s : State) : takeGroup seq slot net s = answerGroups (s.withReply (waitingFrame seq slot net)) :=
  if_neg (by omega)

/-- What a GROUP reply reports does not depend on the reply list. -/
theorem groupReply_withReply (s : State) (r : ReplyEntry) : (s.withReply r).groupReply = s.groupReply := by
  funext slot net leader incomplete
  simp only [State.groupReply, groupList_congr (a := s.withReply r) (b := s) rfl]
  rfl

/-- A GROUP of a settled slot is answered as it joins answered frames. -/
theorem answerGroups_withReply_settled {s : State} (hgroups : s.NoWaitingGroup) (seq : Byte) {slot : Byte}
    (hsettled : s.settled slot.toNat = true) (net : Half) :
    answerGroups (s.withReply (waitingFrame seq slot net)) = s.withReply (answered kindRequest seq .ok
      (s.groupReply slot.toNat net.toNat (s.netState slot.toNat net.toNat).leader (s.incompleteFlag slot.toNat))) := by
  let joined := s.withReply (waitingFrame seq slot net)
  have settled : ∀ r ∈ joined.link.replies, ∀ k m, r.answer = .waitingGroup k m → joined.settled k = true := by
    intro r hr k m waits
    obtain held | last := List.mem_append.mp hr
    · obtain ⟨code, data, given⟩ := hgroups r held
      exact absurd (given.symm.trans waits) Answer.noConfusion
    · obtain rfl := List.mem_singleton.mp last
      obtain ⟨rfl, rfl⟩ := Answer.waitingGroup.inj waits
      exact hsettled
  have replies : joined.link.replies.map (joined.groupAnswered joined.recordedLeader joined.incompleteFlag)
      = s.link.replies ++ [answered kindRequest seq .ok
        (s.groupReply slot.toNat net.toNat (s.netState slot.toNat net.toNat).leader (s.incompleteFlag slot.toNat))] := by
    rw [show joined.link.replies = s.link.replies ++ [waitingFrame seq slot net] from rfl, List.map_append,
      map_groupAnswered_of_given joined hgroups, List.map_singleton, groupAnswered_of_waiting rfl, groupReply_withReply]
    rfl
  rw [answerGroups_of_split (List.append_nil _).symm settled (.inl rfl), replies, List.append_nil]
  rfl

/-- A GROUP joins the reply list without an answer when, with it, the frames behind the answered ones are blocked. -/
theorem answerGroups_withReply_blocked {s : State} {before rest : List ReplyEntry} {r : ReplyEntry}
    (hl : s.link.replies ++ [r] = before ++ rest) (hgiven : ∀ x ∈ before, ∃ code data, x.answer = .given code data)
    (hrest : s.Blocked rest) : answerGroups (s.withReply r) = s.withReply r :=
  answerGroups_of_blocked (s := s.withReply r) hl hgiven hrest

/-! ### A LINK_RESET as it is taken (R112, R174) -/

theorem groupAnswered_elapse (n : Nat) (s : State) : (elapse n s).groupAnswered = s.groupAnswered := by
  funext leader flag r
  simp only [State.groupAnswered, groupReply_elapse]

theorem incompleteFlag_elapse (n : Nat) (s : State) : (elapse n s).incompleteFlag = s.incompleteFlag := by
  funext slot
  simp [State.incompleteFlag]

/-- A LINK_RESET answers every waiting GROUP, then enters its own OK and stops the receiver. -/
theorem exec_linkReset_becomes {s : State} (hs : s.TakesFrames) (dt : Nat) (seq : Byte) :
    Becomes (exec (.linkReset dt seq) s) { elapse dt s with link := { (elapse dt s).link with
      receiving := false
      replies := s.link.replies.map (s.groupAnswered s.leaderSeen s.incompleteFlag) ++
        [{ kind := kindRequest, seq := seq, answer := .given .ok [], linkReset := true }] } } := by
  have replies : (answerAllGroups (elapse dt s).incompleteFlag (elapse dt s)).link.replies
      = s.link.replies.map (s.groupAnswered s.leaderSeen s.incompleteFlag) := by
    rw [answerAllGroups_link, groupAnswered_elapse, leaderSeen_elapse, incompleteFlag_elapse, elapse_replies]
  rw [← replies]
  exact takeEvent_takeFrame_becomes hs dt _

/-! ### The statement -/

/-- Settles O20: the answering stops at the first GROUP of a slot not settled, and a GROUP joins behind what waits. -/
theorem groupAnsweredWhenSettled : Obligations.GroupAnsweredWhenSettled := by
  unfold Obligations.GroupAnsweredWhenSettled
  refine ⟨?_, fun k s => settled_iff s k, fun k n m s => ⟨rfl, by cases n <;> rfl, rfl⟩, rfl,
    fun s before rest hl hbefore hrest => answerGroups_of_split hl hbefore hrest⟩
  intro dt seq slot net s hs u leader count members o joined
  have becomes : Becomes o (takeGroup seq slot net u) := takeEvent_takeFrame_becomes hs dt _
  have replies : u.link.replies = s.link.replies := elapse_replies dt s
  have settled : u.settled = s.settled := settled_elapse dt s
  refine ⟨fun hout => ?_, fun hslot hnet hgroups hset => ?_, fun hslot hnet hgroups hunset => ?_,
    fun before r after k m hslot hnet hl hgiven hwaits hunset => ?_, exec_linkReset_becomes hs dt seq⟩
  · exact takeGroup_of_out_of_range hout seq u ▸ becomes
  · rw [takeGroup_of_in_range hslot hnet,
      answerGroups_withReply_settled (fun r hr => hgroups r (replies ▸ hr)) seq (settled ▸ hset) net,
      groupReply_elapse, elapse_netState, incompleteFlag_elapse] at becomes
    rw [State.groupReply, byte_toNat_self] at becomes
    exact becomes
  · have blocked : u.Blocked [waitingFrame seq slot net] :=
      .inr ⟨_, _, _, _, rfl, rfl, settled ▸ hunset⟩
    rw [takeGroup_of_in_range hslot hnet,
      answerGroups_withReply_blocked rfl (fun r hr => hgroups r (replies ▸ hr)) blocked] at becomes
    exact becomes
  · have split : u.link.replies ++ [waitingFrame seq slot net] = before ++ (r :: after ++ [waitingFrame seq slot net]) := by
      rw [replies, hl, List.append_assoc]
    have blocked : u.Blocked (r :: after ++ [waitingFrame seq slot net]) :=
      .inr ⟨_, _, _, _, rfl, hwaits, settled ▸ hunset⟩
    rw [takeGroup_of_in_range hslot hnet, answerGroups_withReply_blocked split hgiven blocked] at becomes
    exact becomes

end Sys2Proof.Machine
end

section
/-! SUPPORT. DEFERRAL_DEADLINE: what the deadlines that are reached do to the Deferred List, and which EXPIRED entries find a
place (R125, R130, R132). -/

namespace Sys2Proof.Machine

theorem foldl_postEvent_sigs (code : EventCode) (net : DeferredEntry → Nat) (l : List DeferredEntry) (s : State) :
    (l.foldl (fun a d => postEvent code (net d) a) s).sigs = s.sigs :=
  foldl_keeps State.sigs _ (fun _ _ => postEvent_sigs ..) l s

/-- What expiry makes of the Signature Unit: the entries that are due are EXPIRED, in their places (R130). -/
theorem expireDue_sigs (s : State) : (expireDue s).sigs = { s.sigs with
    deferred := s.sigs.deferred.map (fun d => if d.due s.tb.seconds then { d with expired := true } else d) } :=
  foldl_postEvent_sigs _ _ _ _

theorem expireDue_reportFree (s : State) : (expireDue s).reportFree = s.reportFree := by
  simp only [State.reportFree, expireDue_reports]

/-- On a full Report Queue the oldest EXPIRED entry finds no place (R130). -/
theorem placeExpired_of_full {s : State} (hfull : s.reportFree = false) : placeExpired s = s := by
  unfold placeExpired
  cases s.oldestExpired with
  | none => rfl
  | some i =>
    simp only [hfull]
    cases s.sigs.deferred[i]? <;> rfl

theorem repeat_of_fixed {f : State → State} {s : State} (h : f s = s) (k : Nat) : Nat.repeat f k s = s := by
  induction k with
  | zero => rfl
  | succ k ih => exact (congrArg f ih).trans h

/-- On a full Report Queue every EXPIRED entry waits in the list (R130). -/
theorem placeAllExpired_of_full {s : State} (hfull : s.reportFree = false) : placeAllExpired s = s :=
  repeat_of_fixed (placeExpired_of_full hfull) _

/-- The oldest EXPIRED entry leaves the list as an UNREF where a place is free (R130, R132). -/
theorem placeExpired_oldest {s : State} {before after : List DeferredEntry} {d : DeferredEntry}
    (h : s.OldestExpired before d after) (hfree : s.reportFree = true) :
    placeExpired s = s.expiredPlaced before d after := by
  have entry : s.sigs.deferred[before.length]? = some d := by simp [h.1]
  simp only [placeExpired, oldestExpired_eq h, entry, hfree, if_true]
  exact removeDeferred_append (s := s.withReport _ false) h.1

/-- A single EXPIRED entry that finds a place empties the list. -/
theorem placeAllExpired_single {s : State} {d : DeferredEntry} (h : s.sigs.deferred = [d]) (hexp : d.expired = true)
    (hfree : s.reportFree = true) : placeAllExpired s = s.expiredPlaced [] d [] := by
  rw [placeAllExpired, h]
  exact placeExpired_oldest ⟨h, nofun, hexp⟩ hfree

/-- An IDLE scan has no position that an entry's leaving could move (R126, R127). -/
theorem Scan.without_of_idle {x : Scan} (h : x.scanning = false) (i length : Nat) : x.without i length = x := by
  simp [Scan.without, h]

theorem postEvent_withScan (code : EventCode) (p : Nat) (s : State) (l : List DeferredEntry) (x : Scan) :
    postEvent code p (s.withScan l x) = (postEvent code p s).withScan l x := by
  rw [postEvent_eq, postEvent_eq]
  rfl

theorem expireDue_single {s : State} {d : DeferredEntry} (h : s.sigs.deferred = [d]) (hdue : d.due s.tb.seconds = true) :
    expireDue s = (postEvent .deferredExpired d.net s).withScan [{ d with expired := true }] s.sigs.scan := by
  rw [← postEvent_withScan]
  simp [expireDue, h, hdue, State.withScan]

/-- A single due entry, with a place free and the scan IDLE, expires and leaves as an UNREF in one event (R130, R132). -/
theorem placeAllExpired_expireDue_single {s : State} {d : DeferredEntry} (h : s.sigs.deferred = [d])
    (hdue : d.due s.tb.seconds = true) (hidle : s.sigs.scan.scanning = false) (hfree : s.reportFree = true) :
    placeAllExpired (expireDue s) = (postEvent .deferredExpired d.net (s.withScan [] s.sigs.scan)).withReport
      (deferredReport d .unref s.tb.microseconds) false := by
  have free : (expireDue s).reportFree = true := (expireDue_reportFree s).trans hfree
  have list : (expireDue s).sigs.deferred = [{ d with expired := true }] := by simp [expireDue_sigs, h, hdue]
  have scan : (expireDue s).sigs.scan = s.sigs.scan := by rw [expireDue_sigs]
  rw [placeAllExpired_single list rfl free, State.expiredPlaced, scan, Scan.without_of_idle hidle, expireDue_tb,
    expireDue_single h hdue, postEvent_withScan]
  rfl

/-- Settles O48: on a full Report Queue nothing follows the expiry; a single entry with a place leaves at once. -/
theorem deadlinesExpireDeferredEntries : Obligations.DeadlinesExpireDeferredEntries := by
  unfold Obligations.DeadlinesExpireDeferredEntries
  intro dt s hlow u due expired
  have sigs : u.sigs = s.sigs := elapse_sigs dt s
  have becomes : Becomes (exec (.deferralDeadline dt) s) (placeAllExpired (expireDue u)) :=
    takeEvent_becomes hlow dt fun s => placeAllExpired (expireDue s)
  refine ⟨fun hfull => ?_, fun d hd hdue hidle hroom => ?_⟩
  · have full : (expireDue u).reportFree = false :=
      (expireDue_reportFree u).trans ((elapse_reportFree dt s).trans (decide_eq_false (Nat.not_lt.mpr hfull)))
    have expiry : expireDue u = expired := by
      simp only [expired, ← sigs]
      rfl
    rw [placeAllExpired_of_full full, expiry] at becomes
    exact becomes
  · have free : u.reportFree = true := (elapse_reportFree dt s).trans (reportFree_of_lt hroom)
    rw [placeAllExpired_expireDue_single (sigs ▸ hd) hdue (sigs ▸ hidle) free] at becomes
    exact becomes

end Sys2Proof.Machine
end

section
/-! SUPPORT. The agreement of the generators with the Outstanding Table (R136, R138): what it says of entries and generators,
what leaves it alone, and how attaching, releasing and fixing keep it. -/

namespace Sys2Proof.Machine

/-! ### The agreement -/

/-- What the agreement looks at in an entry. -/
def Entry.bond (e : Entry) : Half × EntryState × Option GenId × Option FixedOutcome := (e.tag, e.state, e.gen, e.outcome)

/-- What the agreement looks at in a generator. -/
def Generator.role (x : Generator) : GenState × Nat × Option Nat := (x.state, x.users, x.target)

/-- An entry with a fixed outcome is JUDGING, and attached to nothing unless it is about to release its generator; an
attached one is FORWARDED or JUDGING (R26, R36). -/
structure Entry.Tied (releasing : List Half) (e : Entry) : Prop where
  fixed : e.outcome ≠ none → e.state = .judging ∧ (e.gen = none ∨ e.tag ∈ releasing)
  attached : e.gen ≠ none → e.state = .forwarded ∨ e.state = .judging

/-- A generator with a number of users: RUNNING with any, with a target exactly while RETUNING (R136, R138). -/
structure Generator.Serves (x : Generator) (n : Nat) : Prop where
  users : x.users = n
  running : x.state = .running ↔ 0 < n
  target : x.target.isSome = true ↔ x.state = .retuning

/-- The generators agree with the Outstanding Table, in which the entries of some tags are about to release theirs (R36). -/
structure State.Tied (s : State) (releasing : List Half) : Prop where
  nodup : (s.entries.map Entry.tag).Nodup
  entries : ∀ e ∈ s.entries, e.Tied releasing
  gens : ∀ g, (s.gen g).Serves (s.attached g).length

theorem Entry.attachmentOk_iff (e : Entry) : e.attachmentOk = true ↔ e.Tied [] := by
  have fixed : (e.outcome.isNone || (decide (e.state = .judging) && e.gen.isNone)) = true
      ↔ (e.outcome ≠ none → e.state = .judging ∧ (e.gen = none ∨ e.tag ∈ [])) := by
    cases e.outcome <;> simp
  have attached : (e.gen.isNone || decide (e.state = .forwarded) || decide (e.state = .judging)) = true
      ↔ (e.gen ≠ none → e.state = .forwarded ∨ e.state = .judging) := by
    cases e.gen <;> simp
  rw [Entry.attachmentOk, Bool.and_eq_true, fixed, attached]
  exact ⟨fun h => ⟨h.1, h.2⟩, fun h => ⟨h.fixed, h.attached⟩⟩

theorem State.genOk_iff (s : State) (g : GenId) : s.genOk g = true ↔ (s.gen g).Serves (s.attached g).length := by
  simp only [State.genOk, Bool.and_eq_true, decide_eq_true_eq, beq_iff_eq]
  constructor
  · rintro ⟨⟨users, running⟩, target⟩
    exact ⟨users, users ▸ decide_eq_decide.mp running, by rw [target, decide_eq_true_eq]⟩
  · intro h
    exact ⟨⟨h.users, decide_eq_decide.mpr (h.users.symm ▸ h.running)⟩,
      Bool.eq_iff_iff.mpr (h.target.trans decide_eq_true_iff.symm)⟩

theorem excitationOk_iff (s : State) : s.excitationOk = true ↔ s.Tied [] := by
  simp only [State.excitationOk, Bool.and_eq_true, decide_eq_true_eq, List.all_eq_true, Entry.attachmentOk_iff,
    State.genOk_iff]
  constructor
  · rintro ⟨⟨⟨nodup, entries⟩, g0⟩, g1⟩
    exact ⟨nodup, entries, fun g => by fin_cases g <;> assumption⟩
  · exact fun h => ⟨⟨⟨h.nodup, h.entries⟩, h.gens 0⟩, h.gens 1⟩

/-! ### What leaves the agreement alone -/

/-- The number of entries attached to a generator is read off the bonds. -/
theorem attached_length (s : State) (g : GenId) :
    (s.attached g).length = (s.entries.map Entry.bond).countP (fun b => decide (b.2.2.1 = some g)) := by
  rw [List.countP_map, State.attached, ← List.countP_eq_length_filter]
  rfl

theorem Entry.Tied.of_bond {releasing : List Half} {e e' : Entry} (h : e.Tied releasing) (hb : e'.bond = e.bond) :
    e'.Tied releasing := by
  simp only [Entry.bond, Prod.mk.injEq] at hb
  obtain ⟨tag, state, gen, outcome⟩ := hb
  exact ⟨by rw [outcome, state, gen, tag]; exact h.fixed, by rw [gen, state]; exact h.attached⟩

theorem Entry.Tied.mono {releasing releasing' : List Half} {e : Entry} (h : e.Tied releasing)
    (hr : e.tag ∈ releasing → e.tag ∈ releasing') : e.Tied releasing' :=
  ⟨fun fixed => ⟨(h.fixed fixed).1, (h.fixed fixed).2.imp_right hr⟩, h.attached⟩

theorem Generator.Serves.of_role {x y : Generator} {n : Nat} (h : x.Serves n) (hr : y.role = x.role) : y.Serves n := by
  simp only [Generator.role, Prod.mk.injEq] at hr
  obtain ⟨state, users, target⟩ := hr
  exact ⟨users.trans h.users, state ▸ h.running, by rw [target, state]; exact h.target⟩

section
variable {s t : State} {releasing : List Half} (h : s.Tied releasing)
include h

theorem State.Tied.of_bonds (hb : t.entries.map Entry.bond = s.entries.map Entry.bond)
    (hr : ∀ g, (t.gen g).role = (s.gen g).role) : t.Tied releasing where
  nodup := by
    have tags : ∀ s : State, s.entries.map Entry.tag = (s.entries.map Entry.bond).map Prod.fst := by
      intro s
      simp [Entry.bond, Function.comp_def]
    rw [tags, hb, ← tags]
    exact h.nodup
  entries e he := by
    have mem : e.bond ∈ s.entries.map Entry.bond := hb ▸ List.mem_map_of_mem he
    obtain ⟨x, hx, same⟩ := List.mem_map.mp mem
    exact (h.entries x hx).of_bond same.symm
  gens g := by
    rw [attached_length, hb, ← attached_length]
    exact (h.gens g).of_role (hr g)

theorem State.Tied.of_kept (he : t.entries = s.entries) (hg : t.gens = s.gens) : t.Tied releasing :=
  h.of_bonds (by rw [he]) fun g => by rw [State.gen, hg]; rfl

theorem State.Tied.mono {releasing' : List Half} (hr : ∀ tag ∈ releasing, tag ∈ releasing') : s.Tied releasing' :=
  ⟨h.nodup, fun e he => (h.entries e he).mono (hr e.tag), h.gens⟩

/-- Entries changed in nothing that the agreement looks at. -/
theorem State.Tied.mapEntries {f : Entry → Entry} (hf : ∀ e, (f e).bond = e.bond) (he : t.entries = s.entries.map f)
    (hg : t.gens = s.gens) : t.Tied releasing :=
  h.of_bonds (by simp [he, hf]) fun g => by rw [State.gen, hg]; rfl

/-- Generators changed in nothing that the agreement looks at. -/
theorem State.Tied.mapGens {f : Generator → Generator} (hf : ∀ x, (f x).role = x.role) (he : t.entries = s.entries)
    (hg : t.gens = s.gens.map f) : t.Tied releasing :=
  h.of_bonds (by rw [he]) fun g => by rw [State.gen, hg, PerGen.get_map]; exact hf _

end

/-! ### A change of one entry -/

/-- The entry of a tag is attached or not, whatever the others are. -/
theorem attached_change {l : List Entry} (hnd : (l.map Entry.tag).Nodup) {e : Entry} (he : e ∈ l) (f : Entry → Entry)
    (g : GenId) :
    ∃ others, l.countP (fun x => decide (x.gen = some g)) = others + (if e.gen = some g then 1 else 0)
      ∧ (l.map (fun x => if x.tag = e.tag then f x else x)).countP (fun x => decide (x.gen = some g))
        = others + (if (f e).gen = some g then 1 else 0) := by
  obtain ⟨before, after, rfl⟩ := List.append_of_mem he
  have distinct : ∀ x ∈ before ++ after, x.tag ≠ e.tag := by
    intro x hx ht
    have mid := (List.perm_middle (a := e) (l₁ := before) (l₂ := after)).map Entry.tag
    exact (List.nodup_cons.mp (mid.nodup_iff.mp hnd)).1 (ht ▸ List.mem_map_of_mem hx)
  have kept : ∀ m : List Entry, (∀ x ∈ m, x.tag ≠ e.tag) → m.map (fun x => if x.tag = e.tag then f x else x) = m := by
    intro m hm
    exact (List.map_congr_left fun x hx => if_neg (hm x hx)).trans (List.map_id _)
  refine ⟨before.countP (fun x => decide (x.gen = some g)) + after.countP (fun x => decide (x.gen = some g)), ?_, ?_⟩
  · simp only [List.countP_append, List.countP_cons, decide_eq_true_eq]
    omega
  · rw [List.map_append, List.map_cons, kept before fun x hx => distinct x (List.mem_append_left _ hx),
      kept after fun x hx => distinct x (List.mem_append_right _ hx)]
    simp only [List.countP_append, List.countP_cons, decide_eq_true_eq, if_true]
    omega

/-- The entry of a tag changes, and the generators with it: each goes on serving the other entries, and this one when it is
attached to it. -/
theorem State.Tied.change {s t : State} {releasing releasing' : List Half} (h : s.Tied releasing) {e : Entry}
    (he : e ∈ s.entries) {f : Entry → Entry} (htag : ∀ x, (f x).tag = x.tag)
    (hentries : t.entries = (s.modifyEntry e.tag f).entries) (own : (f e).Tied releasing')
    (others : ∀ x ∈ s.entries, x.tag ≠ e.tag → x.Tied releasing')
    (gens : ∀ g n, (s.gen g).Serves (n + if e.gen = some g then 1 else 0) →
      (t.gen g).Serves (n + if (f e).gen = some g then 1 else 0)) : t.Tied releasing' where
  nodup := by
    rw [hentries, modifyEntry_tags htag]
    exact h.nodup
  entries x hx := by
    rw [hentries] at hx
    obtain ⟨y, hy, rfl⟩ := List.mem_map.mp hx
    split
    · rename_i ht
      exact eq_of_tag_eq h.nodup he hy ht ▸ own
    · rename_i ht
      exact others y hy ht
  gens g := by
    obtain ⟨n, old, new⟩ := attached_change h.nodup he f g
    have before := h.gens g
    rw [State.attached, ← List.countP_eq_length_filter, old] at before
    rw [State.attached, ← List.countP_eq_length_filter, hentries, State.modifyEntry, new]
    exact gens g n before

section
variable {s : State} {releasing : List Half} (h : s.Tied releasing)
include h

/-- The entry of a tag changes in its state alone, to one that it may be in. -/
theorem State.Tied.restate {e : Entry} (he : e ∈ s.entries) {f : Entry → Entry} (htag : ∀ x, (f x).tag = x.tag)
    (hgen : (f e).gen = e.gen) (own : (f e).Tied releasing) {t : State}
    (hentries : t.entries = (s.modifyEntry e.tag f).entries) (hgens : t.gens = s.gens) : t.Tied releasing :=
  h.change he htag hentries own (fun x hx _ => h.entries x hx) fun g n served => by
    rw [State.gen, hgens, hgen]
    exact served

/-- An entry with no outcome fixed is forwarded, attached or not (R27). -/
theorem State.Tied.forward {tag : Half} (ho : ∀ e ∈ s.entries, e.tag = tag → e.outcome = none) :
    (forward tag s).Tied releasing := by
  cases he : s.entry? tag with
  | none => simpa [Machine.forward, he] using h
  | some e =>
    have mem := List.mem_of_find?_eq_some he
    obtain rfl := entry?_tag he
    rw [forward_of_entry? he]
    exact h.restate mem (f := fun x => x.forwarded (s.stepOf e) s.now s.tb.source) (fun _ => rfl) rfl
      ⟨fun fixed => absurd (ho e mem rfl) fixed, fun _ => Or.inl rfl⟩ rfl rfl

/-- The head of a lane advances: it has no outcome fixed, and one that is QUEUED is not attached (R25, R26). -/
theorem State.Tied.advanceHead (n : LaneId) : (advanceHead n s).Tied releasing := by
  cases hl : s.orderList n with
  | nil => simpa [Machine.advanceHead, hl] using h
  | cons e rest =>
    have head : e ∈ s.orderList n := hl ▸ List.mem_cons_self
    obtain ⟨mem, -⟩ := mem_of_orderList head
    have unfixed : e.outcome = none := by
      obtain ⟨-, hp⟩ := List.mem_filter.mp head
      rw [Bool.and_eq_true, Option.isNone_iff_eq_none] at hp
      exact hp.2
    by_cases hq : e.state = .queued
    · by_cases hm : (s.stepOf e).method = .cap
      · have free : e.gen = none := by
          by_contra attached
          simpa [hq] using (h.entries e mem).attached attached
        rw [advanceHead_cap hl hq hm]
        exact h.restate mem (f := fun x => { x with state := .waitExc }) (fun _ => rfl) rfl
          ⟨fun fixed => absurd unfixed fixed, fun attached => absurd free attached⟩ rfl rfl
      · rw [advanceHead_forward hl hq hm]
        exact h.forward fun x hx ht => eq_of_tag_eq h.nodup mem hx ht ▸ unfixed
    · rw [advanceHead_of_past hl hq]
      exact h

theorem State.Tied.advanceHeads : (advanceHeads s).Tied releasing :=
  foldl_preserves (P := (State.Tied · releasing)) (f := fun a m => Machine.advanceHead m a)
    (fun _ m ha => ha.advanceHead m) allLanes h

end

/-! ### Changes of source (R145, R150) -/

theorem Generator.sourceChanged_role (x : Generator) : x.sourceChanged.role = x.role := by
  unfold Generator.sourceChanged
  split <;> rfl

section
variable {s : State} {releasing : List Half} (h : s.Tied releasing)
include h

theorem State.Tied.switchedTo (p : Source) : (s.switchedTo p).Tied releasing :=
  h.mapGens Generator.sourceChanged_role (by rw [State.switchedTo, postEvent_eq])
    (by rw [State.switchedTo, postEvent_eq]; rfl)

theorem State.Tied.checkSwitch : (checkSwitch s).Tied releasing := by
  cases hp : s.tb.pendingSwitch with
  | none => exact (checkSwitch_of_calm hp).symm ▸ h
  | some p =>
    rw [checkSwitch_of_pending hp]
    split
    · exact h.switchedTo p
    · exact h

end

/-! ### Releasing a generator (R138) -/

/-- A generator with one user fewer (R138). -/
theorem Generator.Serves.release {x : Generator} {n : Nat} (h : x.Serves (n + 1)) :
    ({ x with users := x.users - 1, state := if x.users - 1 = 0 then .idle else x.state } : Generator).Serves n := by
  have users : x.users - 1 = n := by rw [h.users, Nat.add_sub_cancel]
  have running : x.state = .running := h.running.mpr n.succ_pos
  have target : x.target.isSome = false := by
    rw [Bool.eq_false_iff, Ne, h.target, running]
    exact nofun
  rcases Nat.eq_zero_or_pos n with rfl | pos
  · refine ⟨users, ?_, ?_⟩ <;> simp [users, target]
  · refine ⟨users, ?_, ?_⟩ <;> simp [users, target, running, pos, pos.ne']

section
variable {s : State} {tag : Half} {rest : List Half} (h : s.Tied (tag :: rest))
include h

/-- Once an entry has released its generator it is attached to nothing (R35, R138). -/
theorem State.Tied.releaseGen : (releaseGen tag s).Tied rest
    ∧ ∀ e ∈ (releaseGen tag s).entries, e.tag = tag → e.gen = none := by
  have others : ∀ x ∈ s.entries, x.tag ≠ tag → x.Tied rest := fun x hx ht =>
    (h.entries x hx).mono fun mem => (List.mem_cons.mp mem).resolve_left ht
  cases he : s.entry? tag with
  | none =>
    have absent : ∀ x ∈ s.entries, x.tag ≠ tag := by simpa using List.find?_eq_none.mp he
    rw [show Machine.releaseGen tag s = s by simp [Machine.releaseGen, he]]
    exact ⟨⟨h.nodup, fun x hx => others x hx (absent x hx), h.gens⟩, fun x hx ht => absurd ht (absent x hx)⟩
  | some e =>
    have mem := List.mem_of_find?_eq_some he
    obtain rfl := entry?_tag he
    cases hg : e.gen with
    | none =>
      have own : ∀ x ∈ s.entries, x.tag = e.tag → x.gen = none := fun x hx ht => eq_of_tag_eq h.nodup mem hx ht ▸ hg
      rw [releaseGen_of_none he hg]
      refine ⟨⟨h.nodup, fun x hx => ?_, h.gens⟩, own⟩
      by_cases ht : x.tag = e.tag
      · exact ⟨fun fixed => ⟨((h.entries x hx).fixed fixed).1, Or.inl (own x hx ht)⟩, (h.entries x hx).attached⟩
      · exact others x hx ht
    | some k =>
      rw [releaseGen_of_gen he hg]
      let freed : State := { s.modifyEntry e.tag (fun y => { y with gen := none }) with gens := releasedGens s.gens e.gen }
      have tied : freed.Tied rest := by
        refine h.change mem (f := fun y => { y with gen := none }) (fun _ => rfl) rfl
          ⟨fun fixed => ⟨((h.entries e mem).fixed fixed).1, Or.inl rfl⟩, fun attached => absurd rfl attached⟩ others
          fun g n served => ?_
        by_cases hk : g = k
        · subst hk
          rw [if_pos hg] at served
          have gen : freed.gen g = _ := (congrArg (PerGen.get · g) (congrArg (releasedGens s.gens) hg)).trans
            (PerGen.get_set_self s.gens g _)
          rw [gen]
          exact served.release
        · rw [if_neg (by simpa [hg] using fun same => hk same.symm)] at served
          have gen : freed.gen g = s.gen g := (congrArg (PerGen.get · g) (congrArg (releasedGens s.gens) hg)).trans
            (PerGen.get_set_of_ne s.gens hk _)
          rw [gen]
          exact served
      refine ⟨tied.checkSwitch, fun x hx ht => ?_⟩
      rw [checkSwitch_entries] at hx
      obtain ⟨y, hy, rfl⟩ := List.mem_map.mp hx
      split
      · rfl
      · rename_i hne
        rw [if_neg hne] at ht
        exact absurd ht hne

end

/-- The entries of some tags release their generators in turn (R36). -/
theorem State.Tied.releaseAll (tags : List Half) : ∀ {s : State}, s.Tied tags →
    (tags.foldl (fun s t => Machine.releaseGen t s) s).Tied [] := by
  induction tags with
  | nil => exact id
  | cons tag rest ih => exact fun h => ih h.releaseGen.1

/-! ### Entries that leave and entries that are fixed (R35, R36) -/

/-- An entry that is attached to nothing leaves the table. -/
theorem State.Tied.removeEntry {s : State} {releasing : List Half} (h : s.Tied releasing) {tag : Half}
    (free : ∀ e ∈ s.entries, e.tag = tag → e.gen = none) : (s.removeEntry tag).Tied releasing where
  nodup := (List.filter_sublist.map Entry.tag).nodup h.nodup
  entries e he := h.entries e (List.mem_of_mem_filter he)
  gens g := by
    have same : (s.removeEntry tag).attached g = s.attached g := by
      simp only [State.attached, State.removeEntry, List.filter_filter]
      refine List.filter_congr fun e he => ?_
      by_cases ht : e.tag = tag
      · simp [free e he ht]
      · simp [ht]
    rw [same]
    exact h.gens g

section
variable {s : State} (h : s.Tied [])
include h

/-- A fixed outcome is attached to nothing when it retires (R36). -/
theorem State.Tied.retireFixed (tag : Half) : (retireFixed tag s).Tied [] := by
  rcases retireFixed_cases tag s with same | ⟨e, he, o, rfl, ho, places⟩
  · exact same.symm ▸ h
  · have free : e.gen = none := by simpa using ((h.entries e he).fixed (ho ▸ Option.some_ne_none o)).2
    rw [places]
    exact (h.of_kept (t := placeReport _ false s) rfl rfl).removeEntry fun x hx ht => eq_of_tag_eq h.nodup he hx ht ▸ free

/-- The outcome of every entry of a kind is fixed, and each then releases its generator (R36). -/
theorem State.Tied.fixEntries (p : Entry → Bool) (o : FixedOutcome) : (fixEntries p o s).Tied [] := by
  let tags := (s.entries.filter (fun e => e.outcome.isNone && p e)).map Entry.tag
  have fixed : (s.fixedWhere p o).Tied tags := by
    refine ⟨(fixedWhere_tags s p o).symm ▸ h.nodup, fun x hx => ?_, fun g => ?_⟩
    · obtain ⟨e, he, rfl⟩ := List.mem_map.mp hx
      split
      · rename_i meets
        have tag : e.tag ∈ tags := List.mem_map_of_mem (List.mem_filter.mpr ⟨he, meets⟩)
        exact ⟨fun _ => ⟨rfl, Or.inr tag⟩, fun _ => Or.inr rfl⟩
      · exact (h.entries e he).mono nofun
    · have same : ((s.fixedWhere p o).attached g).length = (s.attached g).length := by
        simp only [State.attached, State.fixedWhere, ← List.countP_eq_length_filter, List.countP_map]
        refine List.countP_congr fun e _ => ?_
        simp only [Function.comp]
        split <;> rfl
      rw [same]
      exact h.gens g
  exact foldl_preserves (P := (State.Tied · [])) (f := fun a t => Machine.retireFixed t a)
    (fun _ t ha => ha.retireFixed t) tags fixed.advanceHeads.releaseAll

theorem State.Tied.loseLanes (lost : LaneId → Bool) (o : FixedOutcome) : (loseLanes lost o s).Tied [] :=
  State.Tied.fixEntries (s := s.abandoned lost)
    (h.of_kept (abandoned_keeps State.entries (fun _ _ => rfl) s lost)
      (abandoned_keeps State.gens (fun _ _ => rfl) s lost)) _ o

end

/-! ### Attaching (R140) -/

/-- A generator that is not RETUNING gains a user (R138). -/
theorem Generator.Serves.used {x : Generator} {n : Nat} (h : x.Serves n) (hx : x.state ≠ .retuning) :
    x.used.Serves (n + 1) := by
  have target : x.target.isSome = false := by
    rw [Bool.eq_false_iff, Ne, h.target]
    exact hx
  refine ⟨congrArg (· + 1) h.users, ?_, ?_⟩ <;> simp [Generator.used, target]

theorem Generator.not_retuning_of_standsAt {x : Generator} {i : Nat} (h : x.standsAt i = true) : x.state ≠ .retuning := by
  rcases (Generator.standsAt_iff.mp h).1 with hs | hs <;> simp [hs]

/-- The start of a retune changes neither the users nor what the target says of the state (R143). -/
theorem Generator.retuneTo_role (x : Generator) (i : Nat) (rec : FreqRecord) (now : Nat) :
    (x.retuneTo i rec now).role = (.retuning, x.users, some i) := by
  unfold Generator.retuneTo
  dsimp only
  split <;> rfl

/-- An IDLE generator serves no one, and so can start a retune (R138, R143). -/
theorem Generator.Serves.retuneTo {x : Generator} {n : Nat} (h : x.Serves n) (hx : x.state = .idle) (i : Nat)
    (rec : FreqRecord) (now : Nat) : (x.retuneTo i rec now).Serves n := by
  have idle : ¬0 < n := by simp [← h.running, hx]
  have role := Generator.retuneTo_role x i rec now
  simp only [Generator.role, Prod.mk.injEq] at role
  obtain ⟨state, users, target⟩ := role
  exact ⟨users.trans h.users, by simp [state, idle], by simp [state, target]⟩

theorem idleChoice_idle {s : State} {later : List Entry} {g : GenId} (h : s.idleChoice later = some g) :
    (s.gen g).state = .idle := by
  by_cases h0 : (s.gen 0).state = .idle <;> by_cases h1 : (s.gen 1).state = .idle
  · rw [idleChoice_both h0 h1] at h
    split at h <;> cases h <;> assumption
  · rw [idleChoice_first h0 h1] at h
    cases h
    exact h0
  · rw [idleChoice_second h0 h1] at h
    cases h
    exact h1
  · rw [idleChoice_none h0 h1] at h
    cases h

section
variable {s : State} (h : s.Tied [])
include h

/-- A waiting entry is attached to nothing and has no outcome fixed (R26). -/
theorem State.Tied.free_of_waits {e : Entry} (he : e ∈ s.entries) (hw : e.state = .waitExc) :
    e.gen = none ∧ e.outcome = none := by
  refine ⟨by_contra fun attached => ?_, by_contra fun fixed => ?_⟩
  · simpa [hw] using (h.entries e he).attached attached
  · simpa [hw] using ((h.entries e he).fixed fixed).1

/-- One generator changes and goes on serving its users. -/
theorem State.Tied.modifyGen {g : GenId} {f : Generator → Generator}
    (hf : ∀ n, (s.gen g).Serves n → (f (s.gen g)).Serves n) : (s.modifyGen g f).Tied [] := by
  refine ⟨h.nodup, h.entries, fun k => ?_⟩
  by_cases hk : k = g
  · subst hk
    rw [State.modifyGen_gen_self]
    exact hf _ (h.gens k)
  · rw [State.modifyGen_gen_of_ne s hk]
    exact h.gens k

theorem State.Tied.startRetune {g : GenId} (hg : (s.gen g).state = .idle) (i : Nat) : (startRetune g i s).Tied [] :=
  h.modifyGen fun _ served => served.retuneTo hg i _ _

section
variable {e : Entry} (he : e ∈ s.entries) (hw : e.state = .waitExc)
include he

/-- Attaching changes the one entry and its generator (R27, R140). -/
theorem State.Tied.attach_parts (g : GenId) :
    (attach e.tag g s).entries = (s.modifyEntry e.tag (Entry.attachedTo g (s.stepOf e) s.now s.tb.source)).entries
      ∧ (attach e.tag g s).gens = s.gens.set g (s.gen g).used := by
  let chosen : Entry → Entry := fun y => { y with gen := some g }
  have lookup : ((s.modifyEntry e.tag chosen).modifyGen g Generator.used).entry? e.tag = some (chosen e) :=
    entry?_modifyEntry (f := chosen) (fun _ => rfl) (entry?_of_mem h.nodup he)
  have once := congrArg State.entries (modifyEntry_modifyEntry (f := chosen)
    (g := fun x => x.forwarded (s.stepOf e) s.now s.tb.source) (fun _ => rfl) s e.tag)
  exact ⟨(congrArg State.entries (forward_of_entry? lookup)).trans once, forward_gens _ _⟩

/-- Serving an entry leaves the others as they were. -/
theorem State.Tied.mem_serveEntry (later : List Entry) {x : Entry} (hx : x ∈ s.entries) (ht : x.tag ≠ e.tag) :
    x ∈ (serveEntry e later s).entries := by
  have attached : ∀ g, x ∈ (attach e.tag g s).entries := by
    intro g
    rw [(h.attach_parts he g).1]
    exact List.mem_map.mpr ⟨x, hx, if_neg ht⟩
  unfold serveEntry
  split
  · exact hx
  · split
    · exact attached 0
    · split
      · exact attached 1
      · split
        · exact hx
        · split <;> exact hx

include hw

theorem State.Tied.attach {g : GenId} (hg : (s.gen g).state ≠ .retuning) : (attach e.tag g s).Tied [] := by
  obtain ⟨entries, gens⟩ := h.attach_parts he g
  obtain ⟨free, unfixed⟩ := h.free_of_waits he hw
  refine h.change he (fun _ => by rfl) entries ⟨fun fixed => absurd unfixed fixed, fun _ => Or.inl rfl⟩
    (fun x hx _ => h.entries x hx) fun k n served => ?_
  have own : (Entry.attachedTo g (s.stepOf e) s.now s.tb.source e).gen = some g := rfl
  rw [if_neg (by simp [free])] at served
  rw [State.gen, gens, own]
  by_cases hk : k = g
  · subst hk
    rw [PerGen.get_set_self, if_pos rfl]
    exact served.used hg
  · rw [PerGen.get_set_of_ne s.gens hk, if_neg fun same => hk (Option.some.inj same).symm]
    exact served

/-- The case of R140 that applies to a waiting entry. -/
theorem State.Tied.serveEntry (later : List Entry) : (serveEntry e later s).Tied [] := by
  unfold Machine.serveEntry
  split
  · exact h
  · split
    · rename_i stands
      exact h.attach he hw (Generator.not_retuning_of_standsAt stands)
    · split
      · rename_i stands
        exact h.attach he hw (Generator.not_retuning_of_standsAt stands)
      · split
        · exact h
        · split
          · rename_i choice
            exact h.startRetune (idleChoice_idle choice) _
          · exact h

end

end

/-- Entries that wait are served in turn, each while it still waits (R139). -/
theorem State.Tied.serveAll (l : List Entry) : ∀ {s : State}, s.Tied [] → (l.map Entry.tag).Nodup →
    (∀ e ∈ l, e ∈ s.entries ∧ e.state = .waitExc) → (serveAll l s).Tied [] := by
  induction l with
  | nil => exact fun h _ _ => h
  | cons e later ih =>
    intro s h hnd waits
    obtain ⟨he, hw⟩ := waits e List.mem_cons_self
    obtain ⟨fresh, hlater⟩ := List.nodup_cons.mp hnd
    refine ih (h.serveEntry he hw later) hlater fun x hx => ?_
    obtain ⟨hxs, hxw⟩ := waits x (List.mem_cons_of_mem e hx)
    exact ⟨h.mem_serveEntry he later hxs fun ht => fresh (ht ▸ List.mem_map_of_mem hx), hxw⟩

section
variable {s : State} (h : s.Tied [])
include h

theorem State.Tied.arbiterPass : (arbiterPass s).Tied [] := by
  unfold Machine.arbiterPass
  split
  · exact h
  · refine State.Tied.serveAll s.waiting h ((List.filter_sublist.map Entry.tag).nodup h.nodup) fun e he => ?_
    obtain ⟨mem, waits⟩ := List.mem_filter.mp he
    exact ⟨mem, of_decide_eq_true waits⟩

theorem State.Tied.arbiterAfter (before : State) : (arbiterAfter before s).Tied [] := by
  unfold Machine.arbiterAfter
  split
  · exact h.arbiterPass
  · exact h

/-! ### Decisions (R33, R35, R82) -/

/-- A dispatch that retires has released its generator before it leaves (R35). -/
theorem State.Tied.closeEntry (e : Entry) : (closeEntry e s).Tied [] := by
  obtain ⟨released, free⟩ := (h.mono (releasing' := [e.tag]) nofun).releaseGen
  exact (released.removeEntry free).advanceHead e.lane

theorem State.Tied.retire (e : Entry) (t : Terminal) : (retire e t s).Tied [] := by
  unfold Machine.retire
  split
  · exact (h.of_kept (reportShort_entries e t s) (reportShort_gens e t s)).closeEntry e
  · exact (h.of_kept (reportVerdict_entries e t s) (reportVerdict_gens e t s)).closeEntry e

theorem State.Tied.retireSignature (e : Entry) (v : Nat) (sat : Bool) : (retireSignature e v sat s).Tied [] := by
  unfold Machine.retireSignature
  dsimp only
  split <;> exact (h.of_kept (by simp) (by simp)).closeEntry e

/-- A decision for an entry that is ready for one (R34). -/
theorem State.Tied.carryOut {e : Entry} (he : e ∈ s.entries) (ho : e.outcome = none) (d : Decision) :
    (carryOut e d s).Tied [] := by
  cases d with
  | retry escalate =>
    have retried : (s.modifyEntry e.tag (fun x => x.retry escalate)).Tied [] :=
      h.mapEntries (f := fun x => if x.tag = e.tag then x.retry escalate else x) (fun x => by split <;> rfl) rfl rfl
    refine retried.forward fun x hx ht => ?_
    obtain ⟨y, hy, rfl⟩ := List.mem_map.mp hx
    have tag : y.tag = e.tag := by split at ht <;> exact ht
    rw [if_pos tag]
    exact eq_of_tag_eq h.nodup he hy tag ▸ ho
  | skip => exact h.fixEntries _ _
  | terminal t => exact h.retire e t
  | signature v sat => exact h.retireSignature e v sat

theorem State.Tied.decideEntry (tag : Half) : (decideEntry tag s).Tied [] := by
  unfold Machine.decideEntry
  split
  · exact h
  · rename_i e he
    split
    · rename_i ready
      split
      · exact h
      · simp only [Entry.ready, Bool.and_eq_true, Option.isNone_iff_eq_none] at ready
        exact h.carryOut (List.mem_of_find?_eq_some he) ready.1.2 _
    · exact h

theorem State.Tied.tryDecide (tag : Half) : (tryDecide tag s).Tied [] := by
  unfold Machine.tryDecide
  split
  · exact h.decideEntry tag
  · exact h

/-! ### Ends of an attempt (R28 to R31, R63) -/

/-- The entry of an ended attempt is JUDGING, which any entry may be. -/
theorem State.Tied.judging (n : LaneId) (tag : Half) :
    ((closeAttempt n s).modifyEntry tag (fun e => { e with state := .judging, deadline := none })).Tied [] := by
  cases he : s.entry? tag with
  | none =>
    have absent : ∀ x ∈ s.entries, x.tag ≠ tag := by simpa using List.find?_eq_none.mp he
    exact h.of_kept ((List.map_congr_left fun x hx => if_neg (absent x hx)).trans (List.map_id _)) rfl
  | some e =>
    have mem := List.mem_of_find?_eq_some he
    obtain rfl := entry?_tag he
    exact h.restate mem (f := fun e => { e with state := .judging, deadline := none }) (fun _ => rfl) rfl
      ⟨fun fixed => ⟨rfl, ((h.entries e mem).fixed fixed).2⟩, fun _ => Or.inr rfl⟩ rfl rfl

/-- What an entry's trigger or result are does not matter. -/
theorem State.Tied.modifyEntry {f : Entry → Entry} (hf : ∀ e, (f e).bond = e.bond) (tag : Half) :
    (s.modifyEntry tag f).Tied [] :=
  h.mapEntries (f := fun e => if e.tag = tag then f e else e) (fun e => by split <;> simp [hf]) rfl rfl

theorem State.Tied.endAttempt (n : LaneId) (tag : Half) (how : AttemptEnd) : (endAttempt n tag how s).Tied [] := by
  have ended := h.judging n tag
  unfold Machine.endAttempt
  dsimp only
  split
  · exact ended
  · split
    · exact ended.fixEntries _ _
    · split
      · exact (ended.modifyEntry (fun _ => by rfl) tag).tryDecide tag
      · split
        · exact ended.of_kept (startReduction_entries _ _ _ _) (startReduction_gens _ _ _ _)
        · exact ended

theorem State.Tied.takeAnswer (n : LaneId) (a : AttemptId) (how : AttemptEnd) : (takeAnswer n a how s).Tied [] := by
  unfold Machine.takeAnswer
  split
  · split
    · exact h.endAttempt n a.tag how
    · exact h.of_kept (postEvent_entries _ _ s) (postEvent_gens _ _ s)
    · exact h.of_kept (postEvent_entries _ _ s) (postEvent_gens _ _ s)
  · exact h

theorem State.Tied.expireAttempt (n : LaneId) : (expireAttempt n s).Tied [] := by
  unfold Machine.expireAttempt
  split
  · exact h
  · split
    · exact h
    · split
      · exact h
      · split
        · exact h.endAttempt n _ .expiry
        · exact h

theorem State.Tied.completeReduction (n : LaneId) : (completeReduction n s).Tied [] := by
  have idle : (s.setReduction n none).Tied [] := h.of_kept rfl rfl
  unfold Machine.completeReduction
  split
  · exact h
  · dsimp only
    split
    · exact idle
    · exact (idle.modifyEntry (fun _ => by rfl) _).tryDecide _

/-! ### The granting of a place (R158, R159) -/

theorem State.Tied.offerEntry (tag : Half) : (offerEntry tag s).Tied [] := by
  unfold Machine.offerEntry
  split
  · exact h
  · split
    · exact h.retireFixed tag
    · exact h.tryDecide tag

omit h in
theorem State.Tied.offerEntries (tags : List Half) : ∀ {s : State}, s.Tied [] → (offerEntries tags s).Tied [] := by
  induction tags with
  | nil => exact id
  | cons tag rest ih =>
    intro s h
    unfold Machine.offerEntries
    dsimp only
    split
    · exact h.offerEntry tag
    · exact ih (h.offerEntry tag)

theorem State.Tied.offerSide (side : Side) : (offerSide side s).Tied [] := by
  cases side with
  | dispatch => exact h.offerEntries _
  | signature => exact h.of_kept (offerSignature_entries s) (offerSignature_gens s)

theorem State.Tied.grantPlace : (grantPlace s).Tied [] := by
  have first := h.offerSide s.firstSide
  have second := first.offerSide s.firstSide.other
  unfold Machine.grantPlace
  dsimp only
  split
  · exact first.of_kept rfl rfl
  · split
    · exact second.of_kept rfl rfl
    · exact second

/-! ### Dispatches, tables and the timebase -/

/-- An entry that is attached to nothing joins the table. -/
theorem State.Tied.entering {e : Entry} (htag : ∀ x ∈ s.entries, x.tag ≠ e.tag) (hgen : e.gen = none) (own : e.Tied []) :
    (s.entering e).Tied [] where
  nodup := by
    simp only [State.entering, List.map_append, List.map_cons, List.map_nil]
    refine List.nodup_append.mpr ⟨h.nodup, List.nodup_singleton _, fun a ha b hb => ?_⟩
    obtain ⟨x, hx, rfl⟩ := List.mem_map.mp ha
    rw [List.mem_singleton.mp hb]
    exact htag x hx
  entries x hx := by
    rcases List.mem_append.mp hx with hx | hx
    · exact h.entries x hx
    · exact List.mem_singleton.mp hx ▸ own
  gens g := by
    have same : (s.entering e).attached g = s.attached g := by simp [State.attached, State.entering, hgen]
    rw [same]
    exact h.gens g

theorem State.Tied.acceptDispatch {d : DispatchFields} (hd : dispatchRefusal s d = none) (lane : LaneId) :
    (acceptDispatch d lane s).Tied [] := by
  obtain ⟨fresh, -⟩ := room_of_no_refusal hd
  unfold Machine.acceptDispatch
  dsimp only
  split
  · exact State.Tied.retireFixed (s := s.entering _)
      (h.entering fresh rfl ⟨fun _ => ⟨rfl, Or.inl rfl⟩, fun _ => Or.inr rfl⟩) _
  · exact State.Tied.advanceHead (s := s.entering _)
      (h.entering fresh rfl ⟨fun fixed => absurd rfl fixed, fun attached => absurd rfl attached⟩) _

theorem State.Tied.takeDispatch (seq : Byte) (payload : List Byte) : (takeDispatch seq payload s).Tied [] := by
  unfold Machine.takeDispatch
  dsimp only
  split
  · exact h.of_kept rfl rfl
  · split
    · exact h.of_kept rfl rfl
    · rename_i hno _
      exact (h.acceptDispatch hno _).of_kept rfl rfl
    · exact h.of_kept rfl rfl

omit h in
theorem Generator.staleAt_role (i : Nat) (x : Generator) : (x.staleAt i).role = x.role := by
  unfold Generator.staleAt
  split <;> rfl

theorem State.Tied.writeRecord (t : TableId) (i : Nat) (b : List Byte) : (writeRecord t i b s).Tied [] := by
  cases t with
  | freq => exact h.mapGens (Generator.staleAt_role i) rfl rfl
  | net =>
    unfold Machine.writeRecord netRecordEffect
    dsimp only
    split <;> exact h.of_kept rfl rfl
  | _ => exact h.of_kept rfl rfl

theorem State.Tied.takeTable (seq : Byte) (payload : List Byte) : (takeTable seq payload s).Tied [] := by
  have written : ∀ seg, (writeSegment seg s).Tied [] := by
    intro seg
    have records := foldl_preserves (P := (State.Tied · []))
      (f := fun a (r : Nat × List Byte) => Machine.writeRecord seg.table r.1 r.2 a)
      (fun a r ha => ha.writeRecord seg.table r.1 r.2) seg.records h
    unfold writeSegment
    dsimp only
    split
    · exact records.of_kept (requestScan_entries _) (requestScan_gens _)
    · exact records
  unfold Machine.takeTable
  dsimp only
  split
  · exact h.of_kept rfl rfl
  · exact h.of_kept rfl rfl
  · exact h.of_kept rfl rfl
  · exact (written _).of_kept rfl rfl

theorem State.Tied.writeLaneEnable (value : Word) : (writeLaneEnable value s).Tied [] := by
  have switched : (switchLanes s.link.laneEnable (clampMask value) s).Tied [] :=
    h.of_kept (switchLanes_keeps State.entries (fun _ _ _ => rfl) _ _ s)
      (switchLanes_keeps State.gens (fun _ _ _ => rfl) _ _ s)
  unfold Machine.writeLaneEnable
  exact State.Tied.loseLanes (switched.of_kept (by rfl) (by rfl)) _ .laneLost

theorem State.Tied.writeTbSource (value : Word) : (writeTbSource value s).Tied [] := by
  have asked : (requestSwitch (sourceOf value) s).Tied [] := h.of_kept rfl rfl
  unfold Machine.writeTbSource
  dsimp only
  split
  · split
    · exact h
    · exact h.of_kept rfl rfl
  · split
    · exact h
    · exact asked.checkSwitch.arbiterAfter _

theorem State.Tied.xoutSlot (slot : Nat) : (xoutSlot slot s).Tied [] := by
  have marked : ({ s with
      board := { s.board with slots := s.board.slots.put slotInitial slot .xout }
      entries := s.entries.map (fun e =>
        if e.slot = slot ∧ e.state = .forwarded then { e with xoutMark := true } else e) } : State).Tied [] :=
    h.mapEntries (fun e => by split <;> rfl) rfl rfl
  exact marked.fixEntries _ _

theorem State.Tied.resetLane (n : LaneId) : (resetLane n s).Tied [] := by
  unfold Machine.resetLane
  exact State.Tied.loseLanes (h.of_kept (by rfl) (by rfl)) _ _

theorem State.Tied.failLane (n : LaneId) : (failLane n s).Tied [] := by
  have lost : (Machine.loseLanes (fun m => decide (m = n)) .laneLost (s.modifyLane n Lane.fail)).Tied [] :=
    State.Tied.loseLanes (h.of_kept (by rfl) (by rfl)) _ _
  unfold Machine.failLane
  split
  · exact lost.of_kept (postEvent_entries _ _ _) (postEvent_gens _ _ _)
  · exact h

theorem State.Tied.failOver : (failOver s).Tied [] := by
  cases hs : s.tb.source with
  | internal => simpa [Machine.failOver, hs] using h
  | reference =>
    rw [failOver_eq hs, State.failedOver, postEvent_eq]
    have marked : (markTbFault s).Tied [] := h.mapEntries (fun e => by split <;> rfl) rfl rfl
    exact marked.mapGens Generator.sourceChanged_role rfl rfl

theorem State.Tied.beginSettling (g : GenId) : (beginSettling g s).Tied [] := by
  unfold Machine.beginSettling
  split
  · exact h.modifyGen fun n served => served.of_role (by simp [Generator.role, Generator.settleFrom])
  · exact h

/-- A completed retune leaves the generator IDLE, with no target and no users (R144). -/
theorem State.Tied.finishRetune (g : GenId) : (finishRetune g s).Tied [] := by
  unfold Machine.finishRetune
  split
  · rename_i settled
    refine h.modifyGen fun n served => ?_
    simp only [Generator.settled, Bool.and_eq_true, decide_eq_true_eq] at settled
    have idle : ¬0 < n := by simp [← served.running, settled.1.1.1]
    exact ⟨served.users, by simp [Generator.completeRetune, idle], by simp [Generator.completeRetune]⟩
  · exact h

theorem State.Tied.enterReset : (enterReset s).Tied [] :=
  h.mapGens (f := fun g => { g with output := none, origin := none }) (fun _ => rfl) rfl rfl

theorem State.Tied.elapse (n : Nat) : (elapse n s).Tied [] :=
  h.mapGens (f := Generator.elapse s.tb.ticks n) (fun x => by simp [Generator.role]) (elapse_entries n s) (elapse_gens n s)

theorem State.Tied.conclude : (conclude s).Tied [] := h.of_kept (conclude_entries s) (conclude_gens s)

omit h in
/-- At power-on nothing is outstanding and both generators are IDLE (R136, R175). -/
theorem powerUp_tied (cause : ResetCause) (low : Bool) (s : State) : (powerUp cause low s).Tied [] := by
  have blank : State.blank.Tied [] := (excitationOk_iff State.blank).mp (by decide)
  have posted : (postEvent .powerUp cause.number { State.blank with pending := s.pending, resetLow := low }).Tied [] :=
    blank.of_kept (postEvent_entries _ _ _) (postEvent_gens _ _ _)
  exact posted.conclude

theorem State.Tied.endReply : (endReply s).Tied [] := by
  unfold Machine.endReply
  split
  · exact powerUp_tied _ _ _
  · split
    · exact h.of_kept rfl rfl
    · exact h

theorem State.Tied.endReport : (endReport s).Tied [] := by
  unfold Machine.endReport
  split
  · exact State.Tied.grantPlace (h.of_kept rfl rfl)
  · exact h

theorem State.Tied.lockLoop : (lockLoop s).Tied [] := by
  unfold Machine.lockLoop
  split
  · exact State.Tied.checkSwitch (h.of_kept rfl rfl)
  · exact h

end

/-! ### Every command -/

theorem takeFrame_tied {f : State → State} (hf : ∀ s : State, s.Tied [] → (f s).Tied []) {s : State} (h : s.Tied []) :
    (takeFrame f s).Tied [] := by
  rcases takeFrame_cases f s with e | e | e <;> rw [e]
  · exact h
  · exact h.of_kept rfl rfl
  · exact hf s h

theorem takeSet_tied {write : State → State} (hw : ∀ s : State, s.Tied [] → (write s).Tied []) (seq : Byte) (x : Setting)
    {s : State} (h : s.Tied []) : (takeSet seq x write s).Tied [] :=
  takeFrame_tied (fun s h => (hw s h).of_kept (by rfl) (by rfl)) h

/-- Every effect keeps the agreement of the generators with the Outstanding Table. -/
theorem effectOf_tied (c : Instr) {s : State} (h : s.Tied []) : (effectOf c s).Tied [] := by
  cases c with
  | powerOn | resetPinAssert | resetPinRelease | microsecondWrap | laneFrameDiscard => exact h
  | orderSent => exact h.of_kept rfl rfl
  | replyListOverflow => exact takeFrame_tied (fun _ h => h) h
  | status | fetchEvent | linkReset =>
    simp only [effectOf]
    exact takeFrame_tied (fun _ h => h.of_kept (by rfl) (by rfl)) h
  | setEventDelay | setRawCopy | setLearnCount | setDeferAge =>
    simp only [effectOf]
    exact takeSet_tied (fun _ h => h.of_kept (by rfl) (by rfl)) _ _ h
  | linkFrameError =>
    simp only [effectOf]
    split
    · exact h.of_kept rfl rfl
    · exact h
  | unknownFrameKind =>
    simp only [effectOf]
    split
    · exact h
    · exact takeFrame_tied (fun _ h => h.of_kept (by rfl) (by rfl)) h
  | badRequest =>
    simp only [effectOf]
    split
    · exact takeFrame_tied (fun _ h => h.of_kept (by rfl) (by rfl)) h
    · exact h
  | dispatch dt seq payload => exact takeFrame_tied (fun _ h => h.takeDispatch seq payload) h
  | table dt seq payload => exact takeFrame_tied (fun _ h => h.takeTable seq payload) h
  | get =>
    simp only [effectOf]
    refine takeFrame_tied (fun s h => ?_) h
    split <;> exact h.of_kept rfl rfl
  | setLaneEnable dt seq value => exact takeSet_tied (fun _ h => h.writeLaneEnable value) seq _ h
  | setTbSource dt seq value => exact takeSet_tied (fun _ h => h.writeTbSource value) seq _ h
  | setTbFail =>
    refine takeSet_tied (fun s h => ?_) _ _ h
    split
    · exact h
    · exact h.of_kept rfl rfl
  | group =>
    refine takeFrame_tied (fun s h => ?_) h
    unfold takeGroup
    split <;> exact h.of_kept rfl rfl
  | panelStart =>
    refine takeFrame_tied (fun s h => ?_) h
    unfold takePanelStart
    split <;> exact h.of_kept rfl rfl
  | xout dt seq slot =>
    simp only [effectOf]
    refine takeFrame_tied (fun s h => ?_) h
    split
    · exact h.of_kept rfl rfl
    · exact (h.xoutSlot slot.toNat).of_kept rfl rfl
  | batchClear =>
    refine takeFrame_tied (fun s h => ?_) h
    unfold takeBatchClear
    split
    · exact h.of_kept rfl rfl
    · exact h.of_kept (clearBatch_entries s) (by simp [replyOk, clearBatch])
  | laneReset =>
    simp only [effectOf]
    refine takeFrame_tied (fun s h => ?_) h
    split
    · exact h.of_kept rfl rfl
    · exact (h.resetLane _).of_kept rfl rfl
  | linkResetEffect =>
    simp only [effectOf]
    split
    · exact powerUp_tied _ _ _
    · exact h
  | marker =>
    simp only [effectOf, takeMarker]
    (repeat' split) <;> exact h.of_kept (by simp) (by simp)
  | silenceTimeout dt lane => exact h.failLane lane
  | burst =>
    simp only [effectOf, takeBurst]
    split
    · exact h.takeAnswer _ _ _
    · exact h
  | fault =>
    simp only [effectOf, takeFault]
    split
    · exact h.takeAnswer _ _ _
    · exact h
  | reductionComplete dt lane => exact h.completeReduction lane
  | attemptExpiry dt lane => exact h.expireAttempt lane
  | relabel =>
    simp only [effectOf, walkStep]
    (repeat' split) <;> exact h.of_kept (by simp) (by simp)
  | walkEnd =>
    simp only [effectOf, walkFinish]
    (repeat' split) <;> exact h.of_kept (by simp) (by simp)
  | scanStep => exact h.of_kept (scanOne_entries s) (scanOne_gens s)
  | deferralDeadline => exact h.of_kept (by simp [effectOf]) (by simp [effectOf])
  | retuneSettleStart dt gen => exact h.beginSettling gen
  | retuneComplete dt gen => exact h.finishRetune gen
  | loopLock => exact h.lockLoop
  | lockTimeout =>
    simp only [effectOf, timeoutLock]
    split
    · exact h.of_kept (by simp) (by simp)
    · exact h
  | switchRefinLoss =>
    simp only [effectOf, loseSwitch]
    split
    · exact h.of_kept (by simp) (by simp)
    · exact h
  | failover => exact h.failOver
  | attnSent =>
    simp only [effectOf, endAttn]
    split
    · exact h.of_kept rfl rfl
    · exact h
  | replySent => exact h.endReply
  | reportSent => exact h.endReport
  | rawFrameSent =>
    simp only [effectOf, endRaw]
    split
    · exact h.of_kept rfl rfl
    · exact h

theorem exec_tied {c : Instr} {s t : State} (h : s.Tied []) (ht : exec c s = .next t) : t.Tied [] := by
  have effect := effectOf_tied c (h.elapse c.dt)
  rcases exec_next_cases ht with rfl | ⟨-, cause, low, rfl⟩ | rfl | rfl | rfl
  · exact h
  · exact powerUp_tied cause low s
  · exact (h.elapse c.dt).enterReset
  · exact effect.conclude
  · exact (effect.arbiterAfter _).conclude

/-- Settles O59: an entry enters attached to nothing, attaches from WAIT_EXC to a generator that counts it, and releases it
before it leaves or its fixed outcome stands; a generator is retuned from IDLE alone. -/
theorem stepKeepsAttachments : Obligations.StepKeepsAttachments := by
  unfold Obligations.StepKeepsAttachments
  intro s t hs ht
  have h : s.Tied [] := (excitationOk_iff s).mp hs
  refine (excitationOk_iff t).mpr ?_
  unfold step at ht
  split at ht
  · cases ht
    unfold tick
    split
    · exact h
    · exact (h.elapse 1).of_kept rfl rfl
  · rename_i c rest _
    exact exec_tied (s := { s with pending := rest }) (h.of_kept (by rfl) (by rfl)) ht

end Sys2Proof.Machine
end

section
/-! SUPPORT. GET, and the SET of TB_SOURCE by its cases (R139, R146, R148, R150, R168). -/

namespace Sys2Proof.Machine

/-! ### GET (R146, R168) -/

/-- Time changes no setting. -/
theorem elapse_setting (n : Nat) (s : State) (x : Setting) : (elapse n s).setting x = s.setting x := by
  cases x <;> simp [State.setting]

theorem settingOf_of_unknown {n : Nat} (h : ¬(1 ≤ n ∧ n ≤ 7)) : settingOf n = none := by
  unfold settingOf
  split
  case h_8 => rfl
  all_goals omega

theorem Source.number_eq (x : Source) : x.number = if x = .internal then 0 else 1 := by
  cases x <;> rfl

/-- Settles O13: each id names the setting whose value is answered, and time changes none. -/
theorem getAnswersSetting : Obligations.GetAnswersSetting := by
  unfold Obligations.GetAnswersSetting
  intro dt seq id s hs u value
  have becomes : Becomes (exec (.get dt seq id) s) _ := takeEvent_takeFrame_becomes hs dt _
  refine becomes.trans (congrArg (fun a => Host.Outcome.next (conclude a)) ?_)
  by_cases known : 1 ≤ id.toNat ∧ id.toNat ≤ 7
  · obtain ⟨x, named, read⟩ : ∃ x, settingOf id.toNat = some x ∧ s.setting x = value := by
      obtain ⟨low, high⟩ := known
      simp only [value]
      generalize id.toNat = n at low high
      interval_cases n
      · exact ⟨.laneEnable, rfl, rfl⟩
      · exact ⟨.eventDelay, rfl, rfl⟩
      · exact ⟨.rawCopy, rfl, rfl⟩
      · exact ⟨.learnCount, rfl, rfl⟩
      · exact ⟨.deferAge, rfl, rfl⟩
      · exact ⟨.tbSource, rfl, Source.number_eq _⟩
      · exact ⟨.tbFail, rfl, rfl⟩
    rw [named, if_pos known, ← read, ← elapse_setting dt s]
    rfl
  · rw [settingOf_of_unknown known, if_neg known]
    rfl

/-! ### The write of TB_SOURCE (R148, R150) -/

theorem sourceOf_eq (value : Word) : sourceOf value = if value.toNat = 0 then .internal else .reference := by
  simp only [sourceOf, word_eq_zero_iff]

/-- A SET of TB_SOURCE is answered with the source that its value names (R168). -/
theorem number_sourceOf (value : Word) : (sourceOf value).number = min 1 value.toNat := by
  rw [sourceOf_eq]
  by_cases zero : value.toNat = 0
  · rw [if_pos zero, zero]
    rfl
  · rw [if_neg zero, Nat.min_eq_left (Nat.one_le_iff_ne_zero.mpr zero)]
    rfl

section
variable {value : Word} {s : State}

/-- Nothing is to do when the source named is in force with no switch pending, or is already the target (R148). -/
theorem writeTbSource_nothing (h : (sourceOf value = s.tb.source ∧ s.tb.pendingSwitch = none)
    ∨ (sourceOf value ≠ s.tb.source ∧ s.tb.pendingSwitch = some (sourceOf value))) : writeTbSource value s = s := by
  rcases h with ⟨same, none⟩ | ⟨other, pending⟩
  · simp [writeTbSource, same, none]
  · simp [writeTbSource, other, pending]

/-- The source in force, named while a switch is pending, cancels the switch (R148). -/
theorem writeTbSource_cancels (h : sourceOf value = s.tb.source) {p : Source} (hp : s.tb.pendingSwitch = some p) :
    writeTbSource value s = cancelSwitch s := by
  simp [writeTbSource, h, hp]

section
variable (h : sourceOf value ≠ s.tb.source) (hp : s.tb.pendingSwitch = none)
include h hp

/-- A switch that is asked for and may not change the source yet stays pending (R148, R150). -/
theorem writeTbSource_asks (hstay : checkSwitch (requestSwitch (sourceOf value) s) = requestSwitch (sourceOf value) s) :
    writeTbSource value s = requestSwitch (sourceOf value) s := by
  simp [writeTbSource, h, hp, hstay, arbiterAfter, passTriggered_self]

/-- A switch that is asked for and changes the source at once, with no entry to serve (R150). -/
theorem writeTbSource_switches {a : State} (hchange : checkSwitch (requestSwitch (sourceOf value) s) = a)
    (hw : a.waiting = []) : writeTbSource value s = a := by
  have idle : arbiterPass a = a := by
    unfold arbiterPass
    split
    · rfl
    · rw [hw]
      rfl
  simp [writeTbSource, h, hp, hchange, arbiterAfter, idle]

end

/-- The loop that has just begun to lock does not change the source yet (R150). -/
theorem checkSwitch_requestReference (s : State) :
    checkSwitch (requestSwitch .reference s) = requestSwitch .reference s :=
  (checkSwitch_of_pending (p := .reference) rfl).trans (if_neg fun h => by
    rcases h.1 with h | h <;> cases h)

/-- A switch to INTERNAL waits for the users of the generators (R150). -/
theorem checkSwitch_requestInternal_busy (h : s.noUsers = false) :
    checkSwitch (requestSwitch .internal s) = requestSwitch .internal s :=
  (checkSwitch_of_pending (s := requestSwitch .internal s) (p := .internal) rfl).trans
    (if_neg fun k => Bool.false_ne_true (h.symm.trans k.2))

/-- With no users a switch to INTERNAL changes the source in its own event (R150). -/
theorem checkSwitch_requestInternal_free (h : s.noUsers = true) :
    checkSwitch (requestSwitch .internal s) = s.switchedTo .internal := by
  refine (checkSwitch_of_pending (s := requestSwitch .internal s) (p := .internal) rfl).trans
    ((if_pos ⟨Or.inl rfl, h⟩).trans ?_)
  simp only [State.switchedTo, postEvent_eq]
  rfl

end

/-! ### The SET of TB_SOURCE (R148, R168) -/

/-- With no switch pending before it, an event calls for a pass by what it does to the entries and the generators alone
(R139). -/
theorem passTriggered_of_calm {a b : State} (ha : a.tb.pendingSwitch = none) (he : b.entries = a.entries)
    (hg : b.gens = a.gens) : passTriggered a b = false := by
  have blind : passTriggered a b = passTriggered a { b with tb := a.tb } := by
    simp only [passTriggered, ha]
    rfl
  rw [blind]
  exact passTriggered_of_kept (by simp only [State.waiting, he]) hg rfl

section
variable {s : State} (hs : s.TakesFrames) {dt : Nat} {value : Word} {a : State}
  (effect : writeTbSource value (elapse dt s) = a) (answer : a.setting .tbSource = min 1 value.toNat) (seq : Byte)
include hs effect answer

/-- A SET of TB_SOURCE comes to its write and its answer, where the arbiter has nothing to do. -/
theorem setTbSource_becomes (k : passTriggered (elapse dt s) a = false ∨ a.waiting = []) :
    Becomes (exec (.setTbSource dt seq value) s)
      (a.withReply (answered kindRequest seq .ok (be32 (min 1 value.toNat)))) := by
  subst effect
  rw [← answer]
  exact takeArbitrated_takeFrame_becomes hs dt _ k

/-- A SET of TB_SOURCE that ends a switch comes to its write, its answer, and the arbiter's pass (R139). -/
theorem setTbSource_passes (k : passTriggered (elapse dt s) a = true) : Becomes (exec (.setTbSource dt seq value) s)
    (arbiterPass (a.withReply (answered kindRequest seq .ok (be32 (min 1 value.toNat))))) := by
  subst effect
  rw [← answer]
  exact takeArbitrated_takeFrame_passes hs dt _ k

end

/-- Settles O16: the write follows the cases of R148, and a switch that ends in the event calls for a pass. -/
theorem setTbSourceCases : Obligations.SetTbSourceCases := by
  unfold Obligations.SetTbSourceCases
  intro dt seq value s hs u target reply
  have named : sourceOf value = target := sourceOf_eq value
  have source : u.tb.source = s.tb.source := elapse_source dt s
  have pending : u.tb.pendingSwitch = s.tb.pendingSwitch := elapse_pendingSwitch dt s
  have loop : u.tb.loop = s.tb.loop := by simp [u]
  have users : u.noUsers = s.noUsers := elapse_noUsers dt s
  have answers {a : State} (h : a.tb.pendingSwitch.getD a.tb.source = target) :
      a.setting .tbSource = min 1 value.toNat := by
    rw [State.setting, h, ← named, number_sourceOf]
  have cancels (hsame : target = s.tb.source) {p : Source} (hp : s.tb.pendingSwitch = some p) :
      writeTbSource value u = { u with tb := { u.tb with
        pendingSwitch := none, loop := if p = .reference then .off else s.tb.loop } } := by
    rw [writeTbSource_cancels (by rw [named, source, hsame]) (pending.trans hp), cancelSwitch, pending, hp, loop]
    simp only [Option.some.injEq]
  have kept (hsame : target = s.tb.source) (l : Loop) :
      ({ u with tb := { u.tb with pendingSwitch := none, loop := l } } : State).setting .tbSource = min 1 value.toNat :=
    answers (source.trans hsame.symm)
  have fresh (hne : target ≠ s.tb.source) : sourceOf value ≠ u.tb.source := by rwa [named, source]
  have asks (hne : target ≠ s.tb.source) (hp : s.tb.pendingSwitch = none)
      (hstay : checkSwitch (requestSwitch target u) = requestSwitch target u) :
      Becomes (exec (.setTbSource dt seq value) s) ((requestSwitch target u).withReply reply) := by
    have calm : u.tb.pendingSwitch = none := pending.trans hp
    have effect : writeTbSource value u = requestSwitch target u :=
      named ▸ writeTbSource_asks (fresh hne) calm (by rwa [named])
    refine setTbSource_becomes hs effect (answers ?_) seq (Or.inl (passTriggered_of_calm calm rfl rfl))
    simp only [requestSwitch]
    split <;> rfl
  refine ⟨fun h => ?_, fun p hsame hp hw => ?_, fun p hsame hp => ?_, fun href hint hp => ?_, fun hint href hp hbusy => ?_,
    fun hint href hp hfree hw => ?_⟩
  · have effect : writeTbSource value u = u := writeTbSource_nothing (by rwa [named, source, pending])
    refine setTbSource_becomes hs effect (answers ?_) seq (Or.inl (passTriggered_self u))
    rcases h with ⟨same, none⟩ | ⟨-, some⟩
    · rw [pending, none, source, same]
      rfl
    · rw [pending, some]
      rfl
  · exact setTbSource_becomes hs (cancels hsame hp) (kept hsame _) seq (Or.inr ((elapse_waiting dt s).trans hw))
  · exact setTbSource_passes hs (cancels hsame hp) (kept hsame _) seq
      (passTriggered_of_switch_ends (by rw [pending, hp]; exact Option.some_ne_none p) rfl)
  · have becomes := asks (by rw [href, hint]; exact nofun) hp (by rw [href]; exact checkSwitch_requestReference u)
    rwa [href] at becomes
  · have becomes := asks (by rw [hint, href]; exact nofun) hp
      (by rw [hint]; exact checkSwitch_requestInternal_busy (users.trans hbusy))
    rwa [hint] at becomes
  · have idle : (u.switchedTo .internal).waiting = [] := (switchedTo_waiting u _).trans ((elapse_waiting dt s).trans hw)
    have effect : writeTbSource value u = u.switchedTo .internal :=
      writeTbSource_switches (fresh (by rw [hint, href]; exact nofun)) (pending.trans hp)
        (by rw [named, hint]; exact checkSwitch_requestInternal_free (users.trans hfree)) idle
    refine setTbSource_becomes hs effect (answers ?_) seq (Or.inr idle)
    rw [hint, State.switchedTo, postEvent_eq]
    rfl

end Sys2Proof.Machine
end

section
/-! SUPPORT. The idle step, and the two phases of a retune (R28, R52, R63, R105, R125, R127, R130, R139, R143, R144,
R149). -/

namespace Sys2Proof.Machine

/-! ### What falls due at a tick -/

theorem getD_map_eq_any {α : Type} (x : Option α) (p : α → Bool) : (x.map p).getD false = x.any p := by
  cases x <;> rfl

/-- The events of a generator that fall due: the end of its settling, or that of its old cycle (R143, R144). -/
theorem dueOfGen_eq (s : State) (g : GenId) : dueOfGen s g =
    if (s.gen g).state = .retuning ∧ (s.gen g).settling = true ∧ (s.gen g).settleRemaining = 0
      ∧ (s.gen g).restart = false then [.retuneComplete 0 g]
    else if (s.gen g).state = .retuning ∧ (s.gen g).settling = false
      ∧ (s.gen g).oldCycleEnd.any (fun t => decide (t ≤ s.tb.ticks)) = true then [.retuneSettleStart 0 g]
    else [] := by
  simp only [dueOfGen, getD_map_eq_any]
  by_cases hs : (s.gen g).state = .retuning
  · cases hp : (s.gen g).settling <;> simp [hs]
  · simp [hs]

/-- The events of a lane that fall due (R28, R52, R63). -/
theorem dueOfLane_eq (s : State) (n : LaneId) : dueOfLane s n =
    (if s.entries.any (fun e => decide (e.lane = n) && decide (e.state = .forwarded)
        && e.deadline.any (fun d => decide ((s.tb.microseconds - d).toNat < 2147483648)))
      then [.attemptExpiry 0 n] else [])
    ++ (if (s.lane n).state = .up ∧ (s.lane n).rate.threshold ≤ (s.lane n).silence then [.silenceTimeout 0 n] else [])
    ++ (if (s.reductions.get n).any (fun r => r.burst.isEmpty) then [.reductionComplete 0 n] else []) := by
  simp only [dueOfLane, getD_map_eq_any]
  congr 1
  cases s.reductions.get n <;> rfl

/-- Settles O2: the tick brings time forward, and the events that it finds due are those of the statement one by one. -/
theorem idleStepPassesOneTick : Obligations.IdleStepPassesOneTick := by
  unfold Obligations.IdleStepPassesOneTick
  intro s hq u ofLane ofGen due
  have idle : step s = .next (tick s) := by rw [step, hq]
  refine ⟨fun hrun => ?_, fun hlow => ?_⟩
  · have lanes : ∀ n, dueOfLane u n = ofLane n := dueOfLane_eq u
    have gens : ∀ g, dueOfGen u g = ofGen g := dueOfGen_eq u
    have found : dueCommands u = due := by
      simp only [dueCommands, lanes, gens, allLanes, List.flatMap_cons, List.flatMap_nil, List.append_nil,
        List.append_assoc, due]
      cases u.groups.walk with
      | none => rfl
      | some w =>
        obtain ⟨-, -, -, position⟩ := w
        cases position <;> rfl
    have waits : u.pending = [] := (elapse_pending 1 s).trans hq
    rw [idle, tick, hrun, if_neg Bool.false_ne_true]
    change Host.Outcome.next { u with pending := u.pending ++ dueCommands u } = _
    rw [waits, found, List.nil_append]
  · rw [idle, tick, hlow, if_pos rfl]

/-! ### The phases of a retune (R143, R144) -/

/-- In no time no cycle ends. -/
theorem Generator.elapse_zero (now : Nat) (x : Generator) : x.elapse now 0 = x := by
  have none : x.cyclesEnding now 0 = 0 := by
    unfold Generator.cyclesEnding
    split
    · rfl
    · exact Nat.sub_self _
  unfold Generator.elapse
  split
  · simp [none]
  · rfl

theorem Generator.settleTick_eq_some {x : Generator} {now t : Nat} (hs : x.state = .retuning) (hp : x.settling = false)
    (ht : x.oldCycleEnd = some t) (hnow : t ≤ now) : x.settleTick now = some t := by
  simp [Generator.settleTick, hs, hp, ht, hnow]

/-- Before the end of the old cycle no settling begins. -/
theorem Generator.settleTick_eq_none {x : Generator} {now : Nat}
    (h : x.state ≠ .retuning ∨ x.settling = true ∨ ∀ t, x.oldCycleEnd = some t → now < t) : x.settleTick now = none := by
  unfold Generator.settleTick
  split
  · rename_i t hs hp ht
    rcases h with h | h | h
    · exact absurd hs h
    · exact absurd (hp.symm.trans h) Bool.false_ne_true
    · exact if_neg (Nat.not_le.mpr (h t ht))
  · rfl

theorem Generator.settled_iff {x : Generator} : x.settled = true
    ↔ x.state = .retuning ∧ x.settling = true ∧ x.settleRemaining = 0 ∧ x.restart = false := by
  simp [Generator.settled, and_assoc]

/-- A retune that completes calls for a pass (R139). -/
theorem passTriggered_of_retuned {a b : State} {g : GenId} (ha : (a.gen g).state = .retuning)
    (hb : (b.gen g).state ≠ .retuning) : passTriggered a b = true := by
  have retuned : [(0 : GenId), 1].any (fun g => (decide (0 < (a.gen g).users) && decide ((b.gen g).users = 0))
      || (decide ((a.gen g).state = .retuning) && !decide ((b.gen g).state = .retuning))) = true :=
    List.any_eq_true.mpr ⟨g, by fin_cases g <;> simp, by simp [ha, hb]⟩
  simp only [passTriggered, retuned, Bool.or_true, Bool.true_or]

/-- Settles O49: the settling begins at the old cycle's end, and its end completes the retune and calls for a pass. -/
theorem retunePhases : Obligations.RetunePhases := by
  unfold Obligations.RetunePhases
  intro dt g s hlow u x put
  have start : Becomes (exec (.retuneSettleStart dt g) s) (beginSettling g u) := takeEvent_becomes hlow dt (beginSettling g)
  refine ⟨fun hs hp _ hend => ?_, fun h => ?_, fun hs hp hzero hr => ?_, fun h => ?_⟩
  · have begins : beginSettling g u = put (x.settleFrom u.tb.ticks) := by
      have tick : (u.gen g).settleTick u.tb.ticks = some u.tb.ticks := Generator.settleTick_eq_some hs hp hend le_rfl
      simp only [beginSettling, tick, Nat.sub_self, Generator.elapse_zero]
      rfl
    rw [begins] at start
    exact start
  · have waits : beginSettling g u = u := by
      have none : (u.gen g).settleTick u.tb.ticks = none := Generator.settleTick_eq_none h
      simp only [beginSettling, none]
    rwa [waits] at start
  · intro a
    have effect : finishRetune g u = a := if_pos (Generator.settled_iff.mpr ⟨hs, hp, hzero, hr⟩)
    have idle : (a.gen g).state ≠ .retuning := by
      have gen : a.gen g = x.completeRetune := PerGen.get_set_self u.gens g _
      rw [gen]
      exact nofun
    refine ⟨?_, fun hw => ?_⟩
    · rw [← effect]
      exact takeArbitrated_passes hlow dt (finishRetune g) (passTriggered_of_retuned hs (effect ▸ idle))
    · rw [← effect]
      exact takeArbitrated_becomes_of_idle hlow dt (finishRetune g)
        (Or.inr ((congrArg State.waiting effect).trans ((elapse_waiting dt s).trans hw)))
  · refine takeArbitrated_unchanged hlow (if_neg fun settled => ?_)
    obtain ⟨hs, hp, hzero, -⟩ := Generator.settled_iff.mp settled
    rcases h with h | h | h
    · exact h hs
    · exact Bool.false_ne_true (h.symm.trans hp)
    · exact h.ne' hzero

end Sys2Proof.Machine
end

section
/-! SUPPORT. Upstream: which report leaves next, which frame the idle transmitter begins, how every event leaves the
transmitter, and the ends of the upstream frames (R155, R156, R162 to R165, R175, R177). -/

namespace Sys2Proof.Machine

/-! ### Which report leaves next (R155, R156) -/

theorem eligible_iff {older : List ReportEntry} {e : ReportEntry} : eligible older e = true
    ↔ e.held = false ∧ e.inTransmission = false
      ∧ ∀ o ∈ older, o.held = true ∧ (o.report.slot ≠ e.report.slot ∨ e.report.kind = .resolved) := by
  simp [eligible, and_assoc]

theorem firstEligible_cons_of_eligible {passed rest : List ReportEntry} {x : ReportEntry}
    (h : eligible passed x = true) : firstEligible passed (x :: rest) = some x := if_pos h

theorem firstEligible_cons_of_not_eligible {passed rest : List ReportEntry} {x : ReportEntry}
    (h : ¬eligible passed x = true) : firstEligible passed (x :: rest) = firstEligible (passed ++ [x]) rest := if_neg h

/-- The search over a queue in two parts goes on to the younger part when the older names no report. -/
theorem firstEligible_append (older younger : List ReportEntry) : ∀ passed : List ReportEntry,
    firstEligible passed (older ++ younger)
      = (firstEligible passed older).or (firstEligible (passed ++ older) younger) := by
  induction older with
  | nil => simp [firstEligible]
  | cons x older ih =>
    intro passed
    rw [List.cons_append]
    by_cases hx : eligible passed x = true
    · rw [firstEligible_cons_of_eligible hx, firstEligible_cons_of_eligible hx, Option.some_or]
    · rw [firstEligible_cons_of_not_eligible hx, firstEligible_cons_of_not_eligible hx, ih, List.append_assoc]
      rfl

/-- The report named has its place in the queue, and the queue before it names none. -/
theorem split_of_firstEligible {e : ReportEntry} (queue : List ReportEntry) : ∀ passed : List ReportEntry,
    firstEligible passed queue = some e →
      ∃ older younger, queue = older ++ e :: younger ∧ eligible (passed ++ older) e = true
        ∧ firstEligible passed older = none := by
  induction queue with
  | nil => exact fun _ => nofun
  | cons x rest ih =>
    intro passed h
    by_cases hx : eligible passed x = true
    · obtain rfl := Option.some.inj ((firstEligible_cons_of_eligible hx).symm.trans h)
      exact ⟨[], rest, rfl, by rwa [List.append_nil], rfl⟩
    · rw [firstEligible_cons_of_not_eligible hx] at h
      obtain ⟨older, younger, rfl, helig, hnone⟩ := ih _ h
      exact ⟨x :: older, younger, rfl, by simpa using helig,
        (firstEligible_cons_of_not_eligible hx).trans hnone⟩

theorem firstEligible_eq_some_iff {passed queue : List ReportEntry} {e : ReportEntry} :
    firstEligible passed queue = some e
      ↔ ∃ older younger, queue = older ++ e :: younger ∧ eligible (passed ++ older) e = true
        ∧ firstEligible passed older = none := by
  refine ⟨split_of_firstEligible queue passed, fun ⟨older, younger, hq, helig, hnone⟩ => ?_⟩
  rw [hq, firstEligible_append, hnone, Option.none_or, firstEligible_cons_of_eligible helig]

/-- No report is named when none is eligible in its place. -/
theorem firstEligible_eq_none_iff {passed queue : List ReportEntry} :
    firstEligible passed queue = none
      ↔ ∀ older e younger, queue = older ++ e :: younger → ¬eligible (passed ++ older) e = true := by
  refine ⟨fun h older e younger hq helig => ?_, fun h => ?_⟩
  · rw [hq, firstEligible_append, firstEligible_cons_of_eligible helig, Option.or_eq_none_iff] at h
    cases h.2
  · refine Option.eq_none_iff_forall_ne_some.mpr fun e named => ?_
    obtain ⟨older, younger, hq, helig, -⟩ := split_of_firstEligible queue passed named
    exact h older e younger hq helig

/-- Settles O54: the search goes on exactly over the entries that are not eligible in their places. -/
theorem reportEligibility : Obligations.ReportEligibility := by
  unfold Obligations.ReportEligibility
  intro Eligible queue
  have named (older : List ReportEntry) (e : ReportEntry) : eligible ([] ++ older) e = true ↔ Eligible older e :=
    eligible_iff
  refine ⟨fun e => ?_, ?_⟩
  · simp only [firstEligible_eq_some_iff, firstEligible_eq_none_iff, named]
  · simp only [firstEligible_eq_none_iff, named]

/-! ### Which frame the idle transmitter begins (R163) -/

/-- The oldest frame of the reply list has its answer (R165). -/
def State.ReplyReady (s : State) : Prop :=
  ∃ r rest code data, s.link.replies = r :: rest ∧ r.answer = .given code data

theorem readyReply_of_given {s : State} {r : ReplyEntry} {rest : List ReplyEntry} {code : ReplyCode}
    {data : List Byte} (hl : s.link.replies = r :: rest) (hr : r.answer = .given code data) :
    readyReply s = some { kind := .reply, seq := r.seq, payload := replyPayload r.kind code data } := by
  obtain ⟨kind, seq, answer, linkReset⟩ := r
  obtain rfl : answer = .given code data := hr
  simp only [readyReply, hl]

theorem readyReply_eq_none_iff {s : State} : readyReply s = none ↔ ¬s.ReplyReady := by
  refine ⟨fun h => fun ⟨r, rest, code, data, hl, hr⟩ => ?_, fun h => ?_⟩
  · cases (readyReply_of_given hl hr).symm.trans h
  · unfold readyReply
    split
    · next hl => exact absurd ⟨_, _, _, _, hl, rfl⟩ h
    · rfl

section
variable {s : State}

theorem upstreamChoice_of_idle (hlow : s.resetLow = false) (hidle : s.link.transmitting = none) :
    upstreamChoice s = chooseFrame s := by
  simp [upstreamChoice, hlow, hidle]

theorem chooseFrame_of_reply {f : UpFrame} (h : readyReply s = some f) : chooseFrame s = transmit f s := by
  simp only [chooseFrame, h]

theorem chooseFrame_of_notice (hr : readyReply s = none) (h : s.events.notice = true) :
    chooseFrame s = startAttn s := by
  simp only [chooseFrame, hr, h, if_true]

theorem chooseFrame_of_report (hr : readyReply s = none) (hn : s.events.notice = false) {e : ReportEntry}
    (h : firstEligible [] s.reports.queue = some e) : chooseFrame s = startReport e s := by
  simp only [chooseFrame, hr, hn, h, Bool.false_eq_true, if_false]

theorem chooseFrame_of_raw (hr : readyReply s = none) (hn : s.events.notice = false)
    (he : firstEligible [] s.reports.queue = none) {c : RawCopy} {rest : List RawCopy} (h : s.raw = c :: rest) :
    chooseFrame s = transmit { kind := .raw, seq := 0, payload := rawPayload c } s := by
  simp only [chooseFrame, hr, hn, he, h, Bool.false_eq_true, if_false]

theorem chooseFrame_of_nothing (hr : readyReply s = none) (hn : s.events.notice = false)
    (he : firstEligible [] s.reports.queue = none) (h : s.raw = []) : chooseFrame s = s := by
  simp only [chooseFrame, hr, hn, he, h, Bool.false_eq_true, if_false]

/-- A transmitter that stays idle has found no frame ready. -/
theorem nothingReady_of_chooseFrame_idle (h : (chooseFrame s).link.transmitting = none) :
    readyReply s = none ∧ s.events.notice = false ∧ firstEligible [] s.reports.queue = none ∧ s.raw = [] := by
  cases hr : readyReply s with
  | some f => rw [chooseFrame_of_reply hr] at h; cases h
  | none =>
    cases hn : s.events.notice with
    | true => rw [chooseFrame_of_notice hr hn] at h; cases h
    | false =>
      cases he : firstEligible [] s.reports.queue with
      | some e => rw [chooseFrame_of_report hr hn he] at h; cases h
      | none =>
        cases hc : s.raw with
        | cons c rest => rw [chooseFrame_of_raw hr hn he hc] at h; cases h
        | nil => exact ⟨rfl, rfl, rfl, rfl⟩

end

theorem startAttn_sameBut (s : State) : SameBut [.link, .events] s (startAttn s) :=
  ⟨rfl, fun x hx => by cases x <;> simp_all [Block.Same, startAttn, transmit]⟩

theorem startReport_sameBut (e : ReportEntry) (s : State) : SameBut [.reports, .link] s (startReport e s) :=
  ⟨rfl, fun x hx => by cases x <;> simp_all [Block.Same, startReport, transmit]⟩

/-! ### Every event leaves the upstream side settled (R163, R175, R177) -/

theorem noticeDue_conclude (s : State) : (conclude s).noticeDue = false :=
  noticeDue_upstreamChoice (noticeDue_raiseNotice s)

/-- An event of a part that is not held in reset ends with the notice settled and the frame chosen. -/
theorem conclude_of_taken {s a t : State} (ht : t = if s.resetLow then s else conclude a) (hlow : t.resetLow = false) :
    conclude t = t := by
  cases hs : s.resetLow with
  | true =>
    obtain rfl : t = s := by rw [ht, hs]; rfl
    exact absurd (hs.symm.trans hlow) nofun
  | false =>
    obtain rfl : t = conclude a := by rw [ht, hs]; rfl
    exact conclude_conclude a

/-- Every command that leaves a part which runs has ended its event; a release of a pin that is high is no event. -/
theorem exec_concluded {c : Instr} {s t : State} (h : exec c s = .next t) (hlow : t.resetLow = false)
    (hc : s.resetLow = true ∨ ∀ dt, c ≠ .resetPinRelease dt) : conclude t = t := by
  cases hp : ofPower c with
  | false =>
    rw [exec_eq_effect hp] at h
    split at h
    · exact conclude_of_taken (Host.Outcome.next.inj h).symm hlow
    · exact conclude_of_taken (Host.Outcome.next.inj h).symm hlow
  | true =>
    cases c with
    | powerOn dt => cases h; exact conclude_powerUp _ _ _
    | resetPinRelease dt =>
      have hs : s.resetLow = true := hc.resolve_right fun k => k dt rfl
      obtain rfl : powerUp .pin false s = t := (if_pos hs).symm.trans (Host.Outcome.next.inj h)
      exact conclude_powerUp _ _ _
    | resetPinAssert dt =>
      obtain rfl := Host.Outcome.next.inj h
      split at hlow
      · next hs => exact absurd (hs.symm.trans hlow) nofun
      · cases hlow
    | _ => cases hp

/-- A settled part has the latch set or the notice ready while a notifiable event waits (R177). -/
theorem latch_or_notice_of_concluded {t : State} (h : conclude t = t)
    (hr : ∃ r ∈ t.events.queue, r.urgent = true ∨ t.events.delay = false) :
    t.events.latch = true ∨ t.events.notice = true := by
  have settled : t.noticeDue = false := h ▸ noticeDue_conclude t
  have notifiable : t.events.notifiable = true := by simpa [EventUnit.notifiable] using hr
  cases hl : t.events.latch with
  | true => exact Or.inl rfl
  | false => simpa [State.noticeDue, notifiable, hl] using settled

/-- A settled part whose transmitter is idle has no frame ready (R163). -/
theorem nothingReady_of_concluded {t : State} (h : conclude t = t) (hlow : t.resetLow = false)
    (hidle : t.link.transmitting = none) :
    readyReply t = none ∧ t.events.notice = false ∧ firstEligible [] t.reports.queue = none ∧ t.raw = [] := by
  have settled : t.noticeDue = false := h ▸ noticeDue_conclude t
  have chosen : chooseFrame t = t :=
    calc chooseFrame t = upstreamChoice t := (upstreamChoice_of_idle hlow hidle).symm
      _ = conclude t := by rw [conclude, raiseNotice_of_notDue settled]
      _ = t := h
  exact nothingReady_of_chooseFrame_idle (chosen.symm ▸ hidle)

/-- Settles O55: the transmitter's choice is read case by case in the order of R163, and an event that has ended has
nothing more to end. -/
theorem upstreamPriority : Obligations.UpstreamPriority := by
  unfold Obligations.UpstreamPriority
  refine ⟨fun s hlow => ?_, fun s => rfl, fun s => ?_, fun c s t h hlow hc => ?_⟩
  · intro t sending replyReady
    refine ⟨fun f busy => upstreamChoice_of_busy (busy ▸ Option.some_ne_none f), fun hidle => ?_⟩
    have chosen : t = chooseFrame s := upstreamChoice_of_idle hlow hidle
    refine ⟨fun r rest code data hl hr => ?_, fun unready notice => ?_, fun unready quiet => ?_⟩
    · exact chosen.trans (chooseFrame_of_reply (readyReply_of_given hl hr))
    · have ht : t = startAttn s := chosen.trans (chooseFrame_of_notice (readyReply_eq_none_iff.mpr unready) notice)
      rw [ht]
      exact ⟨rfl, rfl, rfl, startAttn_sameBut s⟩
    · have hr : readyReply s = none := readyReply_eq_none_iff.mpr unready
      refine ⟨fun e named => ?_, fun unnamed => ⟨fun c rest hraw => ?_, fun hraw => ?_⟩⟩
      · have ht : t = startReport e s := chosen.trans (chooseFrame_of_report hr quiet named)
        rw [ht]
        exact ⟨rfl, rfl, rfl, rfl, rfl, rfl, startReport_sameBut e s⟩
      · exact chosen.trans (chooseFrame_of_raw hr quiet unnamed hraw)
      · exact chosen.trans (chooseFrame_of_nothing hr quiet unnamed hraw)
  · intro waits
    have due : s.noticeDue = true ↔ waits ∧ s.events.latch = false ∧ s.events.notice = false := by
      simp only [State.noticeDue, Bool.and_eq_true, Bool.not_eq_true', and_assoc]
      rfl
    exact ⟨fun hw hl hn => if_pos (due.mpr ⟨hw, hl, hn⟩),
      fun h => raiseNotice_of_notDue (Bool.eq_false_iff.mpr (mt due.mp h))⟩
  · have ended : conclude t = t := exec_concluded h hlow hc
    refine ⟨latch_or_notice_of_concluded ended, fun hidle => ?_⟩
    obtain ⟨reply, rest⟩ := nothingReady_of_concluded ended hlow hidle
    refine ⟨fun r more hl => ?_, rest⟩
    cases answer : r.answer with
    | waitingGroup slot net => exact ⟨slot, net, rfl⟩
    | given code data => exact absurd ⟨r, more, code, data, hl, answer⟩ (readyReply_eq_none_iff.mp reply)

/-! ### The end of an upstream frame (R162, R163, R165) -/

/-- Time does not end the frame in transmission, and a busy transmitter begins no other. -/
theorem elapse_link_of_busy {s : State} {f : UpFrame} (h : s.link.transmitting = some f) (dt : Nat) :
    (elapse dt s).link = s.link :=
  ((elapse_wrapsOnly dt s).busy (h ▸ Option.some_ne_none f)).2.symm

section
variable {s : State} {f : UpFrame} (h : s.link.transmitting = some f)
include h

theorem sending_iff (k : UpKind) : s.sending k = true ↔ f.kind = k := by
  simp [State.sending, h]

theorem endAttn_of_attn (hk : f.kind = .attn) : endAttn s = freeTransmitter s := if_pos ((sending_iff h _).mpr hk)

theorem endAttn_of_other (hk : f.kind ≠ .attn) : endAttn s = s := if_neg (mt (sending_iff h _).mp hk)

theorem endReply_of_reply (hk : f.kind = .reply) {r : ReplyEntry} {rest : List ReplyEntry}
    (hl : s.link.replies = r :: rest) (hr : r.linkReset = false) : endReply s = dropReply (freeTransmitter s) := by
  have plain : s.sendingLinkReset = false := by simp [State.sendingLinkReset, h, hl, hr]
  rw [endReply, plain, if_pos ((sending_iff h _).mpr hk)]
  rfl

theorem endReply_of_other (hk : f.kind ≠ .reply) : endReply s = s := by
  have plain : s.sendingLinkReset = false := by
    unfold State.sendingLinkReset
    split
    · next ht _ => simp [← Option.some.inj (h.symm.trans ht), hk]
    · rfl
  rw [endReply, plain, if_neg (mt (sending_iff h _).mp hk)]
  rfl

theorem endReport_of_other (hk : f.kind ≠ .report) : endReport s = s := if_neg (mt (sending_iff h _).mp hk)

theorem endRaw_of_raw (hk : f.kind = .raw) : endRaw s = { freeTransmitter s with raw := advanceRaw s.raw } :=
  if_pos ((sending_iff h _).mpr hk)

theorem endRaw_of_other (hk : f.kind ≠ .raw) : endRaw s = s := if_neg (mt (sending_iff h _).mp hk)

end

/-- A copy sent within its pairs leaves after the fragment that reaches its last pair. -/
theorem advanceRaw_cons {c : RawCopy} (rest : List RawCopy) (h : c.nextPair ≤ c.samples) :
    advanceRaw (c :: rest) =
      if c.nextPair + rawFragment c = c.samples then rest
      else { c with nextPair := c.nextPair + rawFragment c } :: rest := by
  have reaches : c.samples ≤ c.nextPair + rawFragment c ↔ c.nextPair + rawFragment c = c.samples := by
    unfold rawFragment
    omega
  simp only [advanceRaw, reaches]

/-- Settles O52: the end of a frame finds the kind in transmission, which no passing of time has changed. -/
theorem frameEndsFreeTransmitter : Obligations.FrameEndsFreeTransmitter := by
  unfold Obligations.FrameEndsFreeTransmitter
  intro dt f s hlow hsend u freed
  have link : u.link = s.link := elapse_link_of_busy hsend dt
  have busy : u.link.transmitting = some f := link ▸ hsend
  have ends {g : State → State} {a : State} (effect : g u = a) : Becomes (takeEvent dt g s) a :=
    effect ▸ takeEvent_becomes hlow dt g
  refine ⟨fun hk => ends (endAttn_of_attn busy hk), fun r rest hk hl hr => ends ?_, fun c rest hk hraw hle => ends ?_,
    fun hk => ends (endAttn_of_other busy hk), fun hk => ends (endReply_of_other busy hk),
    fun hk => takeArbitrated_unchanged hlow (endReport_of_other busy hk), fun hk => ends (endRaw_of_other busy hk)⟩
  · have replies : u.link.replies = r :: rest := link ▸ hl
    rw [endReply_of_reply busy hk replies hr]
    simp only [dropReply, freeTransmitter, replies, List.tail_cons, freed]
  · have raw : u.raw = c :: rest := (elapse_raw dt s).trans hraw
    rw [endRaw_of_raw busy hk, raw, advanceRaw_cons rest hle]
    rfl

end Sys2Proof.Machine
end


section
/-! SUPPORT. Frames that the receiver or the link discards or refuses, and a part held in reset (R164, R165, R167, R168,
R174, R175). -/

namespace Sys2Proof.Machine

/-! ### Frames that no block takes (R165, R174) -/

/-- A frame command that is an event of its row acts through the receiver alone (R165). -/
theorem effectOf_frame {c : Instr} (hframe : c.isFrame = true) (hwell : c.WellFormed = true) :
    ∃ take : State → State, effectOf c = takeFrame take := by
  cases c with
  | unknownFrameKind dt seq kind =>
    have unknown : ¬knownKind kind = true := by simpa [Instr.WellFormed] using hwell
    exact ⟨_, funext fun _ => if_neg unknown⟩
  | badRequest dt seq payload =>
    have malformed : requestMalformed payload = true := (Bool.and_eq_true_iff.mp hwell).2
    exact ⟨_, funext fun _ => if_pos malformed⟩
  | replyListOverflow | dispatch | table | get | setLaneEnable | setEventDelay | setRawCopy | setLearnCount
  | setDeferAge | setTbSource | setTbFail | status | fetchEvent | group | panelStart | xout | batchClear
  | laneReset | linkReset => exact ⟨_, rfl⟩
  | _ => cases hframe

theorem ofPower_of_isFrame {c : Instr} (h : c.isFrame = true) : ofPower c = false := by
  cases c with
  | powerOn | resetPinAssert | resetPinRelease => cases h
  | _ => rfl

/-- A command whose effect calls for no pass of the arbiter ends in that effect, whether or not the arbiter looks. -/
theorem exec_becomes_of_no_pass {c : Instr} {s a : State} (hpower : ofPower c = false) (hlow : s.resetLow = false)
    (effect : effectOf c (elapse c.dt s) = a) (quiet : passTriggered (elapse c.dt s) a = false) :
    Becomes (exec c s) a := by
  subst effect
  rw [exec_eq_effect hpower]
  split
  · exact takeArbitrated_becomes hlow _ _ quiet
  · exact takeEvent_becomes hlow _ _

/-- A good frame after a LINK_RESET was taken is discarded uncounted (R174). -/
theorem exec_frame_deaf {c : Instr} {s : State} (hframe : c.isFrame = true) (hwell : c.WellFormed = true)
    (hlow : s.resetLow = false) (hdeaf : s.link.receiving = false) : Becomes (exec c s) (elapse c.dt s) := by
  obtain ⟨take, effect⟩ := effectOf_frame hframe hwell
  have discarded : effectOf c (elapse c.dt s) = elapse c.dt s := effect ▸ takeFrame_deaf (by simpa) take
  exact exec_becomes_of_no_pass (ofPower_of_isFrame hframe) hlow discarded (passTriggered_self _)

/-- A good frame that meets a full reply list is discarded and counted (R165). -/
theorem exec_frame_full {c : Instr} {s : State} (hframe : c.isFrame = true) (hwell : c.WellFormed = true)
    (hlow : s.resetLow = false) (hrecv : s.link.receiving = true) (hfull : 64 ≤ s.link.replies.length) :
    Becomes (exec c s) (elapse c.dt s).withLinkError := by
  obtain ⟨take, effect⟩ := effectOf_frame hframe hwell
  have counted : effectOf c (elapse c.dt s) = (elapse c.dt s).withLinkError :=
    effect ▸ takeFrame_full (by simpa) ((elapse_replies c.dt s).symm ▸ hfull) take
  exact exec_becomes_of_no_pass (ofPower_of_isFrame hframe) hlow counted
    (passTriggered_of_same rfl (fun _ => rfl) (fun _ => rfl) rfl)

/-- Settles O11: every frame command acts through the receiver, which takes none of these. -/
theorem discardedFramesAreNotTaken : Obligations.DiscardedFramesAreNotTaken := by
  unfold Obligations.DiscardedFramesAreNotTaken
  intro c s hframe hwell hlow
  exact ⟨exec_frame_deaf hframe hwell hlow, exec_frame_full hframe hwell hlow⟩

/-! ### Bad frames and malformed requests (R164, R167, R168) -/

theorem linkFrameError_counted {received : List Byte} (h : receiveLink received = none) (u : State) :
    (if u.link.receiving && (receiveLink received).isNone then countLinkError u else u)
      = if u.link.receiving then u.withLinkError else u := by
  rw [h, Option.isNone_none, Bool.and_true]
  rfl

theorem knownKind_eq_false {kind : Byte} (h1 : kind ≠ 1#8) (h2 : kind ≠ 2#8) (h3 : kind ≠ 3#8) :
    knownKind kind = false := by
  simp [knownKind, h1, h2, h3]

/-- A frame of an unknown kind is taken as any frame is, to be refused (R165). -/
theorem exec_unknownFrameKind {kind : Byte} (unknown : knownKind kind = false) (dt : Nat) (seq : Byte) (s : State) :
    exec (.unknownFrameKind dt seq kind) s
      = takeEvent dt (takeFrame (enterReply kind seq (.given .badRequest []))) s := by
  simp [exec, execUnknownFrameKind, unknown]

/-- A malformed REQUEST is taken as any frame is, to be refused (R167). -/
theorem exec_badRequest {payload : List Byte} (malformed : requestMalformed payload = true) (dt : Nat) (seq : Byte)
    (s : State) :
    exec (.badRequest dt seq payload) s = takeEvent dt (takeFrame (replyRefusal seq .badRequest)) s := by
  simp [exec, execBadRequest, malformed]

/-- The requests of R167 with the lengths of their arguments; a SET names a setting (R168). -/
theorem requestMalformed_cons_eq_false_iff (kind : Byte) (arguments : List Byte) :
    requestMalformed (kind :: arguments) = false ↔
      (kind.toNat, arguments.length) ∈
          [(1, 1), (2, 5), (3, 0), (4, 0), (5, 3), (6, 2), (7, 1), (8, 0), (9, 1), (10, 0)]
        ∧ (kind.toNat = 2 → 1 ≤ fieldAt arguments 0 1 ∧ fieldAt arguments 0 1 ≤ 7) := by
  unfold requestMalformed
  dsimp only
  generalize kind.toNat = k
  split
  case h_2 => simp [Nat.one_le_iff_ne_zero, and_assoc]
  case h_11 => simp_all
  all_goals simp

/-- Settles O10: the receiver counts or discards, and a refusal is entered by the taking of the frame. -/
theorem badFramesHaveNoOtherEffect : Obligations.BadFramesHaveNoOtherEffect := by
  unfold Obligations.BadFramesHaveNoOtherEffect
  refine ⟨fun dt s => ?_, fun payload => ?_⟩
  · intro u
    refine ⟨fun received hlow herror => ?_, fun hlow hrecv hfull => exec_frame_full rfl rfl hlow hrecv hfull,
      fun seq kind hs h1 h2 h3 => ?_, fun seq payload hs malformed => ?_⟩
    · have becomes : Becomes (exec (.linkFrameError dt received) s) _ := takeEvent_becomes hlow dt _
      rwa [linkFrameError_counted herror, elapse_receiving] at becomes
    · exact exec_unknownFrameKind (knownKind_eq_false h1 h2 h3) dt seq s ▸ takeEvent_takeFrame_becomes hs dt _
    · exact exec_badRequest malformed dt seq s ▸ takeEvent_takeFrame_becomes hs dt _
  · cases payload with
    | nil => simp [requestMalformed]
    | cons kind arguments => simp [requestMalformed_cons_eq_false_iff]

/-! ### A part held in reset (R175) -/

/-- Settles O5: what is no command of power or of the pin is an event, and none is taken while the pin is low. -/
theorem heldInResetNothingActs : Obligations.HeldInResetNothingActs := by
  unfold Obligations.HeldInResetNothingActs
  intro c s hlow hpower hrelease
  cases hp : ofPower c with
  | false =>
    rw [exec_eq_effect hp]
    split
    · exact takeArbitrated_held hlow _ _
    · exact takeEvent_held hlow _ _
  | true =>
    cases c with
    | powerOn dt => exact absurd rfl (hpower dt)
    | resetPinRelease dt => exact absurd rfl (hrelease dt)
    | resetPinAssert dt => exact congrArg Host.Outcome.next (if_pos hlow)
    | _ => cases hp

end Sys2Proof.Machine
end


section
/-! SUPPORT. STATUS: the 36 bytes of its snapshot, block by block (R169, R179). -/

namespace Sys2Proof.Machine

/-! ### Bytes of a run -/

/-- A one-byte field of a run is the byte that stands there. -/
theorem fieldAt_one {bs : List Byte} {k : Nat} {b : Byte} (h : bs[k]? = some b) : fieldAt bs k 1 = b.toNat := by
  obtain ⟨hk, rfl⟩ := List.getElem?_eq_some_iff.mp h
  rw [fieldAt, List.drop_eq_getElem_cons hk, List.take_succ_cons, List.take_zero]
  simp [beNat]

/-- A one-byte field that codes a number below 256 reads as that number. -/
theorem fieldAt_one_byte {bs : List Byte} {k x : Nat} (h : bs[k]? = some (byte x)) (hx : x < 256) :
    fieldAt bs k 1 = x := by
  rw [fieldAt_one h, byte_toNat, Nat.mod_eq_of_lt hx]

/-- A field is read at the start of what stands from its place on. -/
theorem fieldAt_of_drop {bs rest : List Byte} {k : Nat} (h : bs.drop k = rest) (n : Nat) :
    fieldAt bs k n = fieldAt rest 0 n := by
  subst h
  rfl

/-- A one-byte field that codes any number reads as its low 8 bits. -/
theorem fieldAt_one_mod {bs : List Byte} {k x : Nat} (h : bs[k]? = some (byte x)) : fieldAt bs k 1 = x % 256 :=
  (fieldAt_one h).trans (byte_toNat x)

theorem bitIf_one_lt (b : Bool) : bitIf b 1 < 256 := by cases b <;> decide

/-! ### Codings (R179) -/

theorem pendingNumber_eq (p : Option Source) : pendingNumber p
    = if p = none then 0 else if p = some .internal then 1 else 2 := by
  rcases p with _ | _ | _ <;> rfl

theorem Loop.number_eq (x : Loop) : x.number = if x = .off then 0 else if x = .locking then 1 else 2 := by
  cases x <;> rfl

theorem Source.number_lt (x : Source) : x.number < 256 := by cases x <;> decide
theorem pendingNumber_lt (p : Option Source) : pendingNumber p < 256 := by rcases p with _ | _ | _ <;> decide
theorem Loop.number_lt (x : Loop) : x.number < 256 := by cases x <;> decide
theorem LaneState.number_lt (x : LaneState) : x.number < 256 := by cases x <;> decide
theorem Rate.mbit_lt (x : Rate) : x.mbit < 256 := by cases x <;> decide
theorem GenState.number_lt (x : GenState) : x.number < 256 := by cases x <;> decide

/-! ### The snapshot (R169) -/

theorem statusData_length (s : State) : (statusData s).length = 36 := rfl

theorem statusData_timebase (s : State) : fieldAt (statusData s) 0 1 = s.tb.source.number
    ∧ fieldAt (statusData s) 1 1 = pendingNumber s.tb.pendingSwitch
    ∧ fieldAt (statusData s) 2 1 = s.tb.loop.number
    ∧ fieldAt (statusData s) 3 1 = bitIf s.tb.tbFail 1 :=
  ⟨fieldAt_one_byte rfl (Source.number_lt _), fieldAt_one_byte rfl (pendingNumber_lt _),
    fieldAt_one_byte rfl (Loop.number_lt _), fieldAt_one_byte rfl (bitIf_one_lt _)⟩

theorem statusData_lane (s : State) (n : LaneId) :
    fieldAt (statusData s) (4 + n.val) 1 = (s.lane n).state.number
    ∧ fieldAt (statusData s) (8 + n.val) 1 = (s.lane n).rate.mbit := by
  have bytes : (statusData s)[4 + n.val]? = some (byte (s.lane n).state.number)
      ∧ (statusData s)[8 + n.val]? = some (byte (s.lane n).rate.mbit) := by
    match n with
    | 0 | 1 | 2 | 3 => exact ⟨rfl, rfl⟩
  obtain ⟨state, rate⟩ := bytes
  exact ⟨fieldAt_one_byte state (LaneState.number_lt _), fieldAt_one_byte rate (Rate.mbit_lt _)⟩

theorem statusData_gen (s : State) (g : GenId) :
    fieldAt (statusData s) (12 + 3 * g.val) 1 = (s.gen g).state.number
    ∧ fieldAt (statusData s) (13 + 3 * g.val) 1 = (s.gen g).statusFrequency % 256
    ∧ fieldAt (statusData s) (14 + 3 * g.val) 1 = (s.gen g).users % 256 := by
  have bytes : (statusData s)[12 + 3 * g.val]? = some (byte (s.gen g).state.number)
      ∧ (statusData s)[13 + 3 * g.val]? = some (byte (s.gen g).statusFrequency)
      ∧ (statusData s)[14 + 3 * g.val]? = some (byte (s.gen g).users) := by
    match g with
    | 0 | 1 => exact ⟨rfl, rfl, rfl⟩
  obtain ⟨state, frequency, users⟩ := bytes
  exact ⟨fieldAt_one_byte state (GenState.number_lt _), fieldAt_one_mod frequency, fieldAt_one_mod users⟩

theorem statusData_fills (s : State) : fieldAt (statusData s) 18 1 = s.entries.length % 256
    ∧ fieldAt (statusData s) 19 1 = s.reports.queue.length % 256
    ∧ fieldAt (statusData s) 20 1 = s.groups.queue.length % 256
    ∧ fieldAt (statusData s) 21 1 = s.sigs.deferred.length % 256
    ∧ fieldAt (statusData s) 22 1 = s.events.queue.length % 256
    ∧ fieldAt (statusData s) 23 1 = bitIf s.events.overflow 1
    ∧ fieldAt (statusData s) 24 1 = s.groups.incomplete.toNat :=
  ⟨fieldAt_one_mod rfl, fieldAt_one_mod rfl, fieldAt_one_mod rfl, fieldAt_one_mod rfl, fieldAt_one_mod rfl,
    fieldAt_one_byte rfl (bitIf_one_lt _), fieldAt_one rfl⟩

theorem statusData_board (s : State) : fieldAt (statusData s) 25 4 = s.board.panelSequence.toNat
    ∧ fieldAt (statusData s) 29 2 = s.board.batch.toNat
    ∧ fieldAt (statusData s) 31 1 = bitIf s.board.panelOpen 1
    ∧ fieldAt (statusData s) 32 1 = s.sigs.inForceK % 256
    ∧ fieldAt (statusData s) 33 1 = s.sigs.nextK % 256
    ∧ fieldAt (statusData s) 34 2 = s.link.linkErrors % 65536 := by
  have sequence : fieldAt (statusData s) 25 4 = s.board.panelSequence.toNat % 4294967296 :=
    (fieldAt_of_drop rfl 4).trans (fieldAt_be32 _ _)
  have batch : fieldAt (statusData s) 29 2 = s.board.batch.toNat % 65536 :=
    (fieldAt_of_drop rfl 2).trans (fieldAt_be16 _ _)
  have errors : fieldAt (statusData s) 34 2 = s.link.linkErrors % 65536 :=
    (fieldAt_of_drop rfl 2).trans (fieldAt_be16 _ [])
  rw [Nat.mod_eq_of_lt s.board.panelSequence.isLt] at sequence
  rw [Nat.mod_eq_of_lt s.board.batch.isLt] at batch
  exact ⟨sequence, batch, fieldAt_one_byte rfl (bitIf_one_lt _), fieldAt_one_mod rfl, fieldAt_one_mod rfl, errors⟩

/-- STATUS reports the target of a generator while it is RETUNING, else its frequency, 255 for none (R136, R179). -/
theorem statusFrequency_of_retuning {g : Generator} (h : g.state = .retuning) :
    g.statusFrequency = g.target.getD 255 := if_pos h

theorem statusFrequency_of_not_retuning {g : Generator} (h : g.state ≠ .retuning) :
    g.statusFrequency = g.frequency.getD 255 := if_neg h

theorem statusFrequency_elapse (now n : Nat) (g : Generator) :
    (g.elapse now n).statusFrequency = g.statusFrequency := by
  simp [Generator.statusFrequency]

/-- Settles O18: the answer is the snapshot of the part as time has brought it there, and time changes none of its items but
those of the reports and the events. -/
theorem statusAnswersSnapshot : Obligations.StatusAnswersSnapshot := by
  unfold Obligations.StatusAnswersSnapshot
  intro dt seq s hs u
  obtain ⟨source, pending, loop, tbFail⟩ := statusData_timebase u
  simp only [u, elapse_tb, Timebase.elapse_source, Timebase.elapse_pendingSwitch, Timebase.elapse_loop,
    Timebase.elapse_tbFail] at source pending loop tbFail
  obtain ⟨entries, reports, merges, deferred, events, overflow, incomplete⟩ := statusData_fills u
  simp only [u, elapse_entries, elapse_groups, elapse_sigs] at entries merges deferred incomplete
  obtain ⟨sequence, batch, panelOpen, inForce, next, errors⟩ := statusData_board u
  simp only [u, elapse_board, elapse_sigs, elapse_linkErrors] at sequence batch panelOpen inForce next errors
  have lanes := statusData_lane u
  simp only [u, elapse_lane, Lane.elapse_state, Lane.elapse_rate] at lanes
  have gens := statusData_gen u
  simp only [u, elapse_gen, Generator.elapse_state, Generator.elapse_users, statusFrequency_elapse] at gens
  refine ⟨statusData u, takeEvent_takeFrame_becomes hs dt _, statusData_length u,
    source.trans (Source.number_eq _), pending.trans (pendingNumber_eq _), loop.trans (Loop.number_eq _), tbFail,
    fun n => ?_, fun g => ?_, entries, reports, merges, deferred, events, overflow, incomplete, sequence, batch,
    panelOpen, inForce, next, errors⟩
  · obtain ⟨state, rate⟩ := lanes n
    refine ⟨state.trans ?_, rate.trans ?_⟩
    · cases (s.lane n).state <;> rfl
    · cases (s.lane n).rate <;> rfl
  · obtain ⟨state, frequency, users⟩ := gens g
    refine ⟨state.trans ?_, fun i hi hstate target => ?_, fun i hi hstate tuned => ?_, fun hstate stale => ?_, users⟩
    · cases (s.gen g).state <;> rfl
    · rw [frequency, statusFrequency_of_retuning hstate, target, Option.getD_some, Nat.mod_eq_of_lt (by omega)]
    · rw [frequency, statusFrequency_of_not_retuning hstate, tuned, Option.getD_some, Nat.mod_eq_of_lt (by omega)]
    · rw [frequency, statusFrequency_of_not_retuning hstate, stale]
      rfl

end Sys2Proof.Machine
end


section
/-! SUPPORT. Events: the SET of EVENT_DELAY, FETCH_EVENT, and the posting of an event (R168, R176 to R179). -/

namespace Sys2Proof.Machine

/-! ### EVENT_DELAY (R177) -/

/-- The end of an event leaves the latch to the frame that begins (R177): with the transmitter busy, it stands. -/
theorem latch_conclude_of_busy {a : State} (busy : a.link.transmitting ≠ none) :
    (conclude a).events.latch = a.events.latch := by
  rw [conclude_busy busy]
  unfold raiseNotice
  split <;> rfl

/-- With the transmitter busy, an event ends with the notice ready that was ready or that has become due (R177). -/
theorem notice_conclude_of_busy {a : State} (busy : a.link.transmitting ≠ none) :
    (conclude a).events.notice = (a.events.notice || (a.events.notifiable && !a.events.latch)) := by
  rw [conclude_busy busy]
  cases due : a.noticeDue with
  | true =>
    have raised : raiseNotice a = { a with events := { a.events with notice := true } } := if_pos due
    obtain ⟨⟨notifiable, clear⟩, -⟩ : (a.events.notifiable = true ∧ (!a.events.latch) = true) ∧ _ := by
      simpa only [State.noticeDue, Bool.and_eq_true] using due
    rw [raised, notifiable, clear, Bool.and_true, Bool.or_true]
  | false =>
    rw [raiseNotice_of_notDue due]
    cases ready : a.events.notice with
    | true => rw [Bool.true_or]
    | false => simpa [State.noticeDue, ready] using due.symm

/-- Without EVENT_DELAY every record is notifiable, with it the urgent ones alone (R177). -/
theorem notifiable_of_undelayed {e : EventUnit} (hdelay : e.delay = false) (hqueue : e.queue ≠ []) :
    e.notifiable = true := by
  obtain ⟨r, hr⟩ := List.exists_mem_of_ne_nil _ hqueue
  exact List.any_eq_true.mpr ⟨r, hr, by simp [hdelay]⟩

theorem notifiable_of_none_urgent {e : EventUnit} (hdelay : e.delay = true)
    (hurgent : ∀ r ∈ e.queue, r.urgent = false) : e.notifiable = false :=
  List.any_eq_false.mpr fun r hr => by simp [hdelay, hurgent r hr]

/-- The latch stands under a write of EVENT_DELAY, and the notice stays ready only for a notifiable event. -/
theorem writeEventDelay_eq (value : Word) (u : State) : writeEventDelay value u
    = { u with events := { u.events with
        delay := decide (value.toNat ≠ 0)
        notice := u.events.notice && u.events.queue.any (fun r => r.urgent || !decide (value.toNat ≠ 0)) } } := by
  rw [decide_eq_decide.mpr (word_eq_zero_iff value).not.symm]
  rfl

theorem writeEventDelay_setting (value : Word) (u : State) :
    (writeEventDelay value u).setting .eventDelay = min 1 value.toNat := by
  rw [writeEventDelay_eq]
  exact bitIf_ne_zero value.toNat

/-- Settles O15: the write withdraws a notice with nothing to notify, and the end of the event raises one that is due. -/
theorem setEventDelaySettlesNotice : Obligations.SetEventDelaySettlesNotice := by
  unfold Obligations.SetEventDelaySettlesNotice
  intro dt seq value s hs u on
  have becomes : Becomes (exec (.setEventDelay dt seq value) s) ((writeEventDelay value u).withReply
      (answered kindRequest seq .ok (be32 ((writeEventDelay value u).setting .eventDelay)))) :=
    takeEvent_takeSet_becomes hs dt seq .eventDelay _
  rw [writeEventDelay_setting] at becomes
  have written : (writeEventDelay value u).events.delay = on := by rw [writeEventDelay_eq]
  refine ⟨writeEventDelay_eq value u ▸ becomes, fun busy => ⟨_, becomes, latch_conclude_of_busy busy, ?_, ?_⟩⟩
  · intro routine hon
    have nothing : (writeEventDelay value u).events.notifiable = false :=
      notifiable_of_none_urgent (written.trans hon) routine
    have withdrawn : (writeEventDelay value u).events.notice = false :=
      (congrArg (u.events.notice && ·) nothing).trans (Bool.and_false _)
    rw [notice_conclude_of_busy]
    · simp only [State.withReply, withdrawn, nothing, Bool.false_and, Bool.or_false]
    · exact busy
  · intro waits hoff clear
    have notifiable : (writeEventDelay value u).events.notifiable = true :=
      notifiable_of_undelayed (written.trans hoff) waits
    have latch : (writeEventDelay value u).events.latch = false := clear
    rw [notice_conclude_of_busy]
    · simp only [State.withReply, notifiable, latch, Bool.not_false, Bool.and_true, Bool.or_true]
    · exact busy

/-! ### FETCH_EVENT (R177, R178) -/

/-- The answer of FETCH_EVENT to an empty queue, and to a queue with an oldest record (R178, R179). -/
theorem fetchData_of_empty {e : EventUnit} (h : e.queue = []) :
    fetchData e = [byte (if e.overflow then 1 else 0), 0, 0, 0, 0, 0, 0, 0, 0, 0, 0] := by
  simp only [fetchData, h]
  rfl

theorem fetchData_of_cons {e : EventUnit} {r : EventRecord} {rest : List EventRecord} (h : e.queue = r :: rest) :
    fetchData e = [byte (if e.overflow then 1 else 0), byte rest.length, 1, byte r.code.number,
      byte (if r.urgent then 1 else 0)] ++ be16 r.parameter.toNat ++ be32 r.timestamp.toNat := by
  simp only [fetchData, h]
  rfl

theorem postEvent_of_room {s : State} (h : s.events.queue.length < 64) (code : EventCode) (parameter : Nat) :
    postEvent code parameter s = { s with events := { s.events with queue := s.events.queue ++
      [{ code := code, urgent := code.urgent, parameter := BitVec.ofNat 16 parameter,
         timestamp := s.tb.microseconds }] } } := if_pos h

theorem postEvent_of_full {s : State} (h : 64 ≤ s.events.queue.length) (code : EventCode) (parameter : Nat) :
    postEvent code parameter s = { s with events := { s.events with overflow := true } } := if_neg (not_lt.mpr h)

/-- Settles O19: the taking of FETCH_EVENT is `EventUnit.fetch` with the record as it was, and a posting looks at the room
in the queue. -/
theorem fetchEventTakesOldest : Obligations.FetchEventTakesOldest := by
  unfold Obligations.FetchEventTakesOldest
  refine ⟨fun dt seq s hs => ?_, fun code parameter s => ?_, rfl⟩
  · intro u left flag notifiable data
    have becomes : Becomes (exec (.fetchEvent dt seq) s)
        (replyOk seq (fetchData u.events) { u with events := u.events.fetch }) := takeEvent_takeFrame_becomes hs dt _
    have fetched : fetchData u.events = data := by
      cases h : u.events.queue with
      | nil => simp only [fetchData_of_empty h, data, h, flag]
      | cons r rest => simp only [fetchData_of_cons h, data, h, flag]
    have delay : u.events.delay = s.events.delay := elapse_delay dt s
    have removed : u.events.fetch = { u.events with
        queue := left, overflow := false
        latch := u.events.latch && notifiable, notice := u.events.notice && notifiable } := by
      simp only [notifiable, ← delay]
      rfl
    rwa [fetched, removed] at becomes
  · intro urgent
    have coded : code.urgent = urgent := by cases code <;> rfl
    rw [← coded]
    exact ⟨fun room => postEvent_of_room room code parameter, fun full => postEvent_of_full full code parameter⟩

end Sys2Proof.Machine
end

section
/-! SUPPORT. The queue of waiting commands, which no command changes, and the sparse tables, which few commands reach: every
command but those named by `writesTables` leaves both as they are. -/

namespace Sys2Proof.Machine

/-- The sparse tables of the part (notes/assumptions/13.md). -/
def State.sparse (s : State) : TableStore × Sparse SlotState × Sparse NetState × Sparse NetSignature :=
  (s.tables, s.board.slots, s.netStates, s.sigs.nets)

/-- The queue of waiting commands and the sparse tables. -/
def State.stored (s : State) : List Instr × TableStore × Sparse SlotState × Sparse NetState × Sparse NetSignature :=
  (s.pending, s.sparse)

@[simp] theorem State.sparse_eq_iff {a b : State} : a.sparse = b.sparse ↔ a.tables = b.tables
    ∧ a.board.slots = b.board.slots ∧ a.netStates = b.netStates ∧ a.sigs.nets = b.sigs.nets := by
  simp [State.sparse]

@[simp] theorem State.stored_eq_iff {a b : State} : a.stored = b.stored ↔ a.pending = b.pending ∧ a.sparse = b.sparse :=
  Prod.ext_iff

/-! ### Operations on the signature state that leave the signatures alone -/

@[simp] theorem State.setScan_nets (x : Scan) (s : State) : (s.setScan x).sigs.nets = s.sigs.nets := rfl

@[simp] theorem requestScan_nets (s : State) : (requestScan s).sigs.nets = s.sigs.nets := by rw [requestScan_eq]; rfl

@[simp] theorem endScan_nets (s : State) : (endScan s).sigs.nets = s.sigs.nets := by
  unfold endScan; split <;> rfl

@[simp] theorem moveScan_nets (i : Nat) (s : State) : (moveScan i s).sigs.nets = s.sigs.nets := by
  unfold moveScan; split <;> simp

@[simp] theorem removeDeferred_nets (i : Nat) (s : State) : (removeDeferred i s).sigs.nets = s.sigs.nets := by
  unfold removeDeferred; (repeat' split) <;> simp

@[simp] theorem placeExpired_nets (s : State) : (placeExpired s).sigs.nets = s.sigs.nets := by
  unfold placeExpired; (repeat' split) <;> simp

@[simp] theorem placeAllExpired_nets (s : State) : (placeAllExpired s).sigs.nets = s.sigs.nets :=
  repeat_keeps (fun s => s.sigs.nets) placeExpired placeExpired_nets _ s

@[simp] theorem expireDue_nets (s : State) : (expireDue s).sigs.nets = s.sigs.nets := by rw [expireDue_sigs]

@[simp] theorem deferValue_nets (x : SignatureValue) (notLearned : Bool) (s : State) :
    (deferValue x notLearned s).1.sigs.nets = s.sigs.nets := by
  unfold deferValue; (repeat' split) <;> simp

/-! ### Effects that leave the queue and the tables alone -/

theorem takeFrame_stored {f : State → State} (h : ∀ s, (f s).stored = s.stored) (s : State) :
    (takeFrame f s).stored = s.stored :=
  takeFrame_keeps State.stored (fun _ => rfl) (h s)

theorem takeSet_stored {write : State → State} (h : ∀ s, (write s).stored = s.stored) (seq : Byte) (x : Setting)
    (s : State) : (takeSet seq x write s).stored = s.stored :=
  takeFrame_stored (f := fun s => replyOk seq (be32 ((write s).setting x)) (write s)) h s

theorem acceptDispatch_stored (d : DispatchFields) (lane : LaneId) (s : State) :
    (acceptDispatch d lane s).stored = s.stored := by
  unfold acceptDispatch
  dsimp only
  split <;> simp

theorem takeDispatch_stored (seq : Byte) (payload : List Byte) (s : State) :
    (takeDispatch seq payload s).stored = s.stored := by
  unfold takeDispatch
  dsimp only
  split
  · rfl
  · split
    · rfl
    · exact acceptDispatch_stored _ _ s
    · rfl

theorem writeLaneEnable_stored (value : Word) (s : State) : (writeLaneEnable value s).stored = s.stored := by
  have switched := switchLanes_keeps State.stored (fun _ _ _ => rfl) s.link.laneEnable (clampMask value) s
  simpa [writeLaneEnable] using switched

theorem writeTbSource_stored (value : Word) (s : State) : (writeTbSource value s).stored = s.stored := by
  simp only [writeTbSource, cancelSwitch, requestSwitch]
  (repeat' split) <;> simp

theorem takeMarker_stored (n : LaneId) (s : State) : (takeMarker n s).stored = s.stored := by
  unfold takeMarker
  dsimp only
  (repeat' split) <;> simp

/-- The commands that reach a sparse table: TABLE frames, the starts of panels and batches, an XOUT, what brings a decision,
a merge or a judgement, and the resets (R2, R15, R16, R97, R117). -/
def writesTables : Instr → Bool
  | .table _ _ _ | .panelStart _ _ _ _ | .xout _ _ _ | .batchClear _ _ | .linkResetEffect _ | .burst _ _ _
  | .fault _ _ _ | .reductionComplete _ _ | .attemptExpiry _ _ | .relabel _ | .walkEnd _ | .scanStep _ | .replySent _
  | .reportSent _ => true
  | _ => false

/-- Every other command leaves the queue and the sparse tables as they are. -/
theorem effectOf_stored {c : Instr} (h : writesTables c = false) (s : State) : (effectOf c s).stored = s.stored := by
  cases c with
  | table | panelStart | xout | batchClear | linkResetEffect | burst | fault | reductionComplete | attemptExpiry | relabel
  | walkEnd | scanStep | replySent | reportSent => cases h
  | powerOn | resetPinAssert | resetPinRelease | orderSent | microsecondWrap | laneFrameDiscard => rfl
  | replyListOverflow | status | fetchEvent | linkReset => exact takeFrame_stored (fun _ => by rfl) s
  | setEventDelay | setRawCopy | setLearnCount | setDeferAge => exact takeSet_stored (fun _ => by rfl) _ _ s
  | linkFrameError => simp only [effectOf]; split <;> rfl
  | unknownFrameKind =>
    simp only [effectOf]
    split
    · rfl
    · exact takeFrame_stored (fun _ => by rfl) s
  | badRequest =>
    simp only [effectOf]
    split
    · exact takeFrame_stored (fun _ => by rfl) s
    · rfl
  | dispatch dt seq payload => exact takeFrame_stored (takeDispatch_stored seq payload) s
  | get => exact takeFrame_stored (fun s => by split <;> rfl) s
  | setLaneEnable dt seq value => exact takeSet_stored (writeLaneEnable_stored value) seq _ s
  | setTbSource dt seq value => exact takeSet_stored (writeTbSource_stored value) seq _ s
  | setTbFail => exact takeSet_stored (fun s => by split <;> rfl) _ _ s
  | group => exact takeFrame_stored (fun s => by unfold takeGroup; split <;> rfl) s
  | laneReset =>
    refine takeFrame_stored (fun s => ?_) s
    split <;> simp [replyOk, replyRefusal, resetLane]
  | marker dt lane => exact takeMarker_stored lane s
  | silenceTimeout => simp only [effectOf, failLane]; split <;> simp
  | deferralDeadline => simp [effectOf]
  | retuneSettleStart => simp only [effectOf, beginSettling]; split <;> rfl
  | retuneComplete => simp only [effectOf, finishRetune]; split <;> rfl
  | loopLock => simp only [effectOf, lockLoop]; split <;> simp
  | lockTimeout => simp only [effectOf, timeoutLock]; split <;> simp
  | switchRefinLoss => simp only [effectOf, loseSwitch]; split <;> simp
  | failover => simp only [effectOf, failOver]; split <;> simp
  | attnSent => simp only [effectOf, endAttn]; split <;> rfl
  | rawFrameSent => simp only [effectOf, endRaw]; split <;> rfl

/-! ### The queue under the other effects -/

theorem writeRecord_pending (t : TableId) (i : Nat) (b : List Byte) (s : State) :
    (writeRecord t i b s).pending = s.pending := by
  cases t with
  | net => simp only [writeRecord, netRecordEffect]; split <;> rfl
  | _ => rfl

theorem writeSegment_pending (seg : Segment) (s : State) : (writeSegment seg s).pending = s.pending := by
  have written := foldl_keeps State.pending (fun a (r : Nat × List Byte) => writeRecord seg.table r.1 r.2 a)
    (fun a r => writeRecord_pending seg.table r.1 r.2 a) seg.records s
  simp only [writeSegment]
  split
  · exact (requestScan_pending _).trans written
  · exact written

theorem takeTable_pending (seq : Byte) (payload : List Byte) (s : State) :
    (takeTable seq payload s).pending = s.pending := by
  simp only [takeTable]
  split <;> simp [writeSegment_pending]

@[simp] theorem powerUp_pending (cause : ResetCause) (low : Bool) (s : State) :
    (powerUp cause low s).pending = s.pending := by
  simp [powerUp]

/-- No effect changes the queue of waiting commands. -/
theorem effectOf_pending (c : Instr) (s : State) : (effectOf c s).pending = s.pending := by
  cases h : writesTables c with
  | false => exact (Prod.mk.inj (effectOf_stored h s)).1
  | true =>
    have framed {f : State → State} (hf : ∀ s, (f s).pending = s.pending) : (takeFrame f s).pending = s.pending :=
      takeFrame_keeps State.pending (fun _ => rfl) (hf s)
    cases c with
    | table dt seq payload => exact framed (takeTable_pending seq payload)
    | panelStart => exact framed fun s => by unfold takePanelStart; split <;> rfl
    | xout => exact framed fun s => by split <;> simp [replyOk, replyRefusal, xoutSlot]
    | batchClear => exact framed fun s => by unfold takeBatchClear; split <;> simp [replyOk, replyRefusal, clearBatch]
    | linkResetEffect => simp only [effectOf]; split <;> simp
    | burst => simp only [effectOf, takeBurst]; split <;> simp
    | fault => simp only [effectOf, takeFault]; split <;> simp
    | reductionComplete dt lane => exact completeReduction_pending lane s
    | attemptExpiry dt lane => exact expireAttempt_pending lane s
    | relabel => simp only [effectOf, walkStep]; (repeat' split) <;> simp
    | walkEnd => simp only [effectOf, walkFinish]; (repeat' split) <;> simp
    | scanStep => exact scanOne_pending s
    | replySent => simp only [effectOf, endReply]; (repeat' split) <;> simp
    | reportSent => simp only [effectOf, endReport]; split <;> simp
    | _ => cases h

/-! ### The statements -/

/-- Settles O1: with a command waiting, a step is that command's taking. -/
theorem stepTakesFrontCommand : Obligations.StepTakesFrontCommand := by
  unfold Obligations.StepTakesFrontCommand
  intro c rest s h
  rw [step, h]

theorem exec_pending {c : Instr} {s t : State} (h : exec c s = .next t) : t.pending = s.pending := by
  rcases exec_next_cases h with rfl | ⟨-, cause, low, rfl⟩ | rfl | rfl | rfl
  · rfl
  · exact powerUp_pending cause low s
  · exact elapse_pending c.dt s
  · rw [conclude_pending, effectOf_pending, elapse_pending]
  · rw [conclude_pending, arbiterAfter_pending, effectOf_pending, elapse_pending]

/-- No command faults or is refused. -/
theorem exec_answers (c : Instr) (s : State) : ∃ t, exec c s = .next t := by
  cases h : ofPower c with
  | false =>
    rw [exec_eq_effect h]
    split <;> exact ⟨_, rfl⟩
  | true =>
    cases c with
    | powerOn | resetPinAssert | resetPinRelease => exact ⟨_, rfl⟩
    | _ => cases h

/-- Settles O6: every command answers a next state, and no effect reaches the queue. -/
theorem execLeavesQueue : Obligations.ExecLeavesQueue := by
  unfold Obligations.ExecLeavesQueue
  intro c s
  obtain ⟨t, h⟩ := exec_answers c s
  exact ⟨t, h, exec_pending h⟩

end Sys2Proof.Machine
end

section
/-! SUPPORT. The canonical form of the sparse tables (notes/assumptions/13.md), table by table, and the operations that keep
it: every write goes through `Sparse.put`, the tables that are emptied are canonical, and a batch's signatures list the
presets alone, each of them a reference. -/

namespace Sys2Proof.Machine

/-- Every sparse table of the part is in its canonical form. -/
structure State.Canonical (s : State) : Prop where
  steps : s.tables.steps.wf stepInitial = true
  nets : s.tables.nets.wf netInitial = true
  ranges : s.tables.ranges.wf rangeInitial = true
  freqs : s.tables.freqs.wf freqInitial = true
  offsets : s.tables.offsets.wf offsetInitial = true
  slots : s.board.slots.wf slotInitial = true
  netStates : s.netStates.wf netStateInitial = true
  signatures : s.sigs.nets.wf signatureInitial = true

theorem State.canonical_iff (s : State) : s.canonical = true ↔ s.Canonical := by
  simp only [State.canonical, Bool.and_eq_true]
  constructor
  · rintro ⟨⟨⟨⟨⟨⟨⟨steps, nets⟩, ranges⟩, freqs⟩, offsets⟩, slots⟩, netStates⟩, signatures⟩
    exact ⟨steps, nets, ranges, freqs, offsets, slots, netStates, signatures⟩
  · rintro ⟨steps, nets, ranges, freqs, offsets, slots, netStates, signatures⟩
    exact ⟨⟨⟨⟨⟨⟨⟨steps, nets⟩, ranges⟩, freqs⟩, offsets⟩, slots⟩, netStates⟩, signatures⟩

/-- The form passes to a state with the same sparse tables. -/
theorem State.Canonical.of_sparse {a b : State} (h : a.Canonical) (e : b.sparse = a.sparse) : b.Canonical := by
  obtain ⟨tables, slots, netStates, signatures⟩ := State.sparse_eq_iff.mp e
  exact ⟨tables ▸ h.steps, tables ▸ h.nets, tables ▸ h.ranges, tables ▸ h.freqs, tables ▸ h.offsets, slots ▸ h.slots,
    netStates ▸ h.netStates, signatures ▸ h.signatures⟩

/-- A batch's signatures rise as the presets of the Net Table do, and each has a reference (R134). -/
theorem presetSignatures_wfFrom {lo : Nat} {nets : Sparse NetRecord} (w : Sparse.wfFrom netInitial lo nets = true) :
    Sparse.wfFrom signatureInitial lo (presetSignatures nets) = true := by
  induction nets generalizing lo with
  | nil => rfl
  | cons x rest ih =>
    obtain ⟨a, r⟩ := x
    simp only [Sparse.wfFrom, Bool.and_eq_true, decide_eq_true_eq] at w
    obtain ⟨⟨hlo, -⟩, wrest⟩ := w
    have listed := ih wrest
    have skipped := Sparse.wfFrom_mono signatureInitial (Nat.le_succ_of_le hlo) listed
    unfold presetSignatures at listed skipped ⊢
    cases hp : r.preset with
    | none => simpa [hp] using skipped
    | some p =>
      by_cases ha : a < 4095
      · simpa [hp, ha, Sparse.wfFrom, signatureInitial, hlo] using listed
      · simpa [hp, ha] using skipped

section
variable {s : State} (h : s.Canonical)
include h

/-! ### Writes -/

theorem State.Canonical.setOffset (n : LaneId) (range : Nat) (z : Offset) : (s.setOffset n range z).Canonical :=
  { h with offsets := Sparse.put_wf offsetInitial h.offsets _ z }

theorem State.Canonical.modifyNet (slot net : Nat) (f : NetState → NetState) : (s.modifyNet slot net f).Canonical :=
  { h with netStates := modifyNet_wf h.netStates slot net f }

theorem State.Canonical.setSignature (net : Nat) (x : NetSignature) : (s.setSignature net x).Canonical :=
  { h with signatures := Sparse.put_wf signatureInitial h.signatures net x }

theorem State.Canonical.raiseNet (slot : Nat) (net : Option Nat) (v : Verdict) : (raiseNet slot net v s).Canonical := by
  unfold Machine.raiseNet
  split
  · exact h.modifyNet _ _ _
  · exact h

theorem State.Canonical.placeReport (r : Report) (held : Bool) : (placeReport r held s).Canonical := h.of_sparse rfl

/-! ### Merges -/

theorem State.Canonical.queueMerge (r : MergeRequest) : (queueMerge r s).Canonical := h.of_sparse (by simp)

theorem State.Canonical.dropMerge (slot : Nat) : (dropMerge slot s).Canonical := h.of_sparse (by simp)

theorem State.Canonical.relabelMember (w : Walk) (n : Nat) : (relabelMember w n s).Canonical :=
  (h.modifyNet w.request.slot n (fun x => { x with leader := w.low })).of_sparse rfl

theorem State.Canonical.walkStep : (walkStep s).Canonical := by
  unfold Machine.walkStep
  split
  · exact h
  · split
    · exact h
    · exact h.relabelMember _ _

theorem State.Canonical.joinGroups (w : Walk) : (joinGroups w s).Canonical := by
  unfold Machine.joinGroups
  exact ((h.modifyNet _ _ _).modifyNet _ _ _).modifyNet _ _ _

theorem State.Canonical.endWalk (w : Walk) : (endWalk w s).Canonical :=
  (h.joinGroups w).of_sparse (by simp [Machine.endWalk])

theorem State.Canonical.walkFinish : (walkFinish s).Canonical := by
  unfold Machine.walkFinish
  split
  · exact h
  · split
    · exact h.endWalk _
    · exact h

theorem State.Canonical.clearGroups : (clearGroups s).Canonical := by
  have emptied : ({ s with netStates := [] } : State).Canonical := { h with netStates := rfl }
  exact emptied.of_sparse (by simp [Machine.clearGroups])

/-! ### Signatures -/

theorem State.Canonical.removeDeferred (i : Nat) : (removeDeferred i s).Canonical := h.of_sparse (by simp)

theorem State.Canonical.judgeDeferred (i : Nat) (d : DeferredEntry) (ref : Nat) : (judgeDeferred i d ref s).Canonical := by
  have placed := h.placeReport (resolvedReport d (judgeSignature d.value ref d.tolerance) s.now) false
  unfold Machine.judgeDeferred
  dsimp only
  split
  · exact (placed.raiseNet _ _ _).removeDeferred i
  · exact placed.removeDeferred i

theorem State.Canonical.examineEntry : (examineEntry s).Canonical := by
  unfold Machine.examineEntry
  split
  · exact h.of_sparse (by simp)
  · split
    · exact h.of_sparse (by simp)
    · split
      · split
        · exact h.judgeDeferred _ _ _
        · exact h.of_sparse rfl
      · exact h.of_sparse (by simp)

theorem State.Canonical.scanOne : (scanOne s).Canonical := by
  unfold Machine.scanOne
  split
  · exact h.examineEntry
  · exact h

omit h in
theorem runScan_canonical (k : Nat) {s : State} (h : s.Canonical) : (runScan k s).Canonical := by
  induction k generalizing s with
  | zero => exact h
  | succ k ih =>
    unfold runScan
    split
    · exact h
    · exact ih h.examineEntry

theorem State.Canonical.freezeReference (net ref : Nat) : (freezeReference net ref s).Canonical :=
  (h.setSignature net { list := [], source := none, reference := some ref }).of_sparse
    (by simp [Machine.freezeReference])

theorem State.Canonical.deferValue (x : SignatureValue) (notLearned : Bool) : (deferValue x notLearned s).1.Canonical := by
  have tables : (Machine.deferValue x notLearned s).1.sparse = s.sparse := by simp
  exact h.of_sparse tables

theorem State.Canonical.takeSignature (x : SignatureValue) : (takeSignature x s).1.Canonical := by
  unfold Machine.takeSignature
  dsimp only
  split
  · exact h
  · split
    · split
      · exact h.freezeReference _ _
      · exact (h.setSignature _ _).deferValue x false
    · exact h.deferValue x true

theorem State.Canonical.clearSignatures : (clearSignatures s).Canonical :=
  { h with signatures := presetSignatures_wfFrom h.nets }

/-! ### Decisions and the ends of an attempt -/

theorem State.Canonical.reportShort (e : Entry) (t : Terminal) : (reportShort e t s).Canonical := by
  have raised := fun held leader => ((h.placeReport (e.report (s.stepOf e) s.now .verdict (some .short) none t.value
    t.saturated false leader) held).raiseNet e.slot (s.stepOf e).netA .short).raiseNet e.slot (s.stepOf e).netB .short
  unfold Machine.reportShort
  dsimp only
  split
  · exact (raised _ _).queueMerge _
  · exact (raised _ _).dropMerge _

theorem State.Canonical.reportVerdict (e : Entry) (t : Terminal) : (reportVerdict e t s).Canonical := by
  have raised := ((h.placeReport (e.report (s.stepOf e) s.now .verdict (some t.verdict) t.cause t.value t.saturated
    false .absent) false).raiseNet e.slot (s.stepOf e).netA t.verdict).raiseNet e.slot (s.stepOf e).netB t.verdict
  unfold Machine.reportVerdict
  dsimp only
  split
  · exact raised
  · exact raised.setOffset _ _ _

theorem State.Canonical.closeEntry (e : Entry) : (closeEntry e s).Canonical := h.of_sparse (by simp)

theorem State.Canonical.retire (e : Entry) (t : Terminal) : (retire e t s).Canonical := by
  unfold Machine.retire
  split
  · exact (h.reportShort e t).closeEntry e
  · exact (h.reportVerdict e t).closeEntry e

theorem State.Canonical.retireSignature (e : Entry) (v : Nat) (sat : Bool) : (retireSignature e v sat s).Canonical := by
  have taken := h.takeSignature (signatureValueOf e (s.stepOf e) v sat)
  unfold Machine.retireSignature
  dsimp only
  split
  · exact ((taken.placeReport _ _).raiseNet _ _ _).closeEntry e
  · exact (taken.placeReport _ _).closeEntry e
  · exact (taken.placeReport _ _).closeEntry e

theorem State.Canonical.carryOut (e : Entry) (d : Decision) : (carryOut e d s).Canonical := by
  cases d with
  | retry escalate => exact h.of_sparse (by simp [Machine.carryOut])
  | skip => exact h.of_sparse (by simp [Machine.carryOut])
  | terminal t => exact h.retire e t
  | signature v sat => exact h.retireSignature e v sat

theorem State.Canonical.decideEntry (tag : Half) : (decideEntry tag s).Canonical := by
  unfold Machine.decideEntry
  split
  · exact h
  · split
    · split
      · exact h
      · exact h.carryOut _ _
    · exact h

theorem State.Canonical.tryDecide (tag : Half) : (tryDecide tag s).Canonical := by
  unfold Machine.tryDecide
  split
  · exact h.decideEntry tag
  · exact h

theorem State.Canonical.modifyEntry (tag : Half) (f : Entry → Entry) : (s.modifyEntry tag f).Canonical := h.of_sparse rfl

theorem State.Canonical.endAttempt (n : LaneId) (tag : Half) (how : AttemptEnd) : (endAttempt n tag how s).Canonical := by
  have ended : ((closeAttempt n s).modifyEntry tag (fun e => { e with state := .judging, deadline := none })).Canonical :=
    h.of_sparse rfl
  unfold Machine.endAttempt
  dsimp only
  split
  · exact ended
  · split
    · exact ended.of_sparse (by simp)
    · split
      · exact (ended.modifyEntry _ _).tryDecide tag
      · split
        · exact ended.of_sparse (by simp)
        · exact ended

theorem State.Canonical.takeAnswer (n : LaneId) (a : AttemptId) (how : AttemptEnd) :
    (takeAnswer n a how s).Canonical := by
  unfold Machine.takeAnswer
  split
  · split
    · exact h.endAttempt _ _ _
    · exact h.of_sparse (by simp)
    · exact h.of_sparse (by simp)
  · exact h

theorem State.Canonical.expireAttempt (n : LaneId) : (expireAttempt n s).Canonical := by
  unfold Machine.expireAttempt
  split
  · exact h
  · split
    · exact h
    · split
      · exact h
      · split
        · exact h.endAttempt _ _ _
        · exact h

theorem State.Canonical.completeReduction (n : LaneId) : (completeReduction n s).Canonical := by
  have idle : (s.setReduction n none).Canonical := h.of_sparse rfl
  unfold Machine.completeReduction
  split
  · exact h
  · dsimp only
    split
    · exact idle
    · exact (idle.modifyEntry _ _).tryDecide _

/-! ### The granting of a place -/

theorem State.Canonical.offerEntry (tag : Half) : (offerEntry tag s).Canonical := by
  unfold Machine.offerEntry
  split
  · exact h
  · split
    · exact h.of_sparse (by simp)
    · exact h.tryDecide tag

omit h in
theorem offerEntries_canonical (tags : List Half) {s : State} (h : s.Canonical) : (offerEntries tags s).Canonical := by
  induction tags generalizing s with
  | nil => exact h
  | cons tag rest ih =>
    unfold offerEntries
    dsimp only
    split
    · exact h.offerEntry tag
    · exact ih (h.offerEntry tag)

theorem State.Canonical.offerSignature : (offerSignature s).Canonical := by
  unfold Machine.offerSignature
  split
  · exact h.of_sparse (by simp)
  · split
    · exact runScan_canonical _ (h.of_sparse rfl)
    · exact h

theorem State.Canonical.offerSide (side : Side) : (offerSide side s).Canonical := by
  cases side with
  | dispatch => exact offerEntries_canonical _ h
  | signature => exact h.offerSignature

theorem State.Canonical.grantPlace : (grantPlace s).Canonical := by
  have first := h.offerSide s.firstSide
  have second := first.offerSide s.firstSide.other
  unfold Machine.grantPlace
  dsimp only
  split
  · exact first.of_sparse rfl
  · split
    · exact second.of_sparse rfl
    · exact second

theorem State.Canonical.endReport : (endReport s).Canonical := by
  unfold Machine.endReport
  split
  · have dropped : (dropReport (freeTransmitter s)).Canonical := h.of_sparse rfl
    exact dropped.grantPlace
  · exact h

/-! ### Downstream frames -/

omit h in
theorem takeFrame_canonical {f : State → State} (hf : ∀ s : State, s.Canonical → (f s).Canonical) {s : State}
    (h : s.Canonical) : (takeFrame f s).Canonical := by
  rcases takeFrame_cases f s with e | e | e <;> rw [e]
  · exact h
  · exact h.of_sparse rfl
  · exact hf s h

theorem State.Canonical.writeRecord (t : TableId) (i : Nat) (b : List Byte) : (writeRecord t i b s).Canonical := by
  cases t with
  | step => exact { h with steps := Sparse.put_wf stepInitial h.steps i _ }
  | range => exact { h with ranges := Sparse.put_wf rangeInitial h.ranges i _ }
  | freq => exact { h with freqs := Sparse.put_wf freqInitial h.freqs i _ }
  | net =>
    have written : ({ s with tables := { s.tables with
        nets := s.tables.nets.put netInitial i (decodeNet b) } } : State).Canonical :=
      { h with nets := Sparse.put_wf netInitial h.nets i _ }
    simp only [Machine.writeRecord, netRecordEffect]
    split
    · exact written
    · exact written.setSignature i _

theorem State.Canonical.writeSegment (seg : Segment) : (writeSegment seg s).Canonical := by
  have written := foldl_preserves (P := State.Canonical)
    (f := fun a (r : Nat × List Byte) => Machine.writeRecord seg.table r.1 r.2 a)
    (fun _ r ha => ha.writeRecord seg.table r.1 r.2) seg.records h
  unfold Machine.writeSegment
  dsimp only
  split
  · exact written.of_sparse (by simp)
  · exact written

theorem State.Canonical.takeTable (seq : Byte) (payload : List Byte) : (takeTable seq payload s).Canonical := by
  simp only [Machine.takeTable]
  split
  · exact h.of_sparse rfl
  · exact h.of_sparse rfl
  · exact h.of_sparse rfl
  · exact (h.writeSegment _).of_sparse rfl

theorem State.Canonical.openPanel (populated xout : Byte) : (openPanel populated xout s).Canonical :=
  { h with slots := (foldl_put_slots populated xout 8).1, netStates := rfl }

theorem State.Canonical.takePanelStart (seq populated xout : Byte) : (takePanelStart seq populated xout s).Canonical := by
  unfold Machine.takePanelStart
  split
  · exact h.of_sparse rfl
  · exact (h.openPanel populated xout).of_sparse rfl

theorem State.Canonical.xoutSlot (slot : Nat) : (xoutSlot slot s).Canonical := by
  have marked : ({ s with
      board := { s.board with slots := s.board.slots.put slotInitial slot .xout } } : State).Canonical :=
    { h with slots := Sparse.put_wf slotInitial h.slots slot _ }
  exact marked.of_sparse (by simp [Machine.xoutSlot])

theorem State.Canonical.clearBatch : (clearBatch s).Canonical := by
  have begun : (batchBegun s).Canonical := h.of_sparse rfl
  exact clearBatch_eq s ▸ begun.clearGroups.clearSignatures

theorem State.Canonical.takeBatchClear (seq : Byte) : (takeBatchClear seq s).Canonical := by
  unfold Machine.takeBatchClear
  split
  · exact h.of_sparse rfl
  · exact h.clearBatch.of_sparse rfl

/-! ### Every command -/

omit h in
/-- The power-on tables list nothing (R175). -/
theorem powerUp_canonical (cause : ResetCause) (low : Bool) (s : State) : (powerUp cause low s).Canonical := by
  have blank : State.blank.Canonical := (State.canonical_iff _).mp (by decide)
  exact blank.of_sparse (by simp [powerUp])

theorem State.Canonical.endReply : (endReply s).Canonical := by
  unfold Machine.endReply
  split
  · exact powerUp_canonical _ _ _
  · split
    · exact h.of_sparse rfl
    · exact h

/-- Every effect keeps the sparse tables canonical. -/
theorem State.Canonical.effectOf (c : Instr) : (effectOf c s).Canonical := by
  cases hc : writesTables c with
  | false => exact h.of_sparse (State.stored_eq_iff.mp (effectOf_stored hc s)).2
  | true =>
    cases c with
    | table dt seq payload => exact takeFrame_canonical (fun _ h => h.takeTable seq payload) h
    | panelStart dt seq populated xout => exact takeFrame_canonical (fun _ h => h.takePanelStart seq populated xout) h
    | xout dt seq slot =>
      simp only [Machine.effectOf]
      refine takeFrame_canonical (fun s h => ?_) h
      split
      · exact h.of_sparse rfl
      · exact (h.xoutSlot _).of_sparse rfl
    | batchClear dt seq => exact takeFrame_canonical (fun _ h => h.takeBatchClear seq) h
    | linkResetEffect dt =>
      simp only [Machine.effectOf]
      split
      · exact powerUp_canonical _ _ _
      · exact h
    | burst dt lane frame =>
      simp only [Machine.effectOf, takeBurst]
      split
      · exact h.takeAnswer _ _ _
      · exact h
    | fault dt lane frame =>
      simp only [Machine.effectOf, takeFault]
      split
      · exact h.takeAnswer _ _ _
      · exact h
    | reductionComplete dt lane => exact h.completeReduction lane
    | attemptExpiry dt lane => exact h.expireAttempt lane
    | relabel => exact h.walkStep
    | walkEnd => exact h.walkFinish
    | scanStep => exact h.scanOne
    | replySent => exact h.endReply
    | reportSent => exact h.endReport
    | _ => cases hc

theorem State.Canonical.elapse (n : Nat) : (elapse n s).Canonical := h.of_sparse (by simp)

theorem State.Canonical.conclude : (conclude s).Canonical := h.of_sparse (by simp)

theorem State.Canonical.arbiterAfter (before : State) : (arbiterAfter before s).Canonical := h.of_sparse (by simp)

end

theorem exec_canonical {c : Instr} {s t : State} (h : s.Canonical) (ht : exec c s = .next t) : t.Canonical := by
  have effect := (h.elapse c.dt).effectOf c
  rcases exec_next_cases ht with rfl | ⟨-, cause, low, rfl⟩ | rfl | rfl | rfl
  · exact h
  · exact powerUp_canonical cause low s
  · exact (h.elapse c.dt).of_sparse rfl
  · exact effect.conclude
  · exact (effect.arbiterAfter _).conclude

/-- Settles O58: what writes a sparse table writes it by `Sparse.put`, empties it, or fills it with the batch's presets. -/
theorem stepKeepsCanonicalTables : Obligations.StepKeepsCanonicalTables := by
  unfold Obligations.StepKeepsCanonicalTables
  intro s t hs ht
  have h : s.Canonical := (State.canonical_iff s).mp hs
  refine (State.canonical_iff t).mpr ?_
  unfold step at ht
  split at ht
  · cases ht
    unfold tick
    split
    · exact h
    · exact (h.elapse 1).of_sparse rfl
  · rename_i c rest _
    have waiting : ({ s with pending := rest } : State).Canonical := h.of_sparse rfl
    exact exec_canonical waiting ht

end Sys2Proof.Machine
end
